-- ==== Sys2Proof/Word.lean ====
section
/-! DEFINITION. The words of the model: bytes, 24-bit audio samples, and a table of a fixed number of entries. -/

namespace Sys2Proof

/-- One byte of a frame, a cell, a table entry or the stored image (R183). -/
abbrev Byte := BitVec 8

/-- One audio sample: 24 bits in two's complement, three bytes on the fibre (R183). -/
abbrev Sample := BitVec 24

/-- A table of exactly `n` entries, indexed from 0. -/
structure Tab (α : Type) (n : Nat) where
  /-- The entries in index order. -/
  toList : List α
  /-- There are exactly `n` of them. -/
  length_eq : toList.length = n
deriving DecidableEq, Repr

namespace Tab

variable {α β : Type} {n : Nat}

/-- The table whose every entry is `a`. -/
def fill (n : Nat) (a : α) : Tab α n := ⟨List.replicate n a, by simp⟩

/-- The table whose entry at `i` is `f i`. -/
def ofFn (n : Nat) (f : Nat → α) : Tab α n := ⟨(List.range n).map f, by simp⟩

/-- The entry at `i` (the type's default value beyond the table, where no rule looks). -/
def get [Inhabited α] (t : Tab α n) (i : Nat) : α := t.toList.getD i default

/-- The table with the entry at `i` replaced (unchanged where `i` lies beyond the table). -/
def put (t : Tab α n) (i : Nat) (a : α) : Tab α n := ⟨t.toList.set i a, by simp [t.length_eq]⟩

/-- The table with `f` applied to the entry at `i`. -/
def modify [Inhabited α] (t : Tab α n) (i : Nat) (f : α → α) : Tab α n := t.put i (f (t.get i))

/-- The table with `f` applied to every entry. -/
def map (f : α → β) (t : Tab α n) : Tab β n := ⟨t.toList.map f, by simp [t.length_eq]⟩

/-- The table whose entry at `i` is `f i` of the entry at `i`. -/
def mapIdx [Inhabited α] (f : Nat → α → β) (t : Tab α n) : Tab β n := ofFn n fun i => f i (t.get i)

/-- The first `n` values of a list, missing ones taken as `d`. -/
def ofList (n : Nat) (d : α) (l : List α) : Tab α n := ofFn n fun i => l.getD i d

end Tab

end Sys2Proof
end

