-- ==== Sys2Proof/Syntax.lean ====
section
/-! DEFINITION. The commands of the block: one constructor per row of spec/opcode_table.json, with the operands an event
from outside carries. A command that executes a service cell carries none: its operand is the cell at the head of the work
queue (R93), which State holds. -/

namespace Sys2Proof

/-- A node id, 0 to 3 (section 1.1). -/
abbrev NodeId := Fin 4

/-- A side of the node, named after its optical port (section 3.1). -/
inductive Side where
  | e
  | w
deriving DecidableEq, Repr, Inhabited

/-- The role strap (section 1.1). -/
inductive Role where
  | stage
  | desk
deriving DecidableEq, Repr, Inhabited

/-- The commands: the operations and events of spec/opcode_table.json. -/
inductive Instr where
  /-- HARD_RESET (R177), with the levels of the four strap pins as they are read. -/
  | hardReset (nodeId : NodeId) (role : Role) (protect : Bool)
  /-- IMAGE_LOAD_COMPLETE (R178), with the bytes the serial memory answered, or none when it did not answer. -/
  | imageLoadComplete (memory : Option (List Byte))
  /-- LIGHT_DETECTED (R5) at a port's fibre. -/
  | lightDetected (port : Side)
  /-- LOSS_OF_LIGHT (R10) at a port's fibre. -/
  | lossOfLight (port : Side)
  /-- RECEIVE_FRAME (R3): the bytes of one receive frame period of a port's fibre. -/
  | receiveFrame (port : Side) (period : List Byte)
  /-- LOCAL_FRAME_BOUNDARY (R24), with the 64 local input samples of the frame that begins. -/
  | localFrameBoundary (inputs : Tab Sample 64)
  /-- SUPERFRAME_BOUNDARY (R24), with the levels of the eight control line inputs (true: asserted). -/
  | superframeBoundary (levels : Tab Bool 8)
  /-- MASTER_ABSENCE_EXPIRY (R35). -/
  | masterAbsenceExpiry
  /-- ISOLATION_COUNT_EXPIRY (R33). -/
  | isolationCountExpiry
  /-- WRAP_HOLDOFF_EXPIRY (R48) of one side's span. -/
  | wrapHoldoffExpiry (side : Side)
  /-- RESTORE_HOLD_EXPIRY (R50) of one side's span. -/
  | restoreHoldExpiry (side : Side)
  /-- UNWRAP_APPLY (R53) of one side's span. -/
  | unwrapApply (side : Side)
  /-- BANK_SWAP_APPLY (R72). -/
  | bankSwapApply
  /-- PREAMP_CHANGE_APPLY (R117) of one input. -/
  | preampChangeApply (input : Fin 64)
  /-- TRACKING_APPLY (R131). -/
  | trackingApply
  /-- GRACE_EXPIRY (R111) of one input. -/
  | graceExpiry (input : Fin 64)
  /-- MAX_HOLD_EXPIRY (R160) of one class. -/
  | maxHoldExpiry (cls : Fin 4)
  /-- RAMP_EXPIRY (R142) of one bus. -/
  | rampExpiry (bus : Fin 16)
  /-- DEBOUNCE_FLIP (R165) of one control line. -/
  | debounceFlip (line : Fin 8)
  /-- ACK_DEADLINE_EXPIRY (R120) of the oldest outstanding command. -/
  | ackDeadlineExpiry
  /-- CONVERTER_ACK (R120): a converter names its address and channel on the return wire. -/
  | converterAck (address : Fin 4) (channel : Fin 16)
  /-- RELOAD_PASS_TIMEOUT (R179). -/
  | reloadPassTimeout
  /-- RING_CELL_COMPLETE (R37). -/
  | ringCellComplete
  /-- CONSOLE_CELL_RECEIVED (R89). -/
  | consoleCellReceived
  /-- WRITE_TABLE (R101). -/
  | writeTable
  /-- WRITE_SLOT_ENTRY (R68). -/
  | writeSlotEntry
  /-- WRITE_DROP_ENTRY (R67). -/
  | writeDropEntry
  /-- WRITE_DTRIM (R87). -/
  | writeDtrim
  /-- WRITE_STRIM (R124). -/
  | writeStrim
  /-- WRITE_TRACK (R134). -/
  | writeTrack
  /-- WRITE_BUS (R136). -/
  | writeBus
  /-- WRITE_SEND (R138). -/
  | writeSend
  /-- WRITE_TALKSRC (R156). -/
  | writeTalksrc
  /-- WRITE_LINES (R164). -/
  | writeLines
  /-- WRITE_SETS (R102). -/
  | writeSets
  /-- READ_TABLE (R98). -/
  | readTable
  /-- DATA_CELL_NEXT (R98). -/
  | dataCellNext
  /-- READ_DONE_ANSWER (R98). -/
  | readDoneAnswer
  /-- COPY_BANK (R70). -/
  | copyBank
  /-- SWAP_BANK (R71). -/
  | swapBank
  /-- LOOP (R16). -/
  | loop
  /-- PATTERN_CHECK (R21). -/
  | patternCheck
  /-- CLEAR_COUNTERS (R176). -/
  | clearCounters
  /-- CLAIM (R107). -/
  | claim
  /-- RELEASE (R109). -/
  | release
  /-- SET_PREAMP (R113). -/
  | setPreamp
  /-- REMOVE_SEND (R140). -/
  | removeSend
  /-- TALK_PRESS (R158). -/
  | talkPress
  /-- TALK_RELEASE (R159). -/
  | talkRelease
  /-- STEP (R129). -/
  | step
  /-- STORE (R180). -/
  | store
  /-- STORE_COMPLETE (R180), with the bytes that the read-back brought, or none when the memory failed the write or the
  read-back. -/
  | storeComplete (readBack : Option (List Byte))
  /-- REPORT (R181). -/
  | report
  /-- REPORT_FRAGMENT (R181). -/
  | reportFragment
  /-- REPORT_DONE (R181). -/
  | reportDone
  /-- RESTART (R182). -/
  | restart
  /-- NOTICE_SEND (R172). -/
  | noticeSend
  /-- UNKNOWN_ACTION (R96). -/
  | unknownAction
deriving DecidableEq, Repr

end Sys2Proof
end

