-- ==== Sys2Proof/Decode.lean ====
section
/-! DEFINITION. The reading of a command from a word. The block has no instruction encoding: no row of
spec/opcode_table.json gives bits, so no word spells a command. The cells that carry requests have an encoding of their own
(R185), which Machine/Cells.lean decodes. -/

namespace Sys2Proof

/-- The command that a word spells by the table's bits: none, since no row of the table has any. -/
def decodeTableWord (_nbits _w : Nat) : Option Instr := none

end Sys2Proof
end

