-- ==== Sys2Proof/Config.lean ====
section
/-! DEFINITION. The fixed sizes and limits of the part, each with the rule of spec/ that states it. The one
value that a step must have and the spec does not state is a free value, an opaque constant (assumption log, entry 1). -/

namespace Sys2Proof.Config

/-- Frames of a superframe (section 2.1). -/
abbrev framesPerSuperframe : Nat := 48
/-- Superframe numbers wrap at this count (section 2.1). -/
abbrev superframes : Nat := 65536
/-- Global frame counts wrap at this count: 65536 × 48 (section 2.1). -/
abbrev globalFrames : Nat := 3145728
/-- Audio slots of a primary frame (R1). -/
abbrev slotCount : Nat := 128
/-- Capacity of the work, outbound, console and relay queues (section 5.3.1, R38). -/
abbrev queueCap : Nat := 16
/-- Capacity of the step cell queue, in records (R126). -/
abbrev stepQueueCap : Nat := 32
/-- Capacity of the converter command queue (R119). -/
abbrev convQueueCap : Nat := 16
/-- Capacity of the outstanding list, and the acknowledgement deadline in local frames (R120). -/
abbrev ackWindow : Nat := 48
/-- Capacity of the notice queue (R169). -/
abbrev noticeCap : Nat := 16
/-- Capacity of the tracking schedule (R130). -/
abbrev scheduleCap : Nat := 32
/-- Sends of one bus's list at most (R137). -/
abbrev sendCap : Nat := 32
/-- A saturating counter stops here (R175). -/
abbrev counterMax : Nat := 65535
/-- Size of the image buffer (R178). -/
abbrev imageBufferBytes : Nat := 4096
/-- Byte times of a receive frame period, which is the length of a primary frame (R1). -/
abbrev frameBytes : Nat := 407
/-- Size of the external serial memory (section 4 of the introduction). -/
abbrev memoryBytes : Nat := 65536

/-- FREE VALUE: what stands in a console cell's bytes for a local frame that a counter load skipped, by the global frame count
at which the cell is examined and the frame's place in the cell time. R89 assembles the bytes of each of the eight frames and
does not say what stands for one that does not come about (assumption log, entry 1). -/
opaque skippedConsole : Nat → Nat → BitVec 24

end Sys2Proof.Config
end

