-- ==== Sys2Proof/Machine/State.lean ====
section
/-! DEFINITION. The state of the block as plain data, all that the spec gives it, and the state right after a hard reset.
Fields the spec does not name are the MODEL's own and say so; INVENTORY.md lists every one. -/

namespace Sys2Proof.Machine

/-- Why the machine stops with a fault. It has no constructor: the spec gives every command an effect in every state, so no
command faults (safe: the model never stops where the part goes on). -/
inductive Fault : Type where
deriving DecidableEq, Repr

/-- Why a command has no meaning. -/
inductive Refusal where
  /-- Raised by an arm of `exec` whose command has no meaning yet; no arm raises it (safe). -/
  | notModelled (mnemonic : String)
deriving DecidableEq, Repr

/-! ### Frames (R1, R184) -/

/-- The header of a frame. The supervision-only flag is not a field: it is set exactly in a supervision frame. -/
structure Header where
  /-- Byte 0 as received. -/
  frame : Nat
  superframe : Nat
  masterOrigin : Bool
  turned : Bool
  farFault : Bool
  restoreReady : Bool
  /-- Byte 4: four two-bit role marks. -/
  presence : Byte
  /-- Byte 5: four two-bit request levels. -/
  request : Byte
  /-- Bytes 6 to 15, whose meaning depends on the frame number. -/
  rest : Tab Byte 10
deriving DecidableEq, Repr

/-- The three lane bytes of a frame. -/
abbrev Lane := Tab Byte 3

/-- A frame of either kind (R1). -/
inductive Frame where
  | primary (header : Header) (slots : Tab Sample 128) (lane : Lane)
  | supervision (header : Header)
deriving DecidableEq, Repr

/-! ### Ports (chapter 1) -/

inductive LockState where
  | hunt
  | presync
  | locked
deriving DecidableEq, Repr, Inhabited

inductive LoopMode where
  | off
  | internal
  | line
deriving DecidableEq, Repr, Inhabited

/-- The four status flags of a port, or a delta for each (section 1.4). -/
structure PortFlags where
  light : Bool
  locked : Bool
  farFault : Bool
  turned : Bool
deriving DecidableEq, Repr, Inhabited

/-- The PRESYNC reference (R6): the marker's superframe number, and the receive frame periods since it, stopping at 49. -/
structure Reference where
  superframe : Nat
  age : Nat
deriving DecidableEq, Repr, Inhabited

structure Port where
  enabled : Bool
  /-- Pin: whether the fibre input carries light, while the port is enabled. -/
  fibreLight : Bool
  lock : LockState
  reference : Option Reference
  flags : PortFlags
  deltas : PortFlags
  loop : LoopMode
  /-- Count of consecutive bad frames (R9). -/
  badRun : Nat
  /-- The frame the framer gives this port in the current local frame period; none before the first. -/
  tx : Option Frame
  /-- The bytes of the last receive frame period since the LINE loop began and the fibre was lit, which it sends on (R18). -/
  received : List Byte
deriving DecidableEq, Repr, Inhabited

/-! ### Timing, ring and membership (chapters 2 and 3) -/

inductive ClockState where
  | free
  | locked
  | holdover
deriving DecidableEq, Repr, Inhabited

structure Timing where
  frame : Nat
  superframe : Nat
  clock : ClockState
  masterAbsence : Nat
  /-- The local frame timer runs: from port enable onward (R24). -/
  running : Bool
  /-- MODEL: a master-origin frame was taken in the current local frame period (R35). -/
  masterInPeriod : Bool
  /-- MODEL: the numbers already stand at the current local frame and its work is still to be done. -/
  frameOwed : Bool
deriving DecidableEq, Repr, Inhabited

inductive SpanState where
  | good
  | defect
  | failed
  | restoring
  | unwrapPending
deriving DecidableEq, Repr, Inhabited

/-- One span record (R44). -/
structure Span where
  state : SpanState
  holdoff : Nat
  restore : Nat
  ready : Bool
  unwrap : Option Nat
  namer : Bool
  partner : Option NodeId
  partnerReady : Bool
deriving DecidableEq, Repr, Inhabited

inductive RingState where
  | dark
  | forming
  | closed
  | wrappedE
  | wrappedW
  | isolated
deriving DecidableEq, Repr, Inhabited

structure Ring where
  state : RingState
  spanE : Span
  spanW : Span
  /-- A master-origin primary frame has been taken at the primary input since port enable (R62). -/
  masterTaken : Bool
deriving DecidableEq, Repr, Inhabited

inductive ReachState where
  | unknown
  | reachable
  | unreachable
deriving DecidableEq, Repr, Inhabited

/-- One reachability record (section 2.5); the role is none until a mark has been seen. -/
structure Reach where
  state : ReachState
  role : Option Role
  present : Nat
  absent : Nat
deriving DecidableEq, Repr, Inhabited

/-- Node 0's return store (R26). -/
structure ReturnStore where
  count : Nat
  slots : Tab Sample 128
deriving DecidableEq, Repr

/-- Six entries of node ids, none standing for NONE (R36). -/
abbrev Grants := Tab (Option NodeId) 6

/-- A grant list and the superframe it is for (R40). -/
structure GrantPlan where
  superframe : Nat
  list : Grants
deriving DecidableEq, Repr

structure Members where
  ringMap : List NodeId
  reach : Tab Reach 4
  isolation : Nat
  /-- MODEL: the isolation count has just reached 8 and its consequences are still to be drawn (R33). -/
  isolationOwed : Bool
  returnStore : Option ReturnStore
  /-- Presence field of the last good primary frame returned to node 0 since the previous frame 1 (R31). -/
  returnedMarks : Option Byte
  /-- The grant list in force (R42). -/
  grants : Grants
  /-- The list node 0 has computed for the next superframe (R40). -/
  nextGrants : Option GrantPlan
  /-- Arbitration rank of each node id (R41). -/
  ranks : Tab Nat 4
deriving DecidableEq, Repr

/-! ### Service cells and lanes (chapter 5) -/

/-- A service cell (R88, R185), reserved bits left out. -/
structure Cell where
  /-- The three destination bits: 0 to 3 a node, 7 ALL, 4 to 6 neither. -/
  dest : Fin 8
  destConsole : Bool
  origin : NodeId
  originConsole : Bool
  /-- Byte 2, the kind code. -/
  kind : Byte
  tag : Byte
  /-- Byte 4, the Length field as written. -/
  length : Nat
  relayed : Bool
  payload : Tab Byte 16
deriving DecidableEq, Repr

/-- A step record (R126). -/
structure StepRecord where
  dest : NodeId
  input : Nat
  delta : Int
  apply : Nat
  exempt : NodeId
deriving DecidableEq, Repr, Inhabited

/-- The ring lane bytes of the current cell time (R37). -/
structure LaneIn where
  parts : Tab (Option Lane) 8
  /-- MODEL: this cell time's bytes have been judged. -/
  judged : Bool
  /-- MODEL: the writer of this cell time as a RESTART found it in the grant list; none where none was known (R104). -/
  writer : Option NodeId
deriving DecidableEq, Repr

/-- MODEL: at node 0, the bytes of the cell time before the current one while its last frames have not returned, and the node
whose cell they carry (R26, R37, R42). -/
structure LateLane where
  superframe : Nat
  cellTime : Nat
  parts : Tab (Option Lane) 8
  writer : NodeId
deriving DecidableEq, Repr

/-- The console lane bytes of the current console cell time (R89). -/
structure ConsoleIn where
  parts : Tab (Option Lane) 8
  /-- MODEL: this console cell time's bytes have been examined. -/
  judged : Bool
deriving DecidableEq, Repr

/-- The cell being written into the ring lane (R36). -/
structure LaneOut where
  cellTime : Nat
  bytes : Tab Byte 24
deriving DecidableEq, Repr

/-- A READ in progress at the head of the work queue (R98). -/
structure Reading where
  /-- The next unread index, or for NODE and COUNT the next segment. -/
  next : Nat
  /-- Entries, or segments, still to be carried. -/
  left : Nat
  /-- DATA cells formed so far. -/
  cells : Nat
  /-- The record of NODE or COUNT as the first segment took it (R187). -/
  record : List Byte
deriving DecidableEq, Repr, Inhabited

structure Service where
  work : List Cell
  outbound : List Cell
  console : List Cell
  stepQueue : List StepRecord
  relay : List Cell
  reading : Option Reading
  laneIn : LaneIn
  laneLate : Option LateLane
  laneOut : Option LaneOut
  consoleIn : ConsoleIn
  /-- The cell being sent to the host in the current console cell time (R89). -/
  consoleOut : Tab Byte 24
deriving DecidableEq, Repr

/-! ### Slot plan and presentation (chapter 4) -/

inductive Bank where
  | a
  | b
deriving DecidableEq, Repr, Inhabited

/-- What an inserter puts in a slot (R66). -/
inductive SlotSource where
  | localIn (n : Fin 64)
  | bus (b : Fin 16)
  | pattern
  | silent
deriving DecidableEq, Repr, Inhabited

structure SlotEntry where
  inserter : Option NodeId
  source : SlotSource
deriving DecidableEq, Repr, Inhabited

/-- What a local output plays (R67). -/
inductive DropSource where
  | ring (s : Fin 128)
  | bus (b : Fin 16)
  | localIn (n : Fin 64)
  | silent
deriving DecidableEq, Repr, Inhabited

/-- The entry of a slot nobody fills (R69). -/
def SlotEntry.empty : SlotEntry := ⟨none, .silent⟩

/-- The kept copy of the old active slot bank, and the apply superframe of its flip (R72). -/
structure Outgoing where
  apply : Nat
  plan : Tab SlotEntry 128
deriving DecidableEq, Repr

structure Plan where
  active : Bank
  swap : Option Nat
  slotA : Tab SlotEntry 128
  slotB : Tab SlotEntry 128
  dropA : Tab DropSource 64
  dropB : Tab DropSource 64
  outgoing : Option Outgoing
  dtrim : Tab Int 64
deriving DecidableEq, Repr

inductive SlotState where
  | good
  | conceal
  | stale
deriving DecidableEq, Repr, Inhabited

/-- A sample with its valid mark set, in position `capture mod 64` of its slot (R77). -/
structure Filed where
  capture : Nat
  value : Sample
deriving DecidableEq, Repr, Inhabited

/-- One slot of the presentation buffer: its record and its valid positions, positions rising (R77). -/
structure SlotPres where
  state : SlotState
  last : Sample
  filed : List Filed
deriving DecidableEq, Repr, Inhabited

structure Present where
  slots : Tab SlotPres 128
  /-- The working presentation delay D in the current local frame (R80). -/
  delay : Nat
  /-- D from the next local frame on (R80). -/
  delayNext : Nat
  /-- D has left its start value (R80). -/
  delayStarted : Bool
  /-- The capture frame presented at the most recent local frame boundary. -/
  lastCapture : Nat
  /-- MODEL: nothing has been presented since a hard reset or a jump, so no repeat is owed (R80, R81). -/
  fresh : Bool
deriving DecidableEq, Repr

/-- The pattern checker (R21). A change of mode or slot takes effect from the next local frame: `watch` is the slot that the
current local frame's comparison watches, none while that frame has the checker OFF. -/
structure Checker where
  on : Bool
  slot : Nat
  watch : Option Nat
deriving DecidableEq, Repr, Inhabited

/-- Audio at the pins and the mix outputs, for the current local frame. -/
structure Audio where
  localIn : Tab Sample 64
  localOut : Tab Sample 64
  busOut : Tab Sample 16
deriving DecidableEq, Repr

/-! ### Preamplifiers and tracking (chapters 6 and 7) -/

/-- Steps, pad and phantom of a preamp. -/
structure Gain where
  steps : Nat
  pad : Bool
  phantom : Bool
deriving DecidableEq, Repr, Inhabited

inductive OwnerState where
  | held
  | grace
  | orphaned
deriving DecidableEq, Repr, Inhabited

structure PendingChange where
  target : Gain
  delta : Int
  apply : Nat
  exempt : NodeId
deriving DecidableEq, Repr, Inhabited

structure NextTarget where
  target : Gain
  requester : NodeId
deriving DecidableEq, Repr, Inhabited

/-- One entry of the preamp table (R105). -/
structure PreampEntry where
  gain : Gain
  owner : Option NodeId
  /-- Meaningful only when the owner is not NONE. -/
  ownerState : OwnerState
  grace : Nat
  pending : Option PendingChange
  next : Option NextTarget
  trimLimit : Bool
  confirmed : Bool
deriving DecidableEq, Repr, Inhabited

/-- A converter command (R119). -/
structure ConvCommand where
  address : Nat
  channel : Nat
  gain : Gain
  apply : Nat
deriving DecidableEq, Repr, Inhabited

/-- A transferred command awaiting its acknowledgement, and the local frames left to its deadline (R120). -/
structure Outstanding where
  command : ConvCommand
  left : Nat
deriving DecidableEq, Repr, Inhabited

/-- What the converter line carries of a command: of the apply superframe the low four bits (R119). -/
structure ConvWord where
  address : Nat
  channel : Nat
  gain : Gain
  applyBits : Nat
deriving DecidableEq, Repr, Inhabited

structure Preamp where
  entries : Tab PreampEntry 64
  queue : List ConvCommand
  outstanding : List Outstanding
  /-- The commands of the running reload pass that are still to be sent; empty while none runs (R119, R179). -/
  reload : List ConvCommand
  /-- The start-up pass of R179 has started since the hard reset. -/
  reloadStarted : Bool
  /-- Pin: the command transferred on the converter line in the current local frame. -/
  transfer : Option ConvWord
  /-- Pin: the superframe strobe pulsed at the start of the current local frame, with its four bits. -/
  strobe : Option Nat
deriving DecidableEq, Repr

/-- An entry of the tracking schedule (R130). -/
structure ScheduleEntry where
  stage : NodeId
  input : Nat
  amount : Int
  apply : Nat
deriving DecidableEq, Repr, Inhabited

structure Tracking where
  strim : Tab Int 64
  table : Tab Int 256
  schedule : List ScheduleEntry
deriving DecidableEq, Repr

/-! ### Mix engine and talkback (chapters 8 and 9) -/

/-- A source of a send or of a talker: a local input or a presented ring slot. -/
inductive AudioSource where
  | localIn (n : Fin 64)
  | ring (s : Fin 128)
deriving DecidableEq, Repr, Inhabited

structure Send where
  source : AudioSource
  target : Nat
  applied : Nat
  draining : Bool
deriving DecidableEq, Repr, Inhabited

/-- One bus record and its send list; the send count is the list's length (R136, R137). -/
structure Bus where
  masterTarget : Nat
  masterApplied : Nat
  talkLevel : Nat
  duckDepth : Nat
  duckApplied : Nat
  prescaler : Nat
  ramp : Nat
  clips : Nat
  sends : List Send
  /-- MODEL: the ramp expiry of the coming boundary has been taken (R142). -/
  rampTaken : Bool
  /-- MODEL: the duck applied value before an expiry taken ahead of its boundary, until that boundary or a BUS write (R144). -/
  duckBefore : Option Nat
deriving DecidableEq, Repr, Inhabited

structure TalkSource where
  enabled : Bool
  cls : Nat
  audio : AudioSource
  targets : BitVec 16
  /-- The line that presses the source, or none for CELL. -/
  trigger : Option (Fin 8)
deriving DecidableEq, Repr, Inhabited

/-- One row of the talk register (R157). -/
structure TalkRow where
  inService : Option (Fin 8)
  holding : Option (Fin 8)
  timer : Option Nat
deriving DecidableEq, Repr, Inhabited

structure Talk where
  sources : Tab TalkSource 8
  register : Tab TalkRow 4
deriving DecidableEq, Repr

inductive LineFunction where
  | off
  | talkButton (k : Fin 8)
  | tally (k : Fin 8)
  | fault
deriving DecidableEq, Repr, Inhabited

/-- One line record (R164): pressed and asserted are true, none is no sample, or not driven. -/
structure Line where
  function : LineFunction
  pressed : Bool
  changes : Nat
  sampled : Option Bool
  output : Option Bool
deriving DecidableEq, Repr, Inhabited

structure Lines where
  records : Tab Line 8
  /-- Pins: the input levels as last sampled. -/
  levels : Tab Bool 8
deriving DecidableEq, Repr

/-! ### Settings, notices, counters and image (chapters 5, 10 and 11) -/

/-- The SETS record (R102). -/
structure Sets where
  presentationDelay : Nat
  wrapHoldoff : Nat
  restoreHold : Nat
  orphanGrace : Nat
  talkMaxHold : Nat
  mixMaster : Nat
  noticeTarget : Nat
  /-- Bit (kind − 1) enables a notice kind (R186). -/
  noticeMask : Nat
deriving DecidableEq, Repr, Inhabited

inductive NoticeKind where
  | port
  | ring
  | reach
  | clock
  | image
  | restarted
  | bank
  | owner
  | converter
  | stepLate
  | clip
  | talkRefused
  | talkEnded
deriving DecidableEq, Repr, Inhabited

/-- A queued notice (R169); its class is its kind's, its age its place in the queue. -/
structure Notice where
  kind : NoticeKind
  subject : Nat
  detail : List Byte
  merged : Nat
deriving DecidableEq, Repr, Inhabited

/-- A notice as the event under way raises it, before the notice queue takes it (R169). -/
structure Raised where
  kind : NoticeKind
  subject : Nat
  detail : List Byte
deriving DecidableEq, Repr, Inhabited

/-- The counters of R175, in the order of the COUNT record (R187). -/
inductive CounterId where
  | crcE
  | crcW
  | lossE
  | lossW
  | lateFrames
  | cellErrors
  | cellDiscards
  | consoleDiscards
  | noticesLost
  | talkRefusals
  | converterFaults
  | lateCompensations
  | patternMismatches
  | patternConcealed
deriving DecidableEq, Repr, Inhabited

/-- The OPTN values read at the last hard reset (R179). -/
structure Optn where
  /-- The phantom start policy: true for APPLY, false for BLOCK. -/
  applyPhantom : Bool
  converters : Nat
  startDelay : Nat
deriving DecidableEq, Repr, Inhabited

/-- A REPORT being streamed (R181); the record stands in the image buffer. -/
structure ReportStream where
  offset : Nat
  cells : Nat
  dest : NodeId
  destConsole : Bool
  tag : Byte
deriving DecidableEq, Repr, Inhabited

inductive Loader where
  | idle
  | storing
  | reporting (stream : ReportStream)
deriving DecidableEq, Repr, Inhabited

structure Image where
  /-- The start-up read of the serial memory is in progress (R177). -/
  loading : Bool
  optn : Optn
  /-- The retained image's chunk area; none when it is empty (R178). -/
  retained : Option (List Byte)
  loader : Loader
  /-- The image buffer: the image being stored, its header first (R188), or the report record. -/
  buffer : List Byte
deriving DecidableEq, Repr, Inhabited

/-- The strap pins as read at the last hard reset (R177). -/
structure Straps where
  nodeId : NodeId
  role : Role
  protect : Bool
deriving DecidableEq, Repr, Inhabited

/-- The whole state of the block. -/
structure State where
  straps : Straps
  portE : Port
  portW : Port
  timing : Timing
  ring : Ring
  members : Members
  service : Service
  plan : Plan
  present : Present
  checker : Checker
  audio : Audio
  preamp : Preamp
  tracking : Tracking
  buses : Tab Bus 16
  talk : Talk
  lines : Lines
  sets : Sets
  notices : List Notice
  /-- MODEL: the notices that the event under way has raised so far; empty between events (R169). -/
  raised : List Raised
  counters : Tab Nat 14
  image : Image
  /-- MODEL: the commands that are waiting, first in, first out. -/
  pending : List Instr
deriving DecidableEq, Repr

/-! ### The state after a hard reset -/

/-- A port as a hard reset leaves it (R23). -/
def Port.afterReset : Port :=
  { enabled := false, fibreLight := false, lock := .hunt, reference := none, flags := ⟨false, false, false, false⟩,
    deltas := ⟨false, false, false, false⟩, loop := .off, badRun := 0, tx := none, received := [] }

/-- A span record as a hard reset leaves it (R44). -/
def Span.afterReset : Span :=
  { state := .good, holdoff := 0, restore := 0, ready := false, unwrap := none, namer := false, partner := none,
    partnerReady := false }

/-- The defaults of the SETS fields (R102). -/
def Sets.defaults : Sets :=
  { presentationDelay := 24, wrapHoldoff := 1, restoreHold := 500, orphanGrace := 2000, talkMaxHold := 0, mixMaster := 1,
    noticeTarget := 0, noticeMask := 8191 }

/-- A preamp entry as a hard reset leaves it where the image has no PAMP chunk (R105). -/
def PreampEntry.afterReset : PreampEntry :=
  { gain := ⟨0, false, false⟩, owner := none, ownerState := .held, grace := 0, pending := none, next := none,
    trimLimit := false, confirmed := false }

/-- A bus as a hard reset leaves it where the image has no BUSS and no SEND chunk (R154). -/
def Bus.afterReset : Bus :=
  { masterTarget := 0, masterApplied := 0, talkLevel := 0, duckDepth := 0, duckApplied := 0, prescaler := 0, ramp := 0,
    clips := 0, sends := [], rampTaken := false, duckBefore := none }

/-- The default talk source entry (R155). -/
def TalkSource.defaults : TalkSource :=
  { enabled := false, cls := 0, audio := .localIn 0, targets := 0, trigger := none }

/-- An empty row of the talk register (R168). -/
def TalkRow.empty : TalkRow := ⟨none, none, none⟩

/-- A control line as a hard reset leaves it where the image has no LINE chunk (R164). -/
def Line.afterReset : Line := ⟨.off, false, 0, none, none⟩

/-- An empty assembly of a ring cell time. -/
def LaneIn.empty : LaneIn := ⟨.fill 8 none, false, none⟩

/-- An empty assembly of a console cell time. -/
def ConsoleIn.empty : ConsoleIn := ⟨.fill 8 none, false⟩

/-- The state right after the start of a hard reset with these straps, before the image read completes (R177, and the
tables of section 2.10, 3.10, 4.9, 5.7, R135, R154, R168, R176 and R23). R32 gives the two run counts of the node's own
record no value: they stand at 0 and 0, and nothing moves them (DESIGN CHOICE, assumption log entry 50). -/
def State.ofStraps (id : NodeId) (role : Role) (protect : Bool) (pending : List Instr) : State :=
  { straps := ⟨id, role, protect⟩
    portE := .afterReset
    portW := .afterReset
    timing := { frame := 0, superframe := 0, clock := if id = 0 then .free else .holdover, masterAbsence := 0,
                running := false, masterInPeriod := false, frameOwed := false }
    ring := { state := .dark, spanE := .afterReset, spanW := .afterReset, masterTaken := false }
    members := { ringMap := if id = 0 then [0] else []
                 reach := (Tab.fill 4 ⟨.unknown, none, 0, 0⟩).put id.val ⟨.reachable, some role, 0, 0⟩
                 isolation := 0, isolationOwed := false, returnStore := none, returnedMarks := none
                 grants := .fill 6 none, nextGrants := none, ranks := .ofFn 4 fun i => i }
    service := { work := [], outbound := [], console := [], stepQueue := [], relay := [], reading := none
                 laneIn := .empty, laneLate := none, laneOut := none, consoleIn := .empty, consoleOut := .fill 24 0 }
    plan := { active := .a, swap := none, slotA := .fill 128 .empty, slotB := .fill 128 .empty, dropA := .fill 64 .silent
              dropB := .fill 64 .silent, outgoing := none, dtrim := .fill 64 0 }
    present := { slots := .fill 128 ⟨.stale, 0, []⟩, delay := 24, delayNext := 24, delayStarted := false, lastCapture := 0
                 fresh := true }
    checker := ⟨false, 0, none⟩
    audio := { localIn := .fill 64 0, localOut := .fill 64 0, busOut := .fill 16 0 }
    preamp := { entries := .fill 64 .afterReset, queue := [], outstanding := [], reload := [], reloadStarted := false
                transfer := none, strobe := none }
    tracking := { strim := .fill 64 0, table := .fill 256 0, schedule := [] }
    buses := .fill 16 .afterReset
    talk := { sources := .fill 8 .defaults, register := .fill 4 .empty }
    lines := { records := .fill 8 .afterReset, levels := .fill 8 false }
    sets := .defaults
    notices := []
    raised := []
    counters := .fill 14 0
    image := { loading := true, optn := ⟨false, 4, 24⟩, retained := none, loader := .idle, buffer := [] }
    pending := pending }

/-- The machine right after reset: node 0, strapped as a DESK without image protect, no command waiting. The spec gives the
straps no value of their own (DESIGN CHOICE, assumption log entry 2); HARD_RESET reads any others. -/
def State.reset : State := State.ofStraps 0 .desk false []

end Sys2Proof.Machine
end

