-- ==== Sys2Proof/Machine/Bits.lean ====
section
/-! DEFINITION. Byte order, bit fields and the two CRCs (R183). -/

namespace Sys2Proof.Machine

/-- The byte of a number below 256; a larger number keeps its low eight bits. -/
def byte (n : Nat) : Byte := BitVec.ofNat 8 n

/-- The byte of a flag. -/
def flagByte (b : Bool) : Byte := if b then 1 else 0

/-- A two-byte number, least significant byte first (R183). -/
def word16 (n : Nat) : List Byte := [byte n, byte (n / 256)]

/-- A three-byte number, least significant byte first (R183). -/
def word24 (n : Nat) : List Byte := [byte n, byte (n / 256), byte (n / 65536)]

/-- A signed byte in two's complement (R183). -/
def signedByte (x : Int) : Byte := BitVec.ofInt 8 x

/-- A signed number in two bytes, two's complement, least significant byte first (R183). -/
def signed16 (x : Int) : List Byte := word16 (BitVec.ofInt 16 x).toNat

/-- The byte at a position of a list, 0 beyond its end. -/
def byteAt (l : List Byte) (i : Nat) : Byte := l.getD i 0

/-- The two-byte number that starts at a position, least significant byte first. -/
def wordAt (l : List Byte) (i : Nat) : Nat := (byteAt l i).toNat + 256 * (byteAt l (i + 1)).toNat

/-- The four-bit field k of a list of bytes: field 0 is the low half of byte 0 (R184). -/
def nibbleAt (l : List Byte) (k : Nat) : Nat := (byteAt l (k / 2)).toNat / (if k % 2 = 0 then 1 else 16) % 16

/-- The two-bit field i of a byte (R184). -/
def pairAt (b : Byte) (i : Nat) : Nat := b.toNat / 4 ^ i % 4

/-- A byte with its two-bit field i replaced. -/
def setPair (b : Byte) (i v : Nat) : Byte := byte (b.toNat - pairAt b i * 4 ^ i + v % 4 * 4 ^ i)

/-- One bit of a byte. -/
def bitAt (b : Byte) (i : Nat) : Bool := b.getLsbD i

/-- The number whose bit i is the i-th flag. -/
def ofFlags (l : List Bool) : Nat := l.foldr (fun b n => 2 * n + if b then 1 else 0) 0

/-- The three bytes of a sample, least significant first (R183). -/
def sampleBytes (x : Sample) : List Byte := word24 x.toNat

/-- The sample of three bytes, least significant first (R183). -/
def sampleAt (l : List Byte) (i : Nat) : Sample :=
  BitVec.ofNat 24 ((byteAt l i).toNat + 256 * (byteAt l (i + 1)).toNat + 65536 * (byteAt l (i + 2)).toNat)

/-- One bit of the CRC-16: the register shifts left and folds in 0x1021 (R183). -/
def crc16Bit (c : BitVec 16) : BitVec 16 := if c.getMsbD 0 then (c <<< 1) ^^^ 0x1021#16 else c <<< 1

/-- One byte of the CRC-16, most significant bit first (R183). -/
def crc16Byte (c : BitVec 16) (b : Byte) : BitVec 16 :=
  (List.replicate 8 ()).foldl (fun c _ => crc16Bit c) (c ^^^ (b.zeroExtend 16 <<< 8))

/-- The CRC-16 of frames and cells (R2, R183). -/
def crc16 (l : List Byte) : BitVec 16 := l.foldl crc16Byte 0xFFFF#16

/-- A CRC-16 result as it is sent, most significant byte first (R183). -/
def crc16Bytes (l : List Byte) : List Byte := [byte ((crc16 l).toNat / 256), byte (crc16 l).toNat]

/-- One bit of the reflected CRC-32 (R183). -/
def crc32Bit (c : BitVec 32) : BitVec 32 := if c.getLsbD 0 then (c >>> 1) ^^^ 0xEDB88320#32 else c >>> 1

/-- One byte of the CRC-32, least significant bit first (R183). -/
def crc32Byte (c : BitVec 32) (b : Byte) : BitVec 32 :=
  (List.replicate 8 ()).foldl (fun c _ => crc32Bit c) (c ^^^ b.zeroExtend 32)

/-- The CRC-32 of the stored image (R178, R183). -/
def crc32 (l : List Byte) : BitVec 32 := ~~~ (l.foldl crc32Byte 0xFFFFFFFF#32)

/-- A CRC-32 result as it is stored, least significant byte first (R183). -/
def crc32Bytes (l : List Byte) : List Byte :=
  let c := (crc32 l).toNat
  [byte c, byte (c / 256), byte (c / 65536), byte (c / 16777216)]

/-- A number brought within a range (section 2.3). -/
def clampNat (x lo hi : Nat) : Nat := max lo (min x hi)

/-- A signed number brought within a range (section 2.3). -/
def clampInt (x lo hi : Int) : Int := max lo (min x hi)

/-- The sample nearest to an exact result: clamped to the 24-bit range (R85, R151). -/
def clampSample (x : Int) : Sample := BitVec.ofInt 24 (clampInt x (-8388608) 8388607)

/-- A list cut into whole pieces of k entries; a part-piece at the end is dropped (R188). -/
def pieces (k : Nat) : Nat → List Byte → List (List Byte)
  | 0, _ => []
  | n + 1, l => if l.length < k then [] else l.take k :: pieces k n (l.drop k)

end Sys2Proof.Machine
end

