-- ==== Sys2Proof/Machine/Ops.lean ====
section
/-! DEFINITION. The named operations every family shares: updates of one group of the state, the wrapping counters of
section 2.2, saturating counters, path order, the notice queue's intake and the control line outputs. -/

namespace Sys2Proof.Machine

/-! ### Updates of one group of the state -/

/-- The state with its straps replaced. -/
def State.setStraps (s : State) (x : Straps) : State := { s with straps := x }
/-- The state with its portE replaced. -/
def State.setPortE (s : State) (x : Port) : State := { s with portE := x }
/-- The state with its portW replaced. -/
def State.setPortW (s : State) (x : Port) : State := { s with portW := x }
/-- The state with its timing replaced. -/
def State.setTiming (s : State) (x : Timing) : State := { s with timing := x }
/-- The state with its ring replaced. -/
def State.setRing (s : State) (x : Ring) : State := { s with ring := x }
/-- The state with its members replaced. -/
def State.setMembers (s : State) (x : Members) : State := { s with members := x }
/-- The state with its service replaced. -/
def State.setService (s : State) (x : Service) : State := { s with service := x }
/-- The state with its plan replaced. -/
def State.setPlan (s : State) (x : Plan) : State := { s with plan := x }
/-- The state with its present replaced. -/
def State.setPresent (s : State) (x : Present) : State := { s with present := x }
/-- The state with its checker replaced. -/
def State.setChecker (s : State) (x : Checker) : State := { s with checker := x }
/-- The state with its audio replaced. -/
def State.setAudio (s : State) (x : Audio) : State := { s with audio := x }
/-- The state with its preamp replaced. -/
def State.setPreamp (s : State) (x : Preamp) : State := { s with preamp := x }
/-- The state with its tracking replaced. -/
def State.setTracking (s : State) (x : Tracking) : State := { s with tracking := x }
/-- The state with its buses replaced. -/
def State.setBuses (s : State) (x : Tab Bus 16) : State := { s with buses := x }
/-- The state with its talk replaced. -/
def State.setTalk (s : State) (x : Talk) : State := { s with talk := x }
/-- The state with its lines replaced. -/
def State.setLines (s : State) (x : Lines) : State := { s with lines := x }
/-- The state with its sets replaced. -/
def State.setSets (s : State) (x : Sets) : State := { s with sets := x }
/-- The state with its notices replaced. -/
def State.setNotices (s : State) (x : List Notice) : State := { s with notices := x }
/-- The state with its raised replaced. -/
def State.setRaised (s : State) (x : List Raised) : State := { s with raised := x }
/-- The state with its counters replaced. -/
def State.setCounters (s : State) (x : Tab Nat 14) : State := { s with counters := x }
/-- The state with its image replaced. -/
def State.setImage (s : State) (x : Image) : State := { s with image := x }

/-! ### Numbering (sections 2.1 and 2.2) -/

/-- Superframe a is at or after superframe b (section 2.2). -/
def sfAtOrAfter (a b : Nat) : Bool := (a + 65536 - b % 65536) % 65536 < 32768

/-- Superframe a is after superframe b: at or after it and another one. -/
def sfAfter (a b : Nat) : Bool := sfAtOrAfter a b && a % 65536 != b % 65536

/-- Global frame count a is at or after count b (section 2.2). -/
def gfAtOrAfter (a b : Nat) : Bool := (a + 3145728 - b % 3145728) % 3145728 < 1572864

/-- How many superframes b lies after a. -/
def sfDistance (a b : Nat) : Nat := (b + 65536 - a % 65536) % 65536

/-- How many frames b lies after a. -/
def gfDistance (a b : Nat) : Nat := (b + 3145728 - a % 3145728) % 3145728

/-- The superframe k after another. -/
def sfAdd (a k : Nat) : Nat := (a + k) % 65536

/-- The global frame count of a superframe and frame number (section 2.1). -/
def globalCount (superframe frame : Nat) : Nat := (superframe * 48 + frame) % 3145728

/-- The node's local global frame count (R24). -/
def State.count (s : State) : Nat := globalCount s.timing.superframe s.timing.frame

/-- The cell time of the current local frame (R36). -/
def State.cellTime (s : State) : Nat := s.timing.frame / 8

/-! ### Straps, ports and spans -/

def State.id (s : State) : NodeId := s.straps.nodeId

/-- The node is strapped STAGE. -/
def State.isStage (s : State) : Bool := s.straps.role == .stage

/-- The node is strapped DESK. -/
def State.isDesk (s : State) : Bool := s.straps.role == .desk

/-- The port of a side. -/
def State.port (s : State) : Side → Port
  | .e => s.portE
  | .w => s.portW

/-- The state with a side's port replaced. -/
def State.setPort (s : State) (p : Side) (x : Port) : State :=
  match p with
  | .e => s.setPortE x
  | .w => s.setPortW x

/-- The span record of a side (R44). -/
def State.span (s : State) : Side → Span
  | .e => s.ring.spanE
  | .w => s.ring.spanW

/-- The state with a side's span record replaced. -/
def State.setSpan (s : State) (p : Side) (x : Span) : State :=
  match p with
  | .e => s.setRing { s.ring with spanE := x }
  | .w => s.setRing { s.ring with spanW := x }

/-- The code of a port as a notice's subject and in LOOP (R186). -/
def sideCode : Side → Nat
  | .e => 0
  | .w => 1

/-- The other side. -/
def oppositeSide : Side → Side
  | .e => .w
  | .w => .e

/-! ### Counters (R175) -/

/-- The place of a counter in the COUNT record (R187). -/
def CounterId.index : CounterId → Nat
  | .crcE => 0
  | .crcW => 1
  | .lossE => 2
  | .lossW => 3
  | .lateFrames => 4
  | .cellErrors => 5
  | .cellDiscards => 6
  | .consoleDiscards => 7
  | .noticesLost => 8
  | .talkRefusals => 9
  | .converterFaults => 10
  | .lateCompensations => 11
  | .patternMismatches => 12
  | .patternConcealed => 13

/-- One more, stopping at 65535 (R175). -/
def saturate (n : Nat) : Nat := min (n + 1) 65535

/-- The value of a counter. -/
def State.counter (s : State) (c : CounterId) : Nat := s.counters.get c.index

/-- A counter increased by one, saturating (R175). -/
def State.bump (s : State) (c : CounterId) : State := s.setCounters (s.counters.modify c.index saturate)

/-! ### Path order (R30, R75) -/

/-- Node a lies before node b in path order: a node absent from the map lies after every node in it, and of two absent
nodes neither is before the other (R75). Of a node id that the map holds twice the first entry counts (R30; DESIGN CHOICE,
assumption log entry 57). -/
def before (ringMap : List NodeId) (a b : NodeId) : Bool :=
  ringMap.contains a && (!ringMap.contains b || ringMap.idxOf a < ringMap.idxOf b)

/-! ### Reachability (R32, R34) -/

/-- The reachability record of a node. -/
def State.reachOf (s : State) (n : NodeId) : Reach := s.members.reach.get n.val

/-- A node in UNKNOWN is not REACHABLE (R34). -/
def State.isReachable (s : State) (n : NodeId) : Bool := (s.reachOf n).state == .reachable

/-- A node in UNKNOWN is not UNREACHABLE (R34). -/
def State.isUnreachable (s : State) (n : NodeId) : Bool := (s.reachOf n).state == .unreachable

/-- The record of a node shows REACHABLE with role DESK (R106, R172). -/
def State.isReachableDesk (s : State) (n : NodeId) : Bool := s.isReachable n && (s.reachOf n).role == some .desk

/-! ### The notice queue's intake (R169 to R171) -/

/-- The code of a notice kind (R186). -/
def NoticeKind.code : NoticeKind → Nat
  | .port => 1
  | .ring => 2
  | .reach => 3
  | .clock => 4
  | .image => 5
  | .restarted => 6
  | .bank => 7
  | .owner => 8
  | .converter => 9
  | .stepLate => 10
  | .clip => 11
  | .talkRefused => 12
  | .talkEnded => 13

/-- The class of a notice kind (section 10.1). -/
def NoticeKind.cls : NoticeKind → Nat
  | .port => 3
  | .ring => 3
  | .reach => 2
  | .clock => 2
  | .image => 2
  | .restarted => 2
  | .bank => 2
  | .owner => 1
  | .converter => 1
  | .stepLate => 1
  | .clip => 0
  | .talkRefused => 0
  | .talkEnded => 0

/-- The kind's enable in SETS.notice_enable_mask (R174, R186). -/
def State.noticeEnabled (s : State) (k : NoticeKind) : Bool := s.sets.noticeMask.testBit (k.code - 1)

/-- A queued notice is about this kind and subject. -/
def Notice.about (n : Notice) (k : NoticeKind) (subject : Nat) : Bool := n.kind == k && n.subject == subject

/-- The detail of a waiting notice after a merge: the new event's, with the deltas of a PORT notice added up (R170). -/
def mergeDetail (k : NoticeKind) (old new : List Byte) : List Byte :=
  if k = .port then [byteAt new 0 ||| (byteAt old 0 &&& 0xF0#8)] else new

/-- A waiting notice after a merge (R170). -/
def Notice.merge (n : Notice) (detail : List Byte) : Notice :=
  { n with detail := mergeDetail n.kind n.detail detail, merged := min (n.merged + 1) 255 }

/-- The lowest class present in a queue (3 when it is empty). -/
def lowestClass (q : List Notice) : Nat := q.foldr (fun n m => min n.kind.cls m) 3

/-- A list without its last element that satisfies p. -/
def eraseLast {α : Type} (p : α → Bool) (l : List α) : List α := (l.reverse.eraseP p).reverse

/-- The queue after the newest notice of its lowest class is removed (R171). -/
def evict (q : List Notice) : List Notice := eraseLast (fun n => n.kind.cls == lowestClass q) q

/-- A raised notice as it enters the queue. -/
def Raised.notice (r : Raised) : Notice := ⟨r.kind, r.subject, r.detail, 1⟩

/-- An event that raises a notice is taken by the notice queue (R169 to R171). -/
def State.intake (s : State) (r : Raised) : State :=
  if !s.noticeEnabled r.kind then s
  else if s.notices.any (·.about r.kind r.subject) then
    s.setNotices (s.notices.map fun n => if n.about r.kind r.subject then n.merge r.detail else n)
  else if s.notices.length < 16 then s.setNotices (s.notices ++ [r.notice])
  else if lowestClass s.notices < r.kind.cls then (s.setNotices (evict s.notices ++ [r.notice])).bump .noticesLost
  else s.bump .noticesLost

/-- The event under way raises a notice, which the queue takes as the event ends (R169). -/
def State.raise (s : State) (k : NoticeKind) (subject : Nat) (detail : List Byte) : State :=
  s.setRaised (s.raised ++ [⟨k, subject, detail⟩])

/-- A raised notice among others in ascending order of subject, after its equals. -/
def insertRaised (x : Raised) : List Raised → List Raised
  | [] => [x]
  | y :: l => if y.subject ≤ x.subject then y :: insertRaised x l else x :: y :: l

/-- Raised notices in ascending order of subject, those of one subject as they were raised (R169). -/
def bySubject (l : List Raised) : List Raised := l.foldl (fun q x => insertRaised x q) []

/-- One event: what it does, and then the notices it raised, taken in ascending order of subject (R169). Which doings are
one event is assumption log entry 47. -/
def State.event (f : State → State) (s : State) : State :=
  let t := f (s.setRaised [])
  ((bySubject t.raised).foldl State.intake t).setRaised s.raised

/-! ### Control line outputs (R164, R167) -/

/-- Talk source k is in service in some class. -/
def Talk.serves (t : Talk) (k : Fin 8) : Bool := t.register.toList.any fun r => r.inService == some k

/-- The ring states at which a FAULT line is asserted (R167). -/
def RingState.broken : RingState → Bool
  | .wrappedE => true
  | .wrappedW => true
  | .isolated => true
  | _ => false

/-- The output a line's function calls for. Nothing is driven before the ports are enabled, a FAULT line in DARK included (R164,
R167; DESIGN CHOICE, assumption log entry 63). -/
def State.lineOutput (s : State) (f : LineFunction) : Option Bool :=
  if s.ring.state = .dark then none
  else match f with
    | .off => none
    | .talkButton _ => none
    | .tally k => some (s.talk.serves k)
    | .fault => some s.ring.state.broken

/-- Every line driven as its function calls for at this moment (R167). -/
def State.driveLines (s : State) : State :=
  s.setLines { s.lines with records := s.lines.records.map fun l => { l with output := s.lineOutput l.function } }

/-! ### Folds over the indices of a table -/

/-- An operation taken for each index 0 to n − 1 in order. -/
def forEach (n : Nat) (f : Nat → State → State) (s : State) : State := (List.range n).foldl (fun s i => f i s) s

/-- An operation taken for both sides, E first. -/
def State.forSides (s : State) (f : Side → State → State) : State := f .w (f .e s)

end Sys2Proof.Machine
end

