-- ==== Sys2Proof/Machine/Frames.lean ====
section
/-! DEFINITION. Frames on the fibre: their bytes (R1, R184), the judging of a received frame (R2, R3), the frames a node
builds (R25, R60) and the flags it writes into every frame (R47). -/

namespace Sys2Proof.Machine

/-- The header of a frame. -/
def Frame.header : Frame → Header
  | .primary h _ _ => h
  | .supervision h => h

/-- The frame with its header replaced. -/
def Frame.withHeader (f : Frame) (h : Header) : Frame :=
  match f with
  | .primary _ slots lane => .primary h slots lane
  | .supervision _ => .supervision h

/-- The frame is a primary frame. -/
def Frame.isPrimary : Frame → Bool
  | .primary _ _ _ => true
  | .supervision _ => false

/-- The 16 header bytes (R184). -/
def Header.bytes (h : Header) (supervision : Bool) : List Byte :=
  [byte h.frame] ++ word16 h.superframe ++
    [byte (ofFlags [h.masterOrigin, h.turned, supervision, h.farFault, h.restoreReady]), h.presence, h.request] ++ h.rest.toList

/-- The bytes the frame CRC covers: header, slots and lane, or the header alone (R2). -/
def Frame.covered : Frame → List Byte
  | .primary h slots lane => h.bytes false ++ slots.toList.flatMap sampleBytes ++ lane.toList
  | .supervision h => h.bytes true

/-- The frame as it is sent: sync marker, covered bytes, CRC (R4, R184). -/
def Frame.bytes (f : Frame) : List Byte := [0xB5, 0x4E] ++ f.covered ++ crc16Bytes f.covered

/-- The header in 16 received bytes (R184). -/
def headerAt (l : List Byte) : Header :=
  { frame := (byteAt l 0).toNat, superframe := wordAt l 1, masterOrigin := bitAt (byteAt l 3) 0, turned := bitAt (byteAt l 3) 1
    farFault := bitAt (byteAt l 3) 3, restoreReady := bitAt (byteAt l 3) 4, presence := byteAt l 4, request := byteAt l 5
    rest := .ofList 10 0 (l.drop 6) }

/-- The frame carried by the received bytes after the sync marker, its length taken from the supervision-only flag (R2). -/
def frameAt (l : List Byte) : Frame :=
  if bitAt (byteAt l 3) 2 then .supervision (headerAt (l.take 16))
  else .primary (headerAt (l.take 16)) (.ofFn 128 fun i => sampleAt l (16 + 3 * i)) (.ofList 3 0 (l.drop 400))

/-- How many bytes after the sync marker the CRC covers (R1, R2). -/
def coveredLength (l : List Byte) : Nat := if bitAt (byteAt l 3) 2 then 16 else 403

/-- The good frame of a receive frame period, or none when the period holds a bad frame (R2, R3). -/
def judgeFrame (period : List Byte) : Option Frame :=
  let l := period.drop 2
  let n := coveredLength l
  if period.take 2 = [0xB5#8, 0x4E#8] ∧ n + 2 ≤ l.length ∧ crc16Bytes (l.take n) = (l.drop n).take 2
      ∧ (byteAt l 0).toNat ≤ 47 then
    some (frameAt l)
  else none

/-! ### Header fields that depend on the frame number (R184) -/

/-- A four-bit node id; 4 to 15 stand for NONE or empty. -/
def nibbleNode (n : Nat) : Option NodeId := if h : n < 4 then some ⟨n, h⟩ else none

/-- The four-bit field of a node id or NONE (R183). -/
def nodeNibble : Option NodeId → Nat
  | some n => n.val
  | none => 15

/-- The grant list of a frame 0. -/
def Header.grants (h : Header) : Grants := .ofFn 6 fun k => nibbleNode (nibbleAt h.rest.toList k)

/-- Four-bit node ids up to the first empty one. -/
def nodesUpTo (l : List (Option NodeId)) : List NodeId := (l.takeWhile Option.isSome).filterMap id

/-- The published map of a frame 0, read up to its first empty entry. -/
def Header.publishedMap (h : Header) : List NodeId :=
  nodesUpTo ((List.range 4).map fun i => nibbleNode (nibbleAt (h.rest.toList.drop 3) i))

/-- The trail of a frame 0, read up to its first empty entry as R184 reads the published map; an entry of 4 to 14 counts as
empty and ends it too (DESIGN CHOICE, assumption log entry 51). -/
def Header.trail (h : Header) : List NodeId :=
  nodesUpTo ((List.range 4).map fun i => nibbleNode (nibbleAt (h.rest.toList.drop 5) i))

/-- Two four-bit fields in a byte. -/
def nibblePair (lo hi : Nat) : Byte := byte (lo + 16 * hi)

/-- The two bytes of a list of up to four node ids, empty entries 0xF. -/
def mapBytes (l : List NodeId) : List Byte :=
  let f := fun i => nodeNibble ((l.map some).getD i none)
  [nibblePair (f 0) (f 1), nibblePair (f 2) (f 3)]

/-- Bytes 6 to 15 of a frame 0 (R184). -/
def frame0Rest (grants : Grants) (published trail : List NodeId) : Tab Byte 10 :=
  let g := fun k => nodeNibble (grants.get k)
  .ofList 10 0 ([nibblePair (g 0) (g 1), nibblePair (g 2) (g 3), nibblePair (g 4) (g 5)] ++ mapBytes published ++ mapBytes trail)

/-- The trail fields of a frame 0 with a node id in the first entry that holds 0xF, unchanged when none does (R30, R184). -/
def appendTrail (rest : Tab Byte 10) (id : NodeId) : Tab Byte 10 :=
  let t := fun i => nibbleAt (rest.toList.drop 5) i
  let i := ((List.range 4).filter fun i => t i = 15).headD 4
  let u := fun j => if j = i then id.val else t j
  (rest.put 5 (nibblePair (u 0) (u 1))).put 6 (nibblePair (u 2) (u 3))

/-- The role mark of a node in a presence field or roster: 1 STAGE, 2 DESK, anything else ABSENT (R184). -/
def markRole (b : Byte) (i : Nat) : Option Role :=
  match pairAt b i with
  | 1 => some .stage
  | 2 => some .desk
  | _ => none

/-- The code of a role mark (R184). -/
def roleMark : Role → Nat
  | .stage => 1
  | .desk => 2

/-- The node ids a presence field marks (R45). -/
def markedNodes (b : Byte) : List NodeId := (List.finRange 4).filter fun i => (markRole b i.val).isSome

/-- The roster of a frame 1. -/
def Header.roster (h : Header) : Byte := h.rest.get 0

/-- The unwrap field of a frame 2: the side and the unwrap superframe; a side other than 1 or 2 names none (R184). -/
def Header.unwrap (h : Header) : Option (Side × Nat) :=
  match (h.rest.get 0).toNat with
  | 1 => some (.e, wordAt h.rest.toList 1)
  | 2 => some (.w, wordAt h.rest.toList 1)
  | _ => none

/-- Bytes 6 to 15 of a frame 2 (R184). -/
def frame2Rest (unwrap : Option (Side × Nat)) : Tab Byte 10 :=
  match unwrap with
  | some (.e, n) => .ofList 10 0 (1 :: word16 n)
  | some (.w, n) => .ofList 10 0 (2 :: word16 n)
  | none => .fill 10 0

/-! ### Paths (section 3.5) -/

/-- A span is in service while it is GOOD or DEFECT (R44). -/
def SpanState.inService : SpanState → Bool
  | .good => true
  | .defect => true
  | _ => false

/-- The span of a side is in service. -/
def State.inService (s : State) (p : Side) : Bool := (s.span p).state.inService

/-- The primary input of a node (R57). -/
def State.primaryInput (s : State) : Option Side :=
  match s.inService .e, s.inService .w with
  | true, true => some .w
  | false, true => some .w
  | true, false => some .e
  | false, false => none

/-- The primary output of a node (R57, R58). -/
def State.primaryOutput (s : State) : Option Side :=
  match s.inService .e, s.inService .w with
  | true, true => some .e
  | false, true => some .w
  | true, false => some .e
  | false, false => none

/-- A side is looped while its port's loop mode is INTERNAL or LINE (R16). -/
def Port.looped (p : Port) : Bool := p.loop != .off

/-- The side receives its own frames (R45). -/
def State.echo (s : State) (p : Side) : Bool := (s.span p).partner == some s.id

/-- A local defect: the port not LOCKED, an echo, or a loop (R46). -/
def State.localDefect (s : State) (p : Side) : Bool := (s.port p).lock != .locked || s.echo p || (s.port p).looped

/-- A remote defect: far-fault received, or partner ready on a span in service (R46). -/
def State.remoteDefect (s : State) (p : Side) : Bool :=
  (s.port p).flags.farFault || (s.inService p && (s.span p).partnerReady)

/-- A side's defect (R46). -/
def State.defect (s : State) (p : Side) : Bool := s.localDefect p || s.remoteDefect p

/-- The restore-ready flag a node sends out of a side (R47). -/
def State.sendsReady (s : State) (p : Side) : Bool :=
  ((s.span p).state == .restoring && (s.span p).ready) || (s.span p).state == .unwrapPending

/-- The two flags that describe the side a frame is sent out of (R47). -/
def State.sideFlags (s : State) (p : Side) (h : Header) : Header :=
  { h with farFault := s.localDefect p, restoreReady := s.sendsReady p }

/-- The node's own role mark alone in a presence field. -/
def State.ownPresence (s : State) : Byte := setPair 0 s.id.val (roleMark s.straps.role)

/-- The supervision frame built for a side (R60). -/
def State.supervisionFrame (s : State) (p : Side) : Frame :=
  let rest : Tab Byte 10 :=
    if s.timing.frame = 0 then frame0Rest (.fill 6 none) [] []
    else if s.timing.frame = 2 then
      frame2Rest (if (s.span p).state = .unwrapPending ∧ (s.span p).namer = true then (s.span p).unwrap.map (p, ·) else none)
    else .fill 10 0
  .supervision (s.sideFlags p
    { frame := s.timing.frame, superframe := s.timing.superframe, masterOrigin := false, turned := false, farFault := false
      restoreReady := false, presence := s.ownPresence, request := 0, rest := rest })

/-- What leaves a port's fibre output in the current local frame period: nothing when it is disabled or in the INTERNAL loop
(R4, R17), the received bytes in the LINE loop (R18), the framer's frame otherwise. -/
def Port.fibreOut (p : Port) : List Byte :=
  if !p.enabled then []
  else match p.loop with
    | .internal => []
    | .line => if p.fibreLight then p.received else []
    | .off => match p.tx with
      | some f => f.bytes
      | none => []

end Sys2Proof.Machine
end

