-- ==== Sys2Proof/Machine/Gains.lean ====
section
/-! DEFINITION. Gain codes and scaling (R145, R146), shared by the drop path and the mix engine. -/

namespace Sys2Proof.Machine

/-- The table T[k] of R145: 32768 × 2^(k/16) rounded to the nearest integer. -/
def gainTable : List Nat :=
  [32768, 34219, 35734, 37316, 38968, 40693, 42495, 44376, 46341, 48393, 50535, 52773, 55109, 57549, 60097, 62757]

/-- The multiplier M(c) of a gain code (R145). -/
def multiplier (c : Nat) : Nat := if c = 0 then 0 else gainTable.getD (c % 16) 0 * 2 ^ (c / 16)

/-- The scaling of a value by a gain code: rounded to the nearest integer, a half toward plus infinity (R146). -/
def scale (x : Int) (c : Nat) : Int := (x * multiplier c + 67108864) / 134217728

/-- An applied code with a trim added, brought within 1 to 255 (R86, R148). -/
def trimmedCode (code : Nat) (trim : Int) : Nat := (clampInt (code + trim) 1 255).toNat

end Sys2Proof.Machine
end

