-- ==== Sys2Proof/Machine/Slots.lean ====
section
/-! DEFINITION. Slot plan, insertion, filing, presentation and the drop path (chapter 4), and the test pattern (R20, R22). -/

namespace Sys2Proof.Machine

/-! ### Banks (R69 to R73) -/

/-- The code of a bank (R187). -/
def Bank.code : Bank → Nat
  | .a => 0
  | .b => 1

/-- The other bank. -/
def Bank.other : Bank → Bank
  | .a => .b
  | .b => .a

/-- The slot table of a bank. -/
def Plan.slots (p : Plan) : Bank → Tab SlotEntry 128
  | .a => p.slotA
  | .b => p.slotB

/-- The drop table of a bank. -/
def Plan.drops (p : Plan) : Bank → Tab DropSource 64
  | .a => p.dropA
  | .b => p.dropB

/-- The plan with the slot table of a bank replaced. -/
def Plan.setSlots (p : Plan) (bank : Bank) (t : Tab SlotEntry 128) : Plan :=
  match bank with
  | .a => { p with slotA := t }
  | .b => { p with slotB := t }

/-- The plan with the drop table of a bank replaced. -/
def Plan.setDrops (p : Plan) (bank : Bank) (t : Tab DropSource 64) : Plan :=
  match bank with
  | .a => { p with dropA := t }
  | .b => { p with dropB := t }

/-- The active slot bank. -/
def State.activeSlots (s : State) : Tab SlotEntry 128 := s.plan.slots s.plan.active

/-- The active drop bank. -/
def State.activeDrops (s : State) : Tab DropSource 64 := s.plan.drops s.plan.active

/-- A BANK notice: outcome (SWAPPED 0, MISSED 1), active bank, apply superframe (R72, R73). -/
def State.raiseBank (s : State) (outcome apply : Nat) : State :=
  s.raise .bank s.id.val ([byte outcome, byte s.plan.active.code] ++ word16 apply)

/-- The node stands at frame 0 of its pending apply superframe (R72). -/
def State.swapDue (s : State) : Bool := s.plan.swap == some s.timing.superframe && s.timing.frame == 0

/-- The banks exchange roles and the old active slot bank is kept as the outgoing plan (R72). -/
def State.swapNow (s : State) : State :=
  if s.swapDue then
    (s.setPlan { s.plan with active := s.plan.active.other, swap := none
                             outgoing := some ⟨s.timing.superframe, s.activeSlots⟩ }).raiseBank 0 s.timing.superframe
  else s

/-- The plan in force at a capture frame (R75). -/
def State.planAt (s : State) (c : Nat) : Tab SlotEntry 128 :=
  match s.plan.outgoing with
  | some o => if gfAtOrAfter c (globalCount o.apply 0) then s.activeSlots else o.plan
  | none => s.activeSlots

/-- The inserter of a slot in the plan in force at a capture frame. -/
def State.inserterAt (s : State) (c slot : Nat) : Option NodeId := ((s.planAt c).get slot).inserter

/-- The outgoing plan is discarded once the last capture frame before its flip has been presented (R72). -/
def State.dropOutgoing (s : State) : State :=
  match s.plan.outgoing with
  | some o =>
    if gfAtOrAfter s.present.lastCapture (globalCount o.apply 0 + 3145727) then s.setPlan { s.plan with outgoing := none }
    else s
  | none => s

/-! ### Insertion (R74) and the test pattern (R20) -/

/-- The test pattern's value at a capture frame (R20). -/
def patternValue (h : Nat) : Sample := BitVec.ofInt 24 (((h * 5 % 16777216 : Nat) : Int) - 8388608)

/-- A local input's sample in this local frame; channel 15 of a DESK node carries the console lane (R74, R85). -/
def State.localSample (s : State) (n : Nat) : Sample := if s.isDesk && n == 15 then 0 else s.audio.localIn.get n

/-- A bus output in this local frame; a DESK node has none (R74). -/
def State.busSample (s : State) (b : Nat) : Sample := if s.isStage then s.audio.busOut.get b else 0

/-- The sample this node puts in a slot at the current local frame, or none where it is not the inserter (R74). -/
def State.inserted (s : State) (slot : Nat) : Option Sample :=
  let e := s.activeSlots.get slot
  if e.inserter = some s.id then
    some (match e.source with
      | .localIn n => s.localSample n.val
      | .bus b => s.busSample b.val
      | .pattern => patternValue s.count
      | .silent => 0)
  else none

/-- Slots with this node's own samples inserted (R25, R27). -/
def State.insertInto (s : State) (slots : Tab Sample 128) : Tab Sample 128 :=
  slots.mapIdx fun i x => (s.inserted i).getD x

/-! ### Filing (R76, R77) -/

/-- A sample put into position `capture mod 64` of a slot, replacing whatever the position held (R77). -/
def insertFiled (x : Filed) : List Filed → List Filed
  | [] => [x]
  | y :: l =>
    if x.capture % 64 < y.capture % 64 then x :: y :: l
    else if x.capture % 64 = y.capture % 64 then x :: l
    else y :: insertFiled x l

/-- A capture frame lies in the storage window at local count f with working delay d (R77). -/
def inWindow (f d c : Nat) : Bool := gfAtOrAfter c (f + 3145729 - d) && gfAtOrAfter (f + 23) c

/-- The capture frame under which a slot of a ring frame with header count h is filed, if it is filed at all (R76). -/
def State.ringCapture (s : State) (h slot : Nat) : Option Nat :=
  let prev := (h + 3145727) % 3145728
  match s.inserterAt h slot with
  | some n =>
    if s.id = 0 then (if n = 0 then none else some h)
    else if before s.members.ringMap n s.id then some h
    else second prev
  | none => if s.id = 0 then none else second prev
where
  /-- Step 2 of R76: the second-lap copy of the frame before. -/
  second (prev : Nat) : Option Nat :=
    match s.inserterAt prev slot with
    | some n => if n ≠ s.id ∧ before s.members.ringMap n s.id = false then some prev else none
    | none => none

/-- The inserter of a slot at a capture frame is UNREACHABLE (R77, R83). -/
def State.inserterGone (s : State) (c slot : Nat) : Bool :=
  match s.inserterAt c slot with
  | some n => s.isUnreachable n
  | none => false

/-- What becomes of a slot's sample: none when it is not filed, or the inserter is UNREACHABLE; otherwise its capture frame
and whether the storage window takes it (R76, R77). -/
def State.filing (s : State) (h slot : Nat) : Option (Nat × Bool) :=
  match s.ringCapture h slot with
  | some c => if s.inserterGone c slot then none else some (c, inWindow s.count s.present.delay c)
  | none => none

/-- The slots of a frame taken as ring traffic are filed; a frame with a late or early sample is counted once (R76, R77). -/
def State.fileRing (s : State) (h : Nat) (samples : Tab Sample 128) : State :=
  let slots := s.present.slots.mapIdx fun i p =>
    match s.filing h i with
    | some (c, true) => { p with filed := insertFiled ⟨c, samples.get i⟩ p.filed }
    | _ => p
  let late := (List.range 128).any fun i => ((s.filing h i).any fun x => !x.2)
  let s := s.setPresent { s.present with slots := slots }
  if late then s.bump .lateFrames else s

/-- A node's own samples are filed under its local global frame count, whether or not a frame passes (R74). -/
def State.fileOwn (s : State) : State :=
  let slots := s.present.slots.mapIdx fun i p =>
    match s.inserted i with
    | some v => { p with filed := insertFiled ⟨s.count, v⟩ p.filed }
    | none => p
  s.setPresent { s.present with slots := slots }

/-! ### Presentation (R78 to R83) -/

/-- The capture frame that local frame f calls for (R78). -/
def State.captureFor (s : State) (f : Nat) : Nat := (f + 3145728 - s.present.delay) % 3145728

/-- The boundary that begins local frame f repeats the last presentation: f − D is at or before the capture frame last
presented (R80). After a hard reset or a jump nothing is repeated (R81). -/
def State.repeats (s : State) (f : Nat) : Bool :=
  !s.present.fresh && gfAtOrAfter s.present.lastCapture (s.captureFor f)

/-- The value presented in place of a missing sample: seven eighths of the last, truncated toward zero (R82). -/
def decayed (x : Sample) : Sample := BitVec.ofInt 24 (Int.tdiv (x.toInt * 7) 8)

/-- One slot at the presentation of capture frame c: GOOD, CONCEAL or STALE (R78, R82, R83). Where the inserter is NONE the
slot is STALE even with a sample stored (DESIGN CHOICE, assumption log entry 54). -/
def SlotPres.presented (p : SlotPres) (inserter : Option NodeId) (gone : Bool) (c : Nat) : SlotPres :=
  if inserter = none ∨ gone = true then { p with state := .stale, last := decayed p.last }
  else match p.filed.find? fun x => x.capture == c with
    | some x => { p with state := .good, last := x.value }
    | none => { p with state := if p.state = .stale then .stale else .conceal, last := decayed p.last }

/-- A stored sample that a decrease of the delay moves past: between the capture frame last presented and c (R80). -/
def State.skipped (s : State) (c : Nat) (x : Filed) : Bool :=
  !s.present.fresh && 0 < gfDistance s.present.lastCapture x.capture
    && gfDistance s.present.lastCapture x.capture < gfDistance s.present.lastCapture c

/-- The presentation of all 128 slots at the boundary that begins local frame f (R78, R80). -/
def State.presentSlots (s : State) (f : Nat) : State :=
  if s.repeats f then s
  else
    let c := s.captureFor f
    s.setPresent { s.present with
      slots := s.present.slots.mapIdx fun i p =>
        let q := p.presented (s.inserterAt c i) (s.inserterGone c i) c
        { q with filed := q.filed.filter fun x => !(x.capture % 64 == c % 64) && !s.skipped c x }
      lastCapture := c
      fresh := false }

/-- Slot s as presented at the most recent boundary. -/
def State.presentedSample (s : State) (slot : Nat) : Sample := (s.present.slots.get slot).last

/-- The slot was STALE at the most recent presentation (R83). -/
def State.slotStale (s : State) (slot : Nat) : Bool := (s.present.slots.get slot).state == .stale

/-- The pattern checker's comparison after a presentation that was no repeat, for the slot the local frame watches (R21, R22,
R80). -/
def State.patternCompare (s : State) : State :=
  match s.checker.watch with
  | none => s
  | some i =>
    let p := s.present.slots.get i
    if p.state = .good then
      if p.last = patternValue s.present.lastCapture then s else s.bump .patternMismatches
    else s.bump .patternConcealed

/-- A load of the counters that is a jump clears every valid mark, and ends repeats and the outgoing plan (R72, R80, R81). -/
def State.presentJump (s : State) : State :=
  (s.setPresent { s.present with slots := s.present.slots.map fun p => { p with filed := [] }
                                 fresh := true }).setPlan { s.plan with outgoing := none }

/-! ### The drop path (R85, R86) -/

/-- The tracking term of a ring slot at the capture frame presented: the entry of the STAGE inserter's LOCAL input that
fills the slot in the plan in force there, else 0 (R86, R148). -/
def State.trackingTerm (s : State) (slot : Nat) : Int :=
  let e := (s.planAt s.present.lastCapture).get slot
  match e.inserter, e.source with
  | some n, .localIn m => if (s.reachOf n).role = some .stage then s.tracking.table.get (n.val * 64 + m.val) else 0
  | _, _ => 0

/-- The gain code of a local output with a tracking term (R86). -/
def State.dropCode (s : State) (output : Nat) (t : Int) : Nat := trimmedCode 192 (s.plan.dtrim.get output + t)

/-- The value of a local output (R85). -/
def State.dropOutput (s : State) (output : Nat) : Sample :=
  match s.activeDrops.get output with
  | .ring sl => clampSample (scale (s.presentedSample sl.val).toInt (s.dropCode output (s.trackingTerm sl.val)))
  | .bus b => clampSample (scale (s.busSample b.val).toInt (s.dropCode output 0))
  | .localIn n => clampSample (scale (s.localSample n.val).toInt (s.dropCode output 0))
  | .silent => 0

/-! ### Commands -/

/-- BANK_SWAP_APPLY (R72): nothing happens unless the node stands at frame 0 of the pending apply superframe. -/
def execBankSwapApply (s : State) : Host.Outcome State Fault Refusal := .next (s.event State.swapNow)

end Sys2Proof.Machine
end

