-- ==== Sys2Proof/Machine/Talk.lean ====
section
/-! DEFINITION. Talkback (sections 9.1 to 9.3): presses, releases, the max-hold timers and the talker of each bus; and the
debouncing of the control lines (section 9.4). -/

namespace Sys2Proof.Machine

/-- A talk source's table entry. -/
def State.talkSource (s : State) (i : Fin 8) : TalkSource := s.talk.sources.get i.val

/-- The talk register row of a class. -/
def State.talkRow (s : State) (c : Nat) : TalkRow := s.talk.register.get c

/-- The row of a source's own class. -/
def State.rowOf (s : State) (i : Fin 8) : TalkRow := s.talkRow (s.talkSource i).cls

/-- The state with one register row replaced; the TALLY lines follow at the same event (R167). -/
def State.setRow (s : State) (c : Nat) (r : TalkRow) : State :=
  (s.setTalk { s.talk with register := s.talk.register.put c r }).driveLines

/-- A freshly loaded max-hold timer: SETS.talk_max_hold × 100 boundaries, or none when it is 0 (R160). -/
def State.freshTimer (s : State) : Option Nat := if s.sets.talkMaxHold = 0 then none else some (s.sets.talkMaxHold * 100)

/-- How a press is decided (R158). -/
inductive PressOutcome where
  | notActive
  | restarted
  | alreadyHolding
  | served
  | held
  | refused
deriving DecidableEq, Repr

/-- The source's audio is a ring slot that was STALE at the most recent presentation (R158, R161). -/
def State.audioLost (s : State) (a : AudioSource) : Bool :=
  match a with
  | .ring sl => s.slotStale sl.val
  | .localIn _ => false

/-- The first case of R158 that applies to a press of source i, 0 to 7. -/
def State.pressOutcome (s : State) (i : Fin 8) : PressOutcome :=
  let src := s.talkSource i
  let row := s.rowOf i
  if !src.enabled then .notActive
  else if s.audioLost src.audio then .notActive
  else if row.inService = some i then .restarted
  else if row.holding = some i then .alreadyHolding
  else if row.inService = none then .served
  else if row.holding = none then .held
  else .refused

/-- The detail of a refused press: class, source in service, source holding (R162). -/
def State.refusalDetail (s : State) (i : Fin 8) : List Byte :=
  let b := fun (x : Option (Fin 8)) => byte (x.elim 255 Fin.val)
  [byte (s.talkSource i).cls, b (s.rowOf i).inService, b (s.rowOf i).holding]

/-- A press of source i acts (R158, R160, R162). -/
def State.press (s : State) (i : Fin 8) : State :=
  let c := (s.talkSource i).cls
  let row := s.rowOf i
  match s.pressOutcome i with
  | .notActive => s
  | .restarted => s.setRow c { row with timer := s.freshTimer }
  | .alreadyHolding => s
  | .served => s.setRow c { row with inService := some i, timer := s.freshTimer }
  | .held => s.setRow c { row with holding := some i }
  | .refused => (s.bump .talkRefusals).raise .talkRefused i.val (s.refusalDetail i)

/-- The reasons of a TALK_ENDED notice, numbered in the order R159 lists them. -/
inductive TalkReason where
  | cell
  | line
  | lost
  | timeout
  | disabled
deriving DecidableEq, Repr

/-- The code of a release's reason (R159, R186). -/
def TalkReason.code : TalkReason → Nat
  | .cell => 0
  | .line => 1
  | .lost => 2
  | .timeout => 3
  | .disabled => 4

/-- The source stands in the register, in the row of its class. -/
def State.registered (s : State) (i : Fin 8) : Bool := (s.rowOf i).inService == some i || (s.rowOf i).holding == some i

/-- The source promoted when source i is released, if any (R159). -/
def State.promotedBy (s : State) (i : Fin 8) : Option (Fin 8) :=
  if (s.rowOf i).inService = some i then (s.rowOf i).holding else none

/-- A registered source is released: a holding source of its class is promoted with a fresh timer, and a TALK_ENDED notice
says the reason, the class, whether it was in service (0) or holding (1), and the promoted source (R159). -/
def State.releaseTalk (s : State) (i : Fin 8) (reason : TalkReason) : State :=
  let c := (s.talkSource i).cls
  let row := s.rowOf i
  if row.inService = some i then
    let next : TalkRow := match row.holding with
      | some j => ⟨some j, none, s.freshTimer⟩
      | none => .empty
    (s.setRow c next).raise .talkEnded i.val [byte reason.code, byte c, 0, byte (row.holding.elim 255 Fin.val)]
  else if row.holding = some i then
    (s.setRow c { row with holding := none }).raise .talkEnded i.val [byte reason.code, byte c, 1, 0xFF]
  else s

/-- An operation taken for each talk source, by ascending source number; two sources of one class that are lost at one
event are therefore released in that order (DESIGN CHOICE, assumption log entry 59). -/
def forEachSource (f : Fin 8 → State → State) (s : State) : State := (List.finRange 8).foldl (fun s i => f i s) s

/-- At a presentation boundary a source whose ring slot is STALE is released with LOST (R161). -/
def State.releaseStale (s : State) : State :=
  if s.isStage then
    forEachSource (fun i s => if s.audioLost (s.talkSource i).audio then s.releaseTalk i .lost else s) s
  else s

/-- A node that became UNREACHABLE takes with it the sources whose slot it inserts in the plan in force at the capture frame
last presented (R161). -/
def State.releaseOfNode (s : State) (node : NodeId) : State :=
  forEachSource (fun i s =>
    match (s.talkSource i).audio with
    | .ring sl => if s.inserterAt s.present.lastCapture sl.val = some node then s.releaseTalk i .lost else s
    | .localIn _ => s) s

/-- The max-hold timer of a class stands at 0 (R160). -/
def State.holdDue (s : State) (c : Nat) : Bool := (s.talkRow c).timer == some 0 && (s.talkRow c).inService.isSome

/-- The talker of a class is released with TIMEOUT (R160). -/
def State.holdExpiry (s : State) (c : Nat) : State :=
  if s.holdDue c then
    match (s.talkRow c).inService with
    | some i => s.releaseTalk i .timeout
    | none => s
  else s

/-- The talker of a bus: the in-service source of the highest class whose target set contains it (R163). -/
def State.talker (s : State) (bus : Nat) : Option (Fin 8) :=
  [3, 2, 1, 0].findSome? fun c => (s.talkRow c).inService.filter fun i => (s.talkSource i).targets.getLsbD bus

/-! ### Control lines (R165, R166) -/

/-- A control line record. -/
def State.line (s : State) (n : Nat) : Line := s.lines.records.get n

/-- The state with one line record replaced. -/
def State.setLine (s : State) (n : Nat) (l : Line) : State :=
  s.setLines { s.lines with records := s.lines.records.put n l }

/-- A line release of source k: nothing happens where it is not in the register (R159). -/
def State.lineRelease (s : State) (k : Fin 8) : State := s.releaseTalk k .line

/-- One sample of a TALK_BUTTON line (R165). -/
def Line.sample (l : Line) (level : Bool) : Line :=
  match l.function with
  | .talkButton _ =>
    { l with sampled := some level, changes := if level = l.pressed then 0 else min (l.changes + 1) 4 }
  | _ => l

/-- A line's change count stands at 4 (R165). -/
def State.flipDue (s : State) (n : Nat) : Bool := (s.line n).changes == 4

/-- The debounced state flips, and acts on the source whose trigger names the line (R165, R166). -/
def State.flipLine (s : State) (n : Fin 8) : State :=
  if s.flipDue n.val then
    match (s.line n.val).function with
    | .talkButton k =>
      let pressed := !(s.line n.val).pressed
      let s := s.setLine n.val { s.line n.val with pressed := pressed, changes := 0 }
      if (s.talkSource k).trigger = some n then (if pressed then s.press k else s.lineRelease k) else s
    | _ => s
  else s

/-! ### Commands -/

/-- MAX_HOLD_EXPIRY (R160): nothing happens unless the class's timer stands at 0. -/
def execMaxHoldExpiry (cls : Fin 4) (s : State) : Host.Outcome State Fault Refusal := .next (s.event (·.holdExpiry cls.val))

/-- DEBOUNCE_FLIP (R165): nothing happens unless the line's change count stands at 4. -/
def execDebounceFlip (line : Fin 8) (s : State) : Host.Outcome State Fault Refusal := .next (s.event (·.flipLine line))

end Sys2Proof.Machine
end

