-- ==== Sys2Proof/Machine/Mix.lean ====
section
/-! DEFINITION. The monitor mix engine (chapter 8): ramps, duck, the mix of one frame. -/

namespace Sys2Proof.Machine

/-- A bus record. -/
def State.bus (s : State) (b : Nat) : Bus := s.buses.get b

/-- The state with one bus record replaced. -/
def State.setBus (s : State) (b : Nat) (x : Bus) : State := s.setBuses (s.buses.put b x)

/-- A level one code nearer to its target (R143, R144). -/
def stepToward (x target : Nat) : Nat := if x < target then x + 1 else if target < x then x - 1 else x

/-- A drained send leaves the list (R141). -/
def Send.drained (x : Send) : Bool := x.draining && x.applied == 0

/-- The duck of a ramp expiry: without a talker it moves one toward 0 (R144). -/
def duckReleased (duck : Nat) (talker : Bool) : Nat := if talker then duck else duck - 1

/-- The levels of a bus after a ramp expiry: the counter reloads, every applied code steps, drained sends leave, and without
a talker the duck releases one step (R142, R143, R144). -/
def Bus.expire (b : Bus) (talker : Bool) : Bus :=
  { b with
    ramp := b.prescaler
    masterApplied := stepToward b.masterApplied b.masterTarget
    duckApplied := duckReleased b.duckApplied talker
    sends := (b.sends.map fun x => { x with applied := stepToward x.applied x.target }).filter fun x => !x.drained }

/-- The boundary of an expiry taken ahead of it: the talker of this boundary decides on the duck, which moves from what it was
before that expiry. A duck value written since then stands (R144; DESIGN CHOICE, assumption log entry 11). -/
def Bus.settleTaken (b : Bus) (talker : Bool) : Bus :=
  { b with
    duckApplied := match b.duckBefore with
      | some d => duckReleased d talker
      | none => b.duckApplied
    rampTaken := false, duckBefore := none }

/-- A bus at a local frame boundary: its ramp counter is examined unless its expiry has been taken, and a talker moves the
duck one step toward its depth (R142, R144). -/
def Bus.boundary (b : Bus) (talker : Bool) : Bus :=
  let b := if b.rampTaken then b.settleTaken talker
    else if b.ramp = 0 then b.expire talker
    else { b with ramp := b.ramp - 1 }
  if talker then { b with duckApplied := stepToward b.duckApplied b.duckDepth } else b

/-- A source's sample and trim for this frame (R147, R148). -/
def State.mixSource (s : State) (a : AudioSource) : Int × Int :=
  match a with
  | .localIn n => ((s.audio.localIn.get n.val).toInt, s.tracking.strim.get n.val)
  | .ring sl => ((s.presentedSample sl.val).toInt, s.trackingTerm sl.val)

/-- The term of one send: 0 at applied code 0, otherwise the sample scaled by the trimmed code (R148). -/
def State.sendTerm (s : State) (x : Send) : Int :=
  if x.applied = 0 then 0 else scale (s.mixSource x.source).1 (trimmedCode x.applied (s.mixSource x.source).2)

/-- The program sum of a bus (R149). -/
def State.program (s : State) (b : Bus) : Int := (b.sends.map s.sendTerm).sum

/-- The program sum after the duck (R149). -/
def ducked (p : Int) (duck : Nat) : Int := if duck = 0 then p else scale p (192 - duck)

/-- The talk term of a bus (R150). -/
def State.talkTerm (s : State) (b : Bus) (talker : Option (Fin 8)) : Int :=
  match talker with
  | some i => scale (s.mixSource (s.talkSource i).audio).1 b.talkLevel
  | none => 0

/-- The master result of a bus before the output clamp (R150). -/
def State.masterResult (s : State) (b : Bus) (talker : Option (Fin 8)) : Int :=
  scale (ducked (s.program b) b.duckApplied + s.talkTerm b talker) b.masterApplied

/-- One bus at the boundary of a local frame: ramp and duck step, the output is computed and clamped, and a clamp is counted
and reported (R142 to R152). -/
def State.mixBus (n : Nat) (s : State) : State :=
  let talker := s.talker n
  let b := (s.bus n).boundary talker.isSome
  let y := s.masterResult b talker
  let out := clampSample y
  let s := (s.setBus n b).setAudio { s.audio with busOut := s.audio.busOut.put n out }
  if out.toInt = y then s
  else
    let clips := saturate b.clips
    (s.setBus n { b with clips := clips }).raise .clip n (word16 clips ++ word16 s.timing.superframe)

/-- The sixteen mixes of one local frame (R147). -/
def State.mix (s : State) : State := if s.isStage then forEach 16 State.mixBus s else s

/-- A bus's ramp counter stands at 0 and the expiry of the coming boundary has not been taken (R142). -/
def State.rampDue (s : State) (n : Nat) : Bool :=
  s.isStage && s.timing.running && (s.bus n).ramp == 0 && !(s.bus n).rampTaken

/-- The ramp expiry of the coming boundary is taken (R142). Its release of the duck is shown at once and decided by the talker
of that boundary (R144; DESIGN CHOICE, assumption log entry 11). -/
def State.rampExpiry (s : State) (n : Nat) : State :=
  if s.rampDue n then
    let b := (s.bus n).expire (s.talker n).isSome
    s.setBus n { b with rampTaken := true, duckBefore := some (s.bus n).duckApplied }
  else s

/-- RAMP_EXPIRY (R142): nothing happens unless the bus's ramp counter stands at 0 before the coming boundary. -/
def execRampExpiry (bus : Fin 16) (s : State) : Host.Outcome State Fault Refusal := .next (s.rampExpiry bus.val)

end Sys2Proof.Machine
end

