-- ==== Sys2Proof/Machine/Cells.lean ====
section
/-! DEFINITION. Service cells: their 24 bytes (R185), the codes of kinds, statuses and actions (R186), and the cells a node
builds (R94, R173). -/

namespace Sys2Proof.Machine

/-- The kinds of cell (R88). -/
inductive CellKind where
  | write
  | read
  | data
  | act
  | answer
  | note
  | step
  | report
deriving DecidableEq, Repr

/-- The code of a cell kind (R185). -/
def CellKind.code : CellKind → Byte
  | .write => 1
  | .read => 2
  | .data => 3
  | .act => 4
  | .answer => 5
  | .note => 6
  | .step => 7
  | .report => 8

/-- The kind a code names; 0 and codes above 8 name none (R185). -/
def Cell.kind? (c : Cell) : Option CellKind :=
  match c.kind.toNat with
  | 1 => some .write
  | 2 => some .read
  | 3 => some .data
  | 4 => some .act
  | 5 => some .answer
  | 6 => some .note
  | 7 => some .step
  | 8 => some .report
  | _ => none

/-- WRITE, READ and ACT are the requests (R88). -/
def Cell.isRequest (c : Cell) : Bool := c.kind? == some .write || c.kind? == some .read || c.kind? == some .act

/-- The To destination bits of a node (R185). -/
def toNode (n : NodeId) : Fin 8 := ⟨n.val, by omega⟩

/-- The To destination ALL (R185). -/
def toAll : Fin 8 := 7

/-- The node a To field names, if any. -/
def Cell.destNode (c : Cell) : Option NodeId := if h : c.dest.val < 4 then some ⟨c.dest.val, h⟩ else none

/-- The first 22 bytes of a cell (R185). -/
def Cell.body (c : Cell) : List Byte :=
  [byte (c.dest.val + if c.destConsole then 128 else 0), byte (c.origin.val + if c.originConsole then 128 else 0), c.kind,
    c.tag, byte c.length, flagByte c.relayed] ++ c.payload.toList

/-- The 24 bytes of a cell, its CRC computed afresh (R185). A cell sent on for the host or relayed leaves with its reserved bits
0 and the payload bytes beyond its Length as they came (R38, R91, R183; DESIGN CHOICE, assumption log entry 68). -/
def Cell.encode (c : Cell) : Tab Byte 24 := .ofList 24 0 (c.body ++ crc16Bytes c.body)

/-- The CRC of 24 received bytes matches (R185). -/
def cellCrcOk (l : List Byte) : Bool := crc16Bytes (l.take 22) == [byteAt l 22, byteAt l 23]

/-- The fields of 24 received bytes, reserved bits ignored (R185). -/
def cellFields (l : List Byte) : Cell :=
  { dest := ⟨(byteAt l 0).toNat % 8, Nat.mod_lt _ (by decide)⟩
    destConsole := bitAt (byteAt l 0) 7
    origin := ⟨(byteAt l 1).toNat % 4, Nat.mod_lt _ (by decide)⟩
    originConsole := bitAt (byteAt l 1) 7
    kind := byteAt l 2
    tag := byteAt l 3
    length := (byteAt l 4).toNat
    relayed := bitAt (byteAt l 5) 0
    payload := .ofList 16 0 (l.drop 6) }

/-- The payload byte at a position. -/
def Cell.arg (c : Cell) (i : Nat) : Nat := (byteAt c.payload.toList i).toNat

/-- The two-byte payload number at a position. -/
def Cell.arg16 (c : Cell) (i : Nat) : Nat := wordAt c.payload.toList i

/-- The status codes of an ANSWER (section 5.5). -/
inductive Status where
  | done
  | clamped
  | partly
  | busy
  | late
  | inService
  | isProtected
  | badTable
  | badIndex
  | unreachable
  | role
  | notOwner
  | claimed
  | active
  | duplicate
  | full
  | sourceFixed
  | notActive
deriving DecidableEq, Repr

/-- The code of a status (R186). -/
def Status.code : Status → Byte
  | .done => 0x00
  | .clamped => 0x01
  | .partly => 0x02
  | .busy => 0x10
  | .late => 0x11
  | .inService => 0x12
  | .isProtected => 0x13
  | .badTable => 0x20
  | .badIndex => 0x21
  | .unreachable => 0x22
  | .role => 0x30
  | .notOwner => 0x31
  | .claimed => 0x32
  | .active => 0x33
  | .duplicate => 0x40
  | .full => 0x41
  | .sourceFixed => 0x42
  | .notActive => 0x43

/-- What an ANSWER says: its status, its answer flags (bit 0 intake mark, bit 1 protected) and its detail (R186). -/
structure Reply where
  status : Status
  flags : Byte
  detail : List Byte
deriving DecidableEq, Repr

/-- A reply without flags. -/
def reply (status : Status) (detail : List Byte) : Reply := ⟨status, 0, detail⟩

/-- A cell this node builds as an answer to a request, of the given kind and payload bytes (R94). -/
def State.cellFor (s : State) (req : Cell) (kind : CellKind) (payload : List Byte) : Cell :=
  { dest := toNode req.origin, destConsole := req.originConsole, origin := s.id, originConsole := false, kind := kind.code
    tag := req.tag, length := payload.length, relayed := false, payload := .ofList 16 0 payload }

/-- The ANSWER to a request (R94). -/
def State.answerCell (s : State) (req : Cell) (r : Reply) : Cell :=
  s.cellFor req .answer ([r.status.code, r.flags] ++ r.detail)

/-- The NOTE cell of a notice (R173, R186). -/
def State.noteCell (s : State) (n : Notice) : Cell :=
  let payload := [byte n.kind.code, byte n.kind.cls, byte n.subject, byte n.merged] ++ n.detail
  { dest := ⟨s.sets.noticeTarget % 8, Nat.mod_lt _ (by decide)⟩, destConsole := true, origin := s.id, originConsole := false
    kind := CellKind.note.code, tag := 0, length := payload.length, relayed := false, payload := .ofList 16 0 payload }

/-! ### The queues of the service lane engine (section 5.3.1) -/

/-- The state with the outbound queue one cell longer. -/
def State.pushOutbound (s : State) (c : Cell) : State := s.setService { s.service with outbound := s.service.outbound ++ [c] }

/-- The state with the console queue one cell longer. -/
def State.pushConsole (s : State) (c : Cell) : State := s.setService { s.service with console := s.service.console ++ [c] }

/-- The state with the work queue one cell longer. -/
def State.pushWork (s : State) (c : Cell) : State := s.setService { s.service with work := s.service.work ++ [c] }

/-- A queue of 16 cells has room (section 5.3.1). -/
def hasRoom (q : List Cell) : Bool := q.length < 16

/-- The request came from this node's own host (R93, R94). -/
def State.fromOwnHost (s : State) (c : Cell) : Bool := c.originConsole && c.origin == s.id && s.isDesk

/-- The queue the answers of a request go to has room (R93). -/
def State.answerRoom (s : State) (req : Cell) : Bool :=
  if s.fromOwnHost req then hasRoom s.service.console else hasRoom s.service.outbound

/-- A cell placed in the answer queue of a request (R94). -/
def State.place (s : State) (req c : Cell) : State := if s.fromOwnHost req then s.pushConsole c else s.pushOutbound c

/-- An answer made at intake or on removal, for the host: placed in the console queue at once, or discarded and counted
when that is full (R91). -/
def State.answerHost (s : State) (req : Cell) (r : Reply) : State :=
  if hasRoom s.service.console then s.pushConsole (s.answerCell req r) else s.bump .consoleDiscards

end Sys2Proof.Machine
end

