-- ==== Sys2Proof/Machine/Tracking.lean ====
section
/-! DEFINITION. Gain tracking (chapter 7): parties, stage trims, the step cell queue, the tracking schedule and table. -/

namespace Sys2Proof.Machine

/-- The node's party: its own id at a DESK, SETS.mix_master at a STAGE (R123). -/
def State.party (s : State) : Nat := if s.isStage then s.sets.mixMaster else s.id.val

/-- The state with its step cell queue replaced. -/
def State.setStepQueue (s : State) (q : List StepRecord) : State := s.setService { s.service with stepQueue := q }

/-! ### Forming STEP cells (R127) -/

/-- The first n records of a destination in queue order, and the records left behind. -/
def takeFor (d : NodeId) : Nat → List StepRecord → List StepRecord × List StepRecord
  | 0, l => ([], l)
  | _ + 1, [] => ([], [])
  | n + 1, r :: l =>
    if r.dest = d then (r :: (takeFor d n l).1, (takeFor d n l).2)
    else ((takeFor d (n + 1) l).1, r :: (takeFor d (n + 1) l).2)

/-- The records of the next STEP cell and the queue left behind (R127). -/
def packStep (q : List StepRecord) : List StepRecord × List StepRecord :=
  match q with
  | [] => ([], [])
  | r :: _ => takeFor r.dest 3 q

/-- The packing repeated at most `fuel` times. -/
def countSteps : Nat → List StepRecord → Nat
  | 0, _ => 0
  | _ + 1, [] => 0
  | fuel + 1, r :: l => 1 + countSteps fuel (packStep (r :: l)).2

/-- How many STEP cells a queue would form (R127). -/
def stepCells (q : List StepRecord) : Nat := countSteps q.length q

/-- The payload bytes of one step record (R186). -/
def StepRecord.bytes (r : StepRecord) : List Byte :=
  [byte r.input, signedByte r.delta] ++ word16 r.apply ++ [byte r.exempt.val]

/-- The STEP cell of records for one destination (R127). -/
def State.stepCell (s : State) (d : NodeId) (l : List StepRecord) : Cell :=
  let payload := byte l.length :: l.flatMap StepRecord.bytes
  { dest := toNode d, destConsole := false, origin := s.id, originConsole := false, kind := CellKind.step.code, tag := 0
    length := payload.length, relayed := false, payload := .ofList 16 0 payload }

/-! ### The tracking table and schedule (R130 to R134) -/

/-- A trim with an amount added, clamped to −128 to +127 (R125, R131). -/
def addTrim (t a : Int) : Int := clampInt (t + a) (-128) 127

/-- A compensation added to the tracking table (R131). -/
def State.compensate (s : State) (stage : NodeId) (input : Nat) (amount : Int) : State :=
  s.setTracking { s.tracking with table := s.tracking.table.modify (stage.val * 64 + input) (addTrim · amount) }

/-- A schedule with one entry more, in order of apply superframe, after its equals (R130). -/
def insertEntry (x : ScheduleEntry) : List ScheduleEntry → List ScheduleEntry
  | [] => [x]
  | y :: l => if sfAtOrAfter x.apply y.apply then y :: insertEntry x l else x :: y :: l

/-- The schedule entries that satisfy p apply in schedule order and leave the schedule (R131, R132). -/
def State.applyEntries (s : State) (p : ScheduleEntry → Bool) : State :=
  let t := (s.tracking.schedule.filter p).foldl (fun s x => s.compensate x.stage x.input x.amount) s
  t.setTracking { t.tracking with schedule := s.tracking.schedule.filter fun x => !p x }

/-- The entries whose apply capture frame is at or before c apply (R131). -/
def State.trackTo (s : State) (c : Nat) : State := s.applyEntries fun x => gfAtOrAfter c (globalCount x.apply 0)

/-- The local global frame count of the coming boundary, or of the current one while its work is owed. -/
def State.comingCount (s : State) : Nat := if s.timing.frameOwed then s.count else (s.count + 1) % 3145728

/-- D at the coming boundary (R80). -/
def State.comingDelay (s : State) : Nat := if s.timing.frameOwed then s.present.delay else s.present.delayNext

/-- The capture frame that the coming boundary presents (R78, R80). -/
def State.comingCapture (s : State) : Nat :=
  let t := s.setPresent { s.present with delay := s.comingDelay }
  if t.repeats s.comingCount then s.present.lastCapture else t.captureFor s.comingCount

/-- At a jump the entries outside the window from p to p + 232 apply, p being the capture frame the first boundary after the
jump presents (R132). -/
def State.trackJump (s : State) : State :=
  let p := s.comingCapture
  s.applyEntries fun x => 232 < gfDistance p (globalCount x.apply 0)

/-- A compensation applied at once is counted and reported: LATE 0, RANGE 1, FULL 2 (R133). -/
def State.compensateLate (s : State) (x : ScheduleEntry) (cause : Nat) : State :=
  ((s.compensate x.stage x.input x.amount).bump .lateCompensations).raise .stepLate (x.stage.val * 64 + x.input)
    (byte cause :: signed16 x.amount ++ word16 x.apply ++ word24 s.present.lastCapture)

/-- A compensation formed from a step record is scheduled or applied at once (R129). -/
def State.takeCompensation (s : State) (x : ScheduleEntry) : State :=
  let a := globalCount x.apply 0
  if gfAtOrAfter s.present.lastCapture a then s.compensateLate x 0
  else if 232 < gfDistance s.present.lastCapture a then s.compensateLate x 1
  else if 32 ≤ s.tracking.schedule.length then s.compensateLate x 2
  else s.setTracking { s.tracking with schedule := insertEntry x s.tracking.schedule }

/-- One record of a taken STEP cell, skipped or treated (R129). -/
def State.takeRecord (s : State) (stage : NodeId) (b : List Byte) : State :=
  let input := (byteAt b 0).toNat
  let delta := (byteAt b 1).toInt
  let exempt := (byteAt b 4).toNat
  if 63 < input ∨ delta = 0 ∨ delta < -56 ∨ 56 < delta ∨ exempt = s.party then s
  else s.takeCompensation ⟨stage, input, -4 * delta, wordAt b 2⟩

/-- The receiver takes STEP cells of a node whose record shows role STAGE and is not UNKNOWN (R129). -/
def State.takesStepsOf (s : State) (n : NodeId) : Bool :=
  (s.reachOf n).role == some .stage && (s.reachOf n).state != .unknown

/-- The payload bytes that the Length counts; the others are ignored (R183). -/
def Cell.counted (c : Cell) : List Byte := c.payload.toList.take c.length

/-- The whole records of a STEP cell's payload within its Length, at most the three it can hold (R183, R186; DESIGN CHOICE,
assumption log entry 35). -/
def Cell.stepRecords (c : Cell) : List (List Byte) :=
  let l := c.counted
  pieces 5 (min (byteAt l 0).toNat (min ((l.length - 1) / 5) 3)) (l.drop 1)

/-- A STEP cell at the head of the work queue is executed as one event and leaves it (R93, R129). -/
def State.runStep (s : State) : State :=
  match s.service.work with
  | c :: rest =>
    if c.kind? = some .step then
      let s := s.setService { s.service with work := rest }
      if s.takesStepsOf c.origin then c.stepRecords.foldl (fun s b => s.takeRecord c.origin b) s
      else s.bump .cellDiscards
    else s
  | [] => s

/-! ### Commands -/

/-- TRACKING_APPLY (R131), taken at the coming boundary: nothing happens while the local frame timer does not run. -/
def execTrackingApply (s : State) : Host.Outcome State Fault Refusal :=
  .next (if s.timing.running then s.trackTo s.comingCapture else s)

/-- STEP (R129): nothing happens unless a STEP cell stands at the head of the work queue. -/
def execStep (s : State) : Host.Outcome State Fault Refusal := .next (s.event State.runStep)

end Sys2Proof.Machine
end

