-- ==== Sys2Proof/Machine/Preamp.lean ====
section
/-! DEFINITION. Shared preamplifiers (chapter 6): ownership, gain changes and the converter line; and the stage trim's part
in a change (R125). The actions that cells carry are in Machine/Actions.lean. -/

namespace Sys2Proof.Machine

/-- The preamp entry of an input. -/
def State.entry (s : State) (n : Nat) : PreampEntry := s.preamp.entries.get n

/-- The state with one preamp entry replaced. -/
def State.setEntry (s : State) (n : Nat) (e : PreampEntry) : State :=
  s.setPreamp { s.preamp with entries := s.preamp.entries.put n e }

/-- An input is fitted when its converter address is below the converter count (R105). -/
def State.fitted (s : State) (n : Nat) : Bool := n / 16 < s.image.optn.converters

/-- Effective steps: steps less 16 when the pad is ON (R105). -/
def Gain.effective (g : Gain) : Int := if g.pad then (g.steps : Int) - 16 else g.steps

/-! ### Ownership (R110 to R112) -/

/-- The code of an owner state (R187). -/
def OwnerState.code : OwnerState → Nat
  | .held => 0
  | .grace => 1
  | .orphaned => 2

/-- The causes of an OWNER notice, numbered in the order R112 lists them. -/
inductive OwnerCause where
  | claim
  | release
  | grace
  | returned
  | orphaned
  | roleChange
  | nextDiscarded
deriving DecidableEq, Repr

/-- The code of an OWNER notice's cause (R112, R186). -/
def OwnerCause.code : OwnerCause → Nat
  | .claim => 0
  | .release => 1
  | .grace => 2
  | .returned => 3
  | .orphaned => 4
  | .roleChange => 5
  | .nextDiscarded => 6

/-- An OWNER notice with an input's owner and owner state as they stand (R112); both are absent, 0xFF, without an owner. -/
def State.raiseOwner (s : State) (n : Nat) (cause : OwnerCause) : State :=
  let e := s.entry n
  s.raise .owner n (match e.owner with
    | some o => [byte o.val, byte e.ownerState.code, byte cause.code]
    | none => [0xFF, 0xFF, byte cause.code])

/-- An input's owner, owner state and grace timer change, and the change is reported (R112). -/
def State.setOwner (s : State) (n : Nat) (owner : Option NodeId) (st : OwnerState) (grace : Nat) (cause : OwnerCause) : State :=
  (s.setEntry n { s.entry n with owner := owner, ownerState := st, grace := grace }).raiseOwner n cause

/-- Entries HELD by a node that became UNREACHABLE enter GRACE, or ORPHANED when SETS.orphan_grace is 0 (R110). -/
def State.ownerLost (s : State) (node : NodeId) : State :=
  forEach 64 (fun n s =>
    let e := s.entry n
    if e.owner = some node ∧ e.ownerState = .held then
      if s.sets.orphanGrace = 0 then s.setOwner n (some node) .orphaned 0 .orphaned
      else s.setOwner n (some node) .grace s.sets.orphanGrace .grace
    else s) s

/-- GRACE entries of a node that became REACHABLE return to HELD (R111). -/
def State.ownerBack (s : State) (node : NodeId) : State :=
  forEach 64 (fun n s =>
    let e := s.entry n
    if e.owner = some node ∧ e.ownerState = .grace then s.setOwner n (some node) .held 0 .returned else s) s

/-- Entries of a node whose role changed to STAGE lose their owner (R110). -/
def State.ownerDemoted (s : State) (node : NodeId) : State :=
  forEach 64 (fun n s => if (s.entry n).owner = some node then s.setOwner n none .held 0 .roleChange else s) s

/-- An entry's grace timer stands at 0 in GRACE (R111). -/
def State.graceDue (s : State) (n : Nat) : Bool :=
  (s.entry n).owner.isSome && (s.entry n).ownerState == .grace && (s.entry n).grace == 0

/-- The entry becomes ORPHANED (R111). -/
def State.graceExpiry (s : State) (n : Nat) : State :=
  if s.graceDue n then s.setOwner n (s.entry n).owner .orphaned 0 .orphaned else s

/-- The entry of an input at a superframe boundary: a grace timer in GRACE counts down (R111). -/
def PreampEntry.countDown (e : PreampEntry) : PreampEntry :=
  if e.owner.isSome ∧ e.ownerState = .grace then { e with grace := e.grace - 1 } else e

/-! ### Gain changes (R113 to R118, R125) -/

/-- The Δ of a change: target effective steps less those applied now (R113). -/
def State.deltaFor (s : State) (n : Nat) (target : Gain) : Int := target.effective - (s.entry n).gain.effective

/-- The nodes a change needs step records for, ascending (R114, R126). -/
def State.stepDests (s : State) (requester : NodeId) (delta : Int) : List NodeId :=
  if delta = 0 then []
  else (List.finRange 4).filter fun n => s.isReachable n && n != s.id && n != requester

/-- Both queues have room for a change (R114). -/
def State.changeRoom (s : State) (requester : NodeId) (delta : Int) : Bool :=
  s.service.stepQueue.length + (s.stepDests requester delta).length ≤ 32 && s.preamp.queue.length < 16

/-- The converter command of an input (R105, R119). -/
def convCommand (n : Nat) (g : Gain) (apply : Nat) : ConvCommand := ⟨n / 16, n % 16, g, apply⟩

/-- A pending change is created with its step records and its converter command, for four superframes ahead (R114). A next
target of the entry stays (DESIGN CHOICE, assumption log entry 70). -/
def State.createChange (s : State) (n : Nat) (target : Gain) (requester : NodeId) : State :=
  let delta := s.deltaFor n target
  let apply := sfAdd s.timing.superframe 4
  let records := (s.stepDests requester delta).map fun d => (⟨d, n, delta, apply, requester⟩ : StepRecord)
  let s := s.setEntry n { s.entry n with pending := some ⟨target, delta, apply, requester⟩ }
  let s := s.setStepQueue (s.service.stepQueue ++ records)
  s.setPreamp { s.preamp with queue := s.preamp.queue ++ [convCommand n target apply] }

/-- One entry's waiting next target is examined (R116). -/
def State.promoteOne (n : Nat) (s : State) : State :=
  let e := s.entry n
  match e.next, e.pending with
  | some t, none =>
    if e.owner ≠ some t.requester ∨ e.ownerState = .orphaned then
      (s.setEntry n { e with next := none }).raiseOwner n .nextDiscarded
    else if s.changeRoom t.requester (s.deltaFor n t.target) then
      (s.setEntry n { e with next := none }).createChange n t.target t.requester
    else s
  | _, _ => s

/-- The preamp controller examines the next targets in index order (R116). -/
def State.promote (s : State) : State := if s.isStage then forEach 64 State.promoteOne s else s

/-- The stage trim answers an applied change of an input (R125). -/
def State.trimCompensate (s : State) (n : Nat) (c : PendingChange) : State :=
  if s.party = c.exempt.val ∨ c.delta = 0 then s
  else
    let t := s.tracking.strim.get n + -4 * c.delta
    let s := s.setTracking { s.tracking with strim := s.tracking.strim.put n (addTrim t 0) }
    if t < -128 ∨ 127 < t then s.setEntry n { s.entry n with trimLimit := true } else s

/-- A pending change applies and is cleared (R117). -/
def State.applyChange (s : State) (n : Nat) : State :=
  match (s.entry n).pending with
  | some c => (s.setEntry n { s.entry n with gain := c.target, pending := none }).trimCompensate n c
  | none => s

/-- The node stands at frame 0 of the apply superframe of an input's pending change (R117). -/
def State.changeDue (s : State) (n : Nat) : Bool :=
  s.timing.frame == 0 && ((s.entry n).pending.any fun c => c.apply == s.timing.superframe)

/-- A change that stands due applies, and the next targets are examined (R116, R117). -/
def State.changeNow (s : State) (n : Nat) : State := if s.changeDue n then (s.applyChange n).promote else s

/-! ### The converter line (R119 to R121) -/

/-- An input's converter status (R121). -/
def State.setConfirmed (s : State) (n : Nat) (b : Bool) : State := s.setEntry n { s.entry n with confirmed := b }

/-- A converter fault: the entry becomes UNCONFIRMED, a CONVERTER notice is queued with its cause (NO_ACK 0, LATE 1,
SKIPPED 2) and the command, and the fault is counted (R118 to R121). -/
def State.converterFault (s : State) (c : ConvCommand) (cause : Nat) : State :=
  let n := c.address * 16 + c.channel
  ((s.setConfirmed n false).raise .converter n
    [byte cause, byte c.address, byte c.channel, byte c.gain.steps, flagByte c.gain.pad, flagByte c.gain.phantom
      , byte (c.apply % 16)]).bump .converterFaults

/-- One pending change at a jump: it stays for the next four superframes, applies by R117 where the load lands on its frame
0, and otherwise applies at the jump and is reported SKIPPED (R118). -/
def State.jumpChange (n : Nat) (s : State) : State :=
  match (s.entry n).pending with
  | some c =>
    let d := sfDistance s.timing.superframe c.apply
    if 1 ≤ d ∧ d ≤ 4 then s
    else if s.changeDue n then s.applyChange n
    else (s.applyChange n).converterFault (convCommand n c.target c.apply) 2
  | none => s

/-- A pending change of s is no longer pending in t. -/
def State.clearedSince (s t : State) : Bool :=
  (List.range 64).any fun n => (s.entry n).pending.isSome && (t.entry n).pending.isNone

/-- Every pending change is examined at a jump, and the next targets where one was cleared (R116, R118). -/
def State.preampJump (s : State) : State :=
  if s.isStage then
    let t := forEach 64 State.jumpChange s
    if s.clearedSince t then t.promote else t
  else s

/-- The commands of a reload pass: one for each fitted input in index order, with the values of the table as it stands when
the pass starts (R119, R179). -/
def State.reloadPass (s : State) (apply : Nat) : List ConvCommand :=
  ((List.range 64).filter s.fitted).map fun n => convCommand n (s.entry n).gain apply

/-- The reload pass starts, or begins again, from input 0 (R119). -/
def State.startReload (s : State) (apply : Nat) : State := s.setPreamp { s.preamp with reload := s.reloadPass apply }

/-- The start-up reload pass of a STAGE node starts once per hard reset (R179). -/
def State.startupReload (s : State) (apply : Nat) : State :=
  if s.isStage && !s.preamp.reloadStarted then
    (s.startReload apply).setPreamp { (s.startReload apply).preamp with reloadStarted := true }
  else s

/-- Local superframe 64 has begun in HOLDOVER with the start-up pass not started (R179). -/
def State.reloadDue (s : State) : Bool :=
  s.isStage && !s.preamp.reloadStarted && s.timing.running && s.id != 0 && s.timing.superframe == 64
    && s.timing.clock == .holdover

/-- The pass of a stage box without a ring, for superframe 68 (R179). -/
def State.reloadTimeout (s : State) : State := if s.reloadDue then s.startupReload 68 else s

/-- What the converter line carries of a command (R119). -/
def ConvCommand.word (c : ConvCommand) : ConvWord := ⟨c.address, c.channel, c.gain, c.apply % 16⟩

/-- The next command for the line: the reload pass while it runs, otherwise the head of the queue; with the state after it is
taken (R119). -/
def State.nextCommand (s : State) : Option (ConvCommand × State) :=
  match s.preamp.reload with
  | c :: l => some (c, s.setPreamp { s.preamp with reload := l })
  | [] =>
    match s.preamp.queue with
    | c :: q => some (c, s.setPreamp { s.preamp with queue := q })
    | [] => none

/-- The oldest outstanding command has reached its deadline (R120). -/
def State.ackDue (s : State) : Bool := s.preamp.outstanding.head?.any fun o => o.left == 0

/-- The oldest outstanding command leaves the list unacknowledged: NO_ACK (R120). Its entry's status follows though a later
command of the entry has been sent, was late or was skipped (R121; DESIGN CHOICE, assumption log entry 71). -/
def State.expireOldest (s : State) : State :=
  match s.preamp.outstanding with
  | o :: l => (s.setPreamp { s.preamp with outstanding := l }).converterFault o.command 0
  | [] => s

/-- An expired command leaves the outstanding list (R120). -/
def State.ackExpiry (s : State) : State := if s.ackDue then s.expireOldest else s

/-- A transferred command joins the outstanding list with a deadline 48 local frames ahead. The list holds 48 at most: the
one whose deadline falls in this frame makes room (R120). -/
def State.transfer (s : State) (c : ConvCommand) : State :=
  let s := if 48 ≤ s.preamp.outstanding.length then s.expireOldest else s
  s.setPreamp { s.preamp with outstanding := s.preamp.outstanding ++ [⟨c, 48⟩], transfer := some c.word }

/-- Late commands leave without a transfer until one is transferred or none is left (R119). -/
def State.runLine : Nat → State → State
  | 0, s => s
  | fuel + 1, s =>
    match s.nextCommand with
    | some (c, t) => if sfAfter c.apply s.timing.superframe then t.transfer c else State.runLine fuel (t.converterFault c 1)
    | none => s

/-- The converter line at the start of a local frame (R119); a command that leaves the queue lets next targets in (R116). All
that leave in one frame leave at one event: next targets are examined once, when the line has finished, so a change promoted
then is not transferred in that frame (DESIGN CHOICE, assumption log entry 55). -/
def State.converterLine (s : State) : State :=
  if s.isStage then
    let t := State.runLine (s.preamp.reload.length + s.preamp.queue.length + 1) s
    if t.preamp.queue = s.preamp.queue then t else t.promote
  else s

/-- The superframe strobe with the low four bits of the local superframe number (R119). -/
def State.pulseStrobe (s : State) : State :=
  if s.isStage then s.setPreamp { s.preamp with strobe := some (s.timing.superframe % 16) } else s

/-- A converter's acknowledgement, matched to the oldest outstanding command with that address and channel (R120). Its entry's
status follows though a later command of the entry has been sent, was late or was skipped (R121; DESIGN CHOICE, assumption log
entry 71). -/
def State.acknowledge (s : State) (address channel : Nat) : State :=
  let hit := fun (o : Outstanding) => o.command.address == address && o.command.channel == channel
  if s.preamp.outstanding.any hit then
    (s.setPreamp { s.preamp with outstanding := s.preamp.outstanding.eraseP hit }).setConfirmed (address * 16 + channel) true
  else s

/-! ### Commands -/

/-- PREAMP_CHANGE_APPLY (R117): nothing happens unless the input's change stands due. -/
def execPreampChangeApply (input : Fin 64) (s : State) : Host.Outcome State Fault Refusal := .next (s.event (·.changeNow input.val))

/-- GRACE_EXPIRY (R111): nothing happens unless the input's grace timer stands at 0 in GRACE. -/
def execGraceExpiry (input : Fin 64) (s : State) : Host.Outcome State Fault Refusal := .next (s.event (·.graceExpiry input.val))

/-- ACK_DEADLINE_EXPIRY (R120): nothing happens unless the oldest outstanding command has reached its deadline. -/
def execAckDeadlineExpiry (s : State) : Host.Outcome State Fault Refusal := .next (s.event State.ackExpiry)

/-- CONVERTER_ACK (R120): an acknowledgement that matches nothing is ignored. -/
def execConverterAck (address : Fin 4) (channel : Fin 16) (s : State) : Host.Outcome State Fault Refusal :=
  .next (s.acknowledge address.val channel.val)

/-- RELOAD_PASS_TIMEOUT (R179): nothing happens unless superframe 64 has begun in HOLDOVER without a pass. -/
def execReloadPassTimeout (s : State) : Host.Outcome State Fault Refusal := .next s.reloadTimeout

end Sys2Proof.Machine
end

