-- ==== Sys2Proof/Machine/Reach.lean ====
section
/-! DEFINITION. Rosters and reachability (section 2.5), and what a change of a record does in the blocks that act on it
(R34, R95, R110, R111, R128, R161, R181). -/

namespace Sys2Proof.Machine

/-- The code of a reachability state (R187). -/
def ReachState.code : ReachState → Nat
  | .unknown => 0
  | .reachable => 1
  | .unreachable => 2

/-- The code of a record's role: none 0, STAGE 1, DESK 2 (R187). -/
def roleCode : Option Role → Nat
  | some r => roleMark r
  | none => 0

/-- The detail that names a record's state and role (R34, R106). -/
def Reach.detail (r : Reach) : List Byte := [byte r.state.code, byte (roleCode r.role)]

/-- Step records for a node are discarded; freed room is an event of R116 (R128). -/
def State.discardSteps (s : State) (node : NodeId) : State :=
  let q := s.service.stepQueue.filter fun r => r.dest != node
  if q.length = s.service.stepQueue.length then s else (s.setStepQueue q).promote

/-- One cell removed from the outbound queue: a request of this node's host is answered UNREACHABLE, any other is counted
(R95). -/
def State.removedCell (s : State) (c : Cell) : State :=
  if c.isRequest && s.fromOwnHost c then s.answerHost c (reply .unreachable [byte c.dest.val]) else s.bump .cellDiscards

/-- Cells addressed to a node leave the outbound queue (R95). -/
def State.purgeOutbound (s : State) (node : NodeId) : State :=
  let gone := fun (c : Cell) => c.destNode == some node
  let s' := s.setService { s.service with outbound := s.service.outbound.filter fun c => !gone c }
  (s.service.outbound.filter gone).foldl State.removedCell s'

/-- A REPORT stream to a node is abandoned: the buffer is freed and the loader is IDLE (R181). -/
def State.abandonReport (s : State) (node : NodeId) : State :=
  match s.image.loader with
  | .reporting r => if r.dest = node then s.setImage { s.image with loader := .idle, buffer := [] } else s
  | _ => s

/-- A node became UNREACHABLE (the table of R34). Of the blocks that act at this one moment the preamps' owners come first,
then the discard of step records with its examination of next targets, then the talk sources, the outbound queue and the
report stream (DESIGN CHOICE, assumption log entry 56). -/
def State.nodeLost (s : State) (node : NodeId) : State :=
  let s := if s.isStage then s.ownerLost node else s
  let s := s.discardSteps node
  let s := if s.isStage then s.releaseOfNode node else s
  (s.purgeOutbound node).abandonReport node

/-- A role is known and becomes another (R32, R34). -/
def roleChanged (old new : Option Role) : Bool := old.isSome && new.isSome && old != new

/-- A reachability record takes new values; a change of state or role is reported and acted on (R34). -/
def State.setReach (s : State) (n : NodeId) (r : Reach) : State :=
  let old := s.reachOf n
  let s := s.setMembers { s.members with reach := s.members.reach.put n.val r }
  if old.state = r.state ∧ roleChanged old.role r.role = false then s
  else
    let s := s.raise .reach n.val r.detail
    if old.state ≠ r.state then
      match r.state with
      | .unreachable => s.nodeLost n
      | .reachable => if s.isStage then s.ownerBack n else s
      | .unknown => s
    else if r.state = .reachable ∧ r.role = some .stage ∧ s.isStage = true then s.ownerDemoted n
    else s

/-- A record after a roster with this mark (R32). -/
def Reach.marked (r : Reach) (mark : Option Role) : Reach :=
  match mark with
  | some role =>
    let run := min (r.present + 1) 2
    { state := if run = 2 then .reachable else r.state, role := some role, present := run, absent := 0 }
  | none =>
    let run := min (r.absent + 1) 8
    { r with state := if run = 8 then .unreachable else r.state, present := 0, absent := run }

/-- An operation taken for each of the other node ids in ascending order, so several nodes lost at one event are taken one by
one (DESIGN CHOICE, assumption log entry 61). -/
def State.forOthers (s : State) (f : NodeId → State → State) : State :=
  ((List.finRange 4).filter fun n => n != s.id).foldl (fun s n => f n s) s

/-- A roster is taken (R32). -/
def State.takeRoster (s : State) (roster : Byte) : State :=
  s.forOthers fun n s => s.setReach n ((s.reachOf n).marked (markRole roster n.val))

/-- The isolation count has reached 8, once in each isolation, and its consequences are still to be drawn (R33). -/
def State.isolationDue (s : State) : Bool := s.members.isolationOwed

/-- Every other record becomes UNREACHABLE (R33), the lowest node id first with all that follows from it (R95, R128; DESIGN
CHOICE, assumption log entry 61). -/
def State.isolationExpiry (s : State) : State :=
  if s.isolationDue then
    (s.setMembers { s.members with isolationOwed := false }).forOthers fun n s =>
      if s.isUnreachable n then s
      else s.setReach n { s.reachOf n with state := .unreachable, present := 0, absent := 8 }
  else s

/-- ISOLATION_COUNT_EXPIRY (R33): nothing happens unless the count has reached 8 and its consequences are still owed. -/
def execIsolationCountExpiry (s : State) : Host.Outcome State Fault Refusal := .next (s.event State.isolationExpiry)

end Sys2Proof.Machine
end

