-- ==== Sys2Proof/Machine/Flags.lean ====
section
/-! DEFINITION. The status flags of a port, their deltas and the PORT notice a change raises (R11, R12, R14). -/

namespace Sys2Proof.Machine

/-- The flags that differ between two readings. -/
def PortFlags.changed (a b : PortFlags) : PortFlags :=
  ⟨a.light != b.light, a.locked != b.locked, a.farFault != b.farFault, a.turned != b.turned⟩

/-- Some flag is set. -/
def PortFlags.any (a : PortFlags) : Bool := a.light || a.locked || a.farFault || a.turned

/-- The flags set in either reading. -/
def PortFlags.union (a b : PortFlags) : PortFlags :=
  ⟨a.light || b.light, a.locked || b.locked, a.farFault || b.farFault, a.turned || b.turned⟩

/-- All four clear. -/
def PortFlags.clear : PortFlags := ⟨false, false, false, false⟩

/-- The flags and deltas byte of a PORTS record (R187). -/
def flagsByte (f d : PortFlags) : Byte :=
  byte (ofFlags [f.light, f.locked, f.farFault, f.turned, d.light, d.locked, d.farFault, d.turned])

/-- The flags of a port take new values: each changed flag sets its delta, and a change raises one PORT notice (R12, R14). -/
def State.setFlags (s : State) (p : Side) (new : PortFlags) : State :=
  let d := (s.port p).flags.changed new
  if d.any then
    (s.setPort p { s.port p with flags := new, deltas := (s.port p).deltas.union d }).raise .port (sideCode p)
      [flagsByte new d]
  else s

/-- The lock-loss counter of a port (R15). -/
def lossCounter : Side → CounterId
  | .e => .lossE
  | .w => .lossW

/-- The CRC error counter of a port (R15). -/
def crcCounter : Side → CounterId
  | .e => .crcE
  | .w => .crcW

/-- A port goes to HUNT from any lock state: the reference and the bad run are discarded, the flags clear (LIGHT as given),
and on leaving LOCKED the side's partner fields clear (R10, R11, R45). `loss` says that leaving LOCKED counts as a lock
loss (R15). -/
def State.toHunt (s : State) (p : Side) (light loss : Bool) : State :=
  let was := (s.port p).lock == .locked
  let s := s.setPort p { s.port p with lock := .hunt, reference := none, badRun := 0 }
  let s := if was && loss then s.bump (lossCounter p) else s
  let s := s.setFlags p ⟨light, false, false, false⟩
  if was then s.setSpan p { s.span p with partner := none, partnerReady := false } else s

end Sys2Proof.Machine
end

