-- ==== Sys2Proof/Machine/Ring.lean ====
section
/-! DEFINITION. Ring integrity (chapter 3): the ring state, the span states and their holds, the unwrap and isolation. -/

namespace Sys2Proof.Machine

/-- The code of a span state (R187). -/
def SpanState.code : SpanState → Nat
  | .good => 0
  | .defect => 1
  | .failed => 2
  | .restoring => 3
  | .unwrapPending => 4

/-- The code of a ring state (R187). -/
def RingState.code : RingState → Nat
  | .dark => 0
  | .forming => 1
  | .closed => 2
  | .wrappedE => 3
  | .wrappedW => 4
  | .isolated => 5

/-- The code of a clock state (R187). -/
def ClockState.code : ClockState → Nat
  | .free => 0
  | .locked => 1
  | .holdover => 2

/-- The clock takes a state; a change queues a CLOCK notice (R35). -/
def State.setClock (s : State) (c : ClockState) : State :=
  if s.timing.clock = c then s
  else (s.setTiming { s.timing with clock := c }).raise .clock s.id.val (byte c.code :: word16 s.timing.superframe)

/-- The ring state the inputs call for: the first case of R62 that applies; DARK until the ports are enabled. -/
def State.determined (s : State) : RingState :=
  if s.ring.state = .dark then .dark
  else if !s.inService .e && !s.inService .w then .isolated
  else if s.timing.masterAbsence = 8 then .isolated
  else if !s.inService .e then .wrappedE
  else if !s.inService .w then .wrappedW
  else if s.ring.masterTaken then .closed
  else .forming

/-- D leaves its start value at the first CLOSED or WRAPPED state after a hard reset (R80). -/
def State.startDelay (s : State) : State :=
  match s.ring.state with
  | .closed | .wrappedE | .wrappedW =>
    if s.present.delayStarted then s
    else s.setPresent { s.present with delayNext := s.sets.presentationDelay, delayStarted := true }
  | _ => s

/-- The ring state is set: a RING notice, the start of D and the FAULT lines follow the change (R63, R80, R167). -/
def State.setRingState (s : State) (r : RingState) : State :=
  let s := (s.setRing { s.ring with state := r }).startDelay
  (s.raise .ring s.id.val
    ([byte r.code, byte (s.span .e).state.code, byte (s.span .w).state.code] ++ word16 s.timing.superframe)).driveLines

/-- The ring state is determined again (R62). -/
def State.redetermine (s : State) : State := if s.determined = s.ring.state then s else s.setRingState s.determined

/-- A span record on entry to FAILED (R49). -/
def Span.failed (x : Span) : Span :=
  { x with state := .failed, holdoff := 0, restore := 0, ready := false, unwrap := none, namer := false }

/-- A span enters FAILED, and the ring state follows (R49, R62). -/
def State.failSpan (s : State) (p : Side) : State := (s.setSpan p (s.span p).failed).redetermine

/-- A span record after one evaluation of its side's defect (R48, R49). -/
def Span.react (x : Span) (defect : Bool) (sets : Sets) : Span :=
  match x.state, defect with
  | .good, true =>
    if sets.wrapHoldoff = 0 then x.failed else { x with state := .defect, holdoff := sets.wrapHoldoff }
  | .defect, false => { x with state := .good, holdoff := 0 }
  | .failed, false => { x with state := .restoring, restore := sets.restoreHold, ready := false }
  | .restoring, true => x.failed
  | .unwrapPending, true => x.failed
  | _, _ => x

/-- A span answers one evaluation of its side's defect (R48, R49). -/
def State.react (s : State) (p : Side) : State := s.setSpan p ((s.span p).react (s.defect p) s.sets)

/-- A side's defect is evaluated, the ring state left for later. A span that fails is evaluated once more, since leaving
service may itself end its defect (R46, R55). -/
def State.examine (s : State) (p : Side) : State := (s.react p).react p

/-- The ring controller evaluates a side's defect (R46). In DARK the span states do not respond. The ring state is
determined once the span stands, so a span that goes FAILED and RESTORING at one evaluation, as with a wrap hold-off of 0,
shows RESTORING in the RING notice's detail (R63; DESIGN CHOICE, assumption log entry 53). -/
def State.evaluate (s : State) (p : Side) : State :=
  if s.ring.state = .dark then s else (s.examine p).redetermine

/-- The lower-id end of a ready span names an unwrap four superframes ahead (R51). -/
def State.nameUnwrap (s : State) (p : Side) : State :=
  let sp := s.span p
  match sp.partner with
  | some q =>
    if sp.state = .restoring ∧ sp.ready = true ∧ sp.partnerReady = true ∧ s.id < q then
      s.setSpan p { sp with state := .unwrapPending, unwrap := some (sfAdd s.timing.superframe 4), namer := true }
    else s
  | none => s

/-- The higher-id end of a ready span adopts the unwrap that a frame 2 supervision frame names (R52). -/
def State.adoptUnwrap (s : State) (p : Side) (h : Header) : State :=
  let sp := s.span p
  match sp.partner, h.unwrap with
  | some q, some (side, n) =>
    let d := sfDistance h.superframe n
    if h.frame = 2 ∧ sp.state = .restoring ∧ sp.ready = true ∧ q < s.id ∧ side = oppositeSide p ∧ 1 ≤ d ∧ d ≤ 4 then
      s.setSpan p { sp with state := .unwrapPending, unwrap := some (sfAdd s.timing.superframe d), namer := false }
    else s
  | _, _ => s

/-- A delivered frame updates the side's partner id and partner ready (R45). -/
def State.updatePartner (s : State) (p : Side) (f : Frame) : State :=
  let sp := s.span p
  match f with
  | .supervision h =>
    let partner := match markedNodes h.presence with
      | [q] => some q
      | _ => none
    s.setSpan p { sp with partner := partner, partnerReady := if h.frame = 0 then h.restoreReady else sp.partnerReady }
  | .primary h _ _ => if h.frame = 0 then s.setSpan p { sp with partnerReady := false } else s

/-! ### Expiries of the span holds and of the master-absence count -/

/-- The hold-off of a span in DEFECT stands at 0 (R48). -/
def State.holdoffDue (s : State) (p : Side) : Bool := (s.span p).state == .defect && (s.span p).holdoff == 0

/-- The span's hold-off has run out: it enters FAILED, the ring state follows with a RING notice that shows it FAILED, and
only then is its defect evaluated again (R48, R49; DESIGN CHOICE, assumption log entry 53). -/
def State.holdoffExpiry (s : State) (p : Side) : State := if s.holdoffDue p then (s.failSpan p).evaluate p else s

/-- The restore hold of a span stands at 0 with ready clear (R50). -/
def State.restoreDue (s : State) (p : Side) : Bool :=
  (s.span p).state == .restoring && !(s.span p).ready && (s.span p).restore == 0

/-- The restore hold is complete: ready is set, and the lower-id end may name the unwrap (R50, R51). -/
def State.restoreExpiry (s : State) (p : Side) : State :=
  if s.restoreDue p then (s.setSpan p { s.span p with ready := true }).nameUnwrap p else s

/-- The node stands at local frame 0 of the span's unwrap superframe (R53). -/
def State.unwrapDue (s : State) (p : Side) : Bool :=
  (s.span p).state == .unwrapPending && (s.span p).unwrap == some s.timing.superframe && s.timing.frame == 0

/-- The span becomes GOOD and the path through the node changes (R53). -/
def State.unwrapNow (s : State) (p : Side) : State :=
  if s.unwrapDue p then
    ((s.setSpan p { s.span p with state := .good, holdoff := 0, restore := 0, ready := false, unwrap := none, namer := false
                                  partnerReady := false }).redetermine).evaluate p
  else s

/-- The master-absence count stands at 8 and its consequences have not been drawn (R35, R62); a master-origin frame in the
period under way ends the absence, though the count shows it only at the boundary. -/
def State.absenceDue (s : State) : Bool :=
  s.timing.masterAbsence == 8 && !s.timing.masterInPeriod && (s.timing.clock == .locked || s.determined != s.ring.state)

/-- The master-absence count has reached 8: HOLDOVER, and the ring state follows (R35, R62). -/
def State.absenceExpiry (s : State) : State :=
  if s.absenceDue then (if s.timing.clock = .locked then s.setClock .holdover else s).redetermine else s

/-! ### Commands -/

/-- WRAP_HOLDOFF_EXPIRY (R48): nothing happens unless the hold-off stands due. -/
def execWrapHoldoffExpiry (side : Side) (s : State) : Host.Outcome State Fault Refusal := .next (s.event (·.holdoffExpiry side))

/-- RESTORE_HOLD_EXPIRY (R50): nothing happens unless the restore hold stands due. -/
def execRestoreHoldExpiry (side : Side) (s : State) : Host.Outcome State Fault Refusal := .next (s.restoreExpiry side)

/-- UNWRAP_APPLY (R53): nothing happens unless the node stands at frame 0 of the unwrap superframe. -/
def execUnwrapApply (side : Side) (s : State) : Host.Outcome State Fault Refusal := .next (s.event (·.unwrapNow side))

/-- MASTER_ABSENCE_EXPIRY (R35): nothing happens unless the count stands at 8 with its consequences to be drawn. -/
def execMasterAbsenceExpiry (s : State) : Host.Outcome State Fault Refusal := .next (s.event State.absenceExpiry)

end Sys2Proof.Machine
end

