-- ==== Sys2Proof/Machine/Operands.lean ====
section
/-! DEFINITION. The operand forms of requests: the tables and their entries as bytes, both ways (R96, R99, R102, R187). The
decoders serve a WRITE and the loading of a stored chunk alike (R188). -/

namespace Sys2Proof.Machine

/-! ### The tables (section 5.6) -/

/-- The tables of the catalogue. -/
inductive Table where
  | node
  | ports
  | reach
  | slotA
  | slotB
  | dropA
  | dropB
  | dtrim
  | preamp
  | strim
  | track
  | bus
  | send
  | talksrc
  | talkreg
  | lines
  | sets
  | count
deriving DecidableEq, Repr

/-- The table an id names (section 5.6). -/
def Table.ofId (id : Nat) : Option Table :=
  match id with
  | 0x01 => some .node
  | 0x02 => some .ports
  | 0x03 => some .reach
  | 0x10 => some .slotA
  | 0x11 => some .slotB
  | 0x12 => some .dropA
  | 0x13 => some .dropB
  | 0x14 => some .dtrim
  | 0x20 => some .preamp
  | 0x21 => some .strim
  | 0x22 => some .track
  | 0x30 => some .bus
  | 0x31 => some .send
  | 0x40 => some .talksrc
  | 0x41 => some .talkreg
  | 0x50 => some .lines
  | 0x60 => some .sets
  | 0x70 => some .count
  | _ => none

/-- How many entries a table has (section 5.6). -/
def Table.entries : Table → Nat
  | .node => 1
  | .ports => 2
  | .reach => 4
  | .slotA => 128
  | .slotB => 128
  | .dropA => 64
  | .dropB => 64
  | .dtrim => 64
  | .preamp => 64
  | .strim => 64
  | .track => 256
  | .bus => 16
  | .send => 512
  | .talksrc => 8
  | .talkreg => 4
  | .lines => 8
  | .sets => 8
  | .count => 1

/-- The size of a table's entry in bytes (R187). NODE and COUNT are carried in segments, 12 bytes each. -/
def Table.size : Table → Nat
  | .node => 12
  | .ports => 3
  | .reach => 2
  | .slotA => 3
  | .slotB => 3
  | .dropA => 2
  | .dropB => 2
  | .dtrim => 1
  | .preamp => 12
  | .strim => 1
  | .track => 1
  | .bus => 9
  | .send => 5
  | .talksrc => 6
  | .talkreg => 4
  | .lines => 4
  | .sets => 2
  | .count => 12

/-- The tables that exist at STAGE nodes alone (R101). -/
def Table.stageOnly : Table → Bool
  | .preamp => true
  | .strim => true
  | .bus => true
  | .send => true
  | .talksrc => true
  | .talkreg => true
  | _ => false

/-- The status that refuses a WRITE of a table that can only be read (R101). -/
def Table.readOnly : Table → Option Status
  | .node => some .isProtected
  | .ports => some .isProtected
  | .reach => some .isProtected
  | .talkreg => some .isProtected
  | .count => some .isProtected
  | .preamp => some .role
  | _ => none

/-- NODE and COUNT are single records carried in segments (R187). -/
def Table.segmented : Table → Bool
  | .node => true
  | .count => true
  | _ => false

/-- An index as an answer's detail writes it: two bytes for a table of more than 256 entries (R186). -/
def Table.indexBytes (t : Table) (i : Nat) : List Byte := if 256 < t.entries then word16 i else [byte i]

/-! ### Entries as bytes: values with few cases -/

/-- The code of a lock state (R187). -/
def LockState.code : LockState → Nat
  | .hunt => 0
  | .presync => 1
  | .locked => 2

/-- The code of a loop mode (R187). -/
def LoopMode.code : LoopMode → Nat
  | .off => 0
  | .internal => 1
  | .line => 2

/-- The code of a role in the NODE record (R187). -/
def nodeRole : Role → Nat
  | .stage => 0
  | .desk => 1

/-- A node id or none in one byte (R183). -/
def nodeByte (n : Option NodeId) : Byte := byte (n.elim 255 Fin.val)

/-- An optional two-byte field of a record, 0 where it is absent. -/
def optionWord (n : Option Nat) : List Byte := word16 (n.getD 0)

/-! ### Entries as bytes (R187) -/

/-- A PORTS record. -/
def Port.record (p : Port) : List Byte := [byte p.lock.code, flagsByte p.flags p.deltas, byte p.loop.code]

/-- A REACH record. -/
def Reach.record (r : Reach) : List Byte :=
  [byte (r.state.code + 4 * roleCode r.role), byte (r.present + 16 * r.absent)]

/-- A slot entry. -/
def SlotEntry.record (e : SlotEntry) : List Byte :=
  nodeByte e.inserter :: (match e.source with
    | .localIn n => [0, byte n.val]
    | .bus b => [1, byte b.val]
    | .pattern => [2, 0]
    | .silent => [3, 0])

/-- A drop entry. -/
def DropSource.record : DropSource → List Byte
  | .ring s => [0, byte s.val]
  | .bus b => [1, byte b.val]
  | .localIn n => [2, byte n.val]
  | .silent => [3, 0]

/-- Bytes 5 to 9 of a PREAMP entry: the pending change. -/
def PendingChange.record (c : PendingChange) : List Byte :=
  [byte c.target.steps, byte (ofFlags [c.target.pad, c.target.phantom] + 16 * c.exempt.val), signedByte c.delta]
    ++ word16 c.apply

/-- A PREAMP entry. -/
def PreampEntry.record (e : PreampEntry) : List Byte :=
  let next := e.next.map NextTarget.target
  [byte e.gain.steps,
    byte (ofFlags [e.gain.pad, e.gain.phantom, e.trimLimit, !e.confirmed, e.pending.isSome, e.next.isSome
      , next.any Gain.pad, next.any Gain.phantom]),
    byte (e.owner.elim 7 Fin.val + 16 * if e.owner.isSome then e.ownerState.code else 0)]
    ++ word16 e.grace ++ (e.pending.elim (List.replicate 5 0) PendingChange.record)
    ++ [byte (next.elim 0 Gain.steps), byte (e.next.elim 0 fun t => t.requester.val)]

/-- A BUS record. -/
def Bus.record (b : Bus) : List Byte :=
  [byte b.masterTarget, byte b.masterApplied, byte b.talkLevel, byte b.duckDepth, byte b.duckApplied,
    byte (b.prescaler + 16 * b.ramp), byte b.sends.length] ++ word16 b.clips

/-- The kind and number of a source. -/
def AudioSource.bytes : AudioSource → List Byte
  | .localIn n => [0, byte n.val]
  | .ring s => [1, byte s.val]

/-- A SEND entry, used or unused (R137). -/
def sendRecord : Option Send → List Byte
  | some x => x.source.bytes ++ [byte x.target, byte x.applied, flagByte x.draining]
  | none => [0xFF, 0, 0, 0, 0]

/-- A TALKSRC entry; the line bits of a CELL trigger are 0 (DESIGN CHOICE, assumption log entry 29). -/
def TalkSource.record (t : TalkSource) : List Byte :=
  [byte (t.cls + if t.enabled then 128 else 0)] ++ t.audio.bytes ++ word16 t.targets.toNat
    ++ [byte (t.trigger.elim 0 fun k => 128 + k.val)]

/-- A TALKREG entry. -/
def TalkRow.record (r : TalkRow) : List Byte :=
  [byte (r.inService.elim 255 Fin.val), byte (r.holding.elim 255 Fin.val)] ++ word16 (r.timer.getD 65535)

/-- The function and k of a line. -/
def LineFunction.bytes : LineFunction → List Byte
  | .off => [0, 0]
  | .talkButton k => [1, byte k.val]
  | .tally k => [2, byte k.val]
  | .fault => [3, 0]

/-- A value of three: none 0, false 1, true 2. -/
def triCode : Option Bool → Nat
  | none => 0
  | some false => 1
  | some true => 2

/-- A LINES entry. -/
def Line.record (l : Line) : List Byte :=
  l.function.bytes ++ [byte ((if l.pressed then 1 else 0) + 16 * l.changes), byte (triCode l.sampled + 16 * triCode l.output)]

/-- A field of the SETS record (R102). -/
def Sets.field (s : Sets) : Nat → Nat
  | 0 => s.presentationDelay
  | 1 => s.wrapHoldoff
  | 2 => s.restoreHold
  | 3 => s.orphanGrace
  | 4 => s.talkMaxHold
  | 5 => s.mixMaster
  | 6 => s.noticeTarget
  | _ => s.noticeMask

/-- A span record of the NODE table. -/
def Span.record (x : Span) : List Byte :=
  [byte x.state.code, byte x.holdoff] ++ word16 x.restore
    ++ [byte (ofFlags [x.ready, x.namer, x.partnerReady, x.unwrap.isSome])] ++ optionWord x.unwrap ++ [nodeByte x.partner]

/-- The code of a loader state (R187). -/
def Loader.code : Loader → Nat
  | .idle => 0
  | .storing => 1
  | .reporting _ => 2

/-- The 28 bytes of the NODE record (R187). -/
def State.nodeRecord (s : State) : List Byte :=
  [byte s.id.val, byte (nodeRole s.straps.role), flagByte s.straps.protect, byte s.ring.state.code, byte s.timing.clock.code,
    byte (s.plan.active.code + if s.plan.swap.isSome then 2 else 0)] ++ optionWord s.plan.swap
    ++ [byte s.image.loader.code] ++ word16 s.timing.superframe ++ [byte s.timing.frame]
    ++ s.ring.spanE.record ++ s.ring.spanW.record

/-- The 28 bytes of the COUNT record (R187). -/
def State.countRecord (s : State) : List Byte := s.counters.toList.flatMap word16

/-- The send at a position of a bus's list. -/
def State.sendAt (s : State) (b p : Nat) : Option Send := (s.bus b).sends[p]?

/-- An entry of a table as it stands (R187). -/
def State.entryBytes (s : State) (t : Table) (i : Nat) : List Byte :=
  match t with
  | .node => s.nodeRecord
  | .ports => if i = 0 then s.portE.record else s.portW.record
  | .reach => (s.members.reach.get i).record
  | .slotA => (s.plan.slotA.get i).record
  | .slotB => (s.plan.slotB.get i).record
  | .dropA => (s.plan.dropA.get i).record
  | .dropB => (s.plan.dropB.get i).record
  | .dtrim => [signedByte (s.plan.dtrim.get i)]
  | .preamp => (s.entry i).record
  | .strim => [signedByte (s.tracking.strim.get i)]
  | .track => [signedByte (s.tracking.table.get i)]
  | .bus => (s.bus i).record
  | .send => sendRecord (s.sendAt (i / 32) (i % 32))
  | .talksrc => (s.talk.sources.get i).record
  | .talkreg => (s.talk.register.get i).record
  | .lines => (s.lines.records.get i).record
  | .sets => word16 (s.sets.field i)
  | .count => s.countRecord

/-! ### Entries from bytes (R68, R99, R188) -/

/-- What an entry's bytes are found to be: taken as written, taken with a value brought within its range, or refused. -/
inductive Parsed (α : Type) where
  | taken (a : α)
  | clamped (a : α)
  | refused (status : Status)
deriving DecidableEq, Repr

/-- The value an entry takes when it is loaded from a chunk: its reset value where a WRITE would refuse it (R188). -/
def Parsed.value {α : Type} (reset : α) : Parsed α → α
  | .taken a => a
  | .clamped a => a
  | .refused _ => reset

/-- A value that is taken, or clamped where it differs from what was written. -/
def Parsed.near {α : Type} [DecidableEq α] (written nearest : α) : Parsed α :=
  if nearest = written then .taken written else .clamped nearest

/-- A number below a bound, or none. -/
def finOf (k n : Nat) : Option (Fin k) := if h : n < k then some ⟨n, h⟩ else none

/-- An optional value, refused with BAD_INDEX where there is none (R99). -/
def Parsed.orBad {α : Type} : Option α → Parsed α
  | some a => .taken a
  | none => .refused .badIndex

/-- The inserter byte of a slot entry: a node id, NONE, or neither. -/
def parseInserter (n : Nat) : Option (Option NodeId) := if n = 255 then some none else (finOf 4 n).map some

/-- The selector of a slot entry (R66). -/
def parseSlotSource (kind number : Nat) : Option SlotSource :=
  match kind with
  | 0 => (finOf 64 number).map .localIn
  | 1 => (finOf 16 number).map .bus
  | 2 => some .pattern
  | 3 => some .silent
  | _ => none

/-- A slot entry (R68). -/
def parseSlot (b : List Byte) : Parsed SlotEntry :=
  .orBad (do
    let inserter ← parseInserter (byteAt b 0).toNat
    let source ← parseSlotSource (byteAt b 1).toNat (byteAt b 2).toNat
    some ⟨inserter, source⟩)

/-- The selector of a drop entry (R67). -/
def parseDropSource (kind number : Nat) : Option DropSource :=
  match kind with
  | 0 => (finOf 128 number).map .ring
  | 1 => (finOf 16 number).map .bus
  | 2 => (finOf 64 number).map .localIn
  | 3 => some .silent
  | _ => none

/-- A drop entry: a DESK node has no buses (R68). -/
def parseDrop (desk : Bool) (b : List Byte) : Parsed DropSource :=
  match parseDropSource (byteAt b 0).toNat (byteAt b 1).toNat with
  | some (.bus k) => if desk then .refused .role else .taken (.bus k)
  | some d => .taken d
  | none => .refused .badIndex

/-- A trim of one signed byte (R87, R124, R134). -/
def parseTrim (hi : Int) (b : List Byte) : Parsed Int :=
  let x := (byteAt b 0).toInt
  .near x (clampInt x (-128) hi)

/-- A source of a send or a talker (R137, R155). -/
def parseSource (kind number : Nat) : Option AudioSource :=
  match kind with
  | 0 => (finOf 64 number).map .localIn
  | 1 => (finOf 128 number).map .ring
  | _ => none

/-- A TALKSRC entry: the class is clamped to 3 (R155). -/
def parseTalk (b : List Byte) : Parsed TalkSource :=
  let b0 := byteAt b 0
  let b5 := byteAt b 5
  match parseSource (byteAt b 1).toNat (byteAt b 2).toNat with
  | some audio =>
    let cls := b0.toNat % 16
    let t : TalkSource :=
      { enabled := bitAt b0 7, cls := min cls 3, audio := audio, targets := BitVec.ofNat 16 (wordAt b 3)
        trigger := if bitAt b5 7 then finOf 8 (b5.toNat % 8) else none }
    if 3 < cls then .clamped t else .taken t
  | none => .refused .badIndex

/-- A line's function (R164). -/
def parseFunction (code k : Nat) : Option LineFunction :=
  match code with
  | 0 => some .off
  | 1 => (finOf 8 k).map .talkButton
  | 2 => (finOf 8 k).map .tally
  | 3 => some .fault
  | _ => none

/-- A LINES entry: a DESK node has no talk sources (R164). A k above 7 is refused first, with BAD_INDEX, at a DESK node too
(DESIGN CHOICE, assumption log entry 58). -/
def parseLine (desk : Bool) (b : List Byte) : Parsed LineFunction :=
  match parseFunction (byteAt b 0).toNat (byteAt b 1).toNat with
  | some (.talkButton k) => if desk then .refused .role else .taken (.talkButton k)
  | some (.tally k) => if desk then .refused .role else .taken (.tally k)
  | some f => .taken f
  | none => .refused .badIndex

/-- A SETS field brought within its range (R102). Bits 13 to 15 of the enable mask are ignored. -/
def setsRange (i v : Nat) : Nat :=
  match i with
  | 0 => clampNat v 16 40
  | 1 => clampNat v 0 15
  | 2 => clampNat v 10 10000
  | 3 => clampNat v 0 60000
  | 4 => clampNat v 0 600
  | 5 => clampNat v 0 3
  | 6 => clampNat v 0 3
  | _ => v % 8192

/-- The value of a SETS field as written: the enable mask has 13 bits (R102). -/
def setsWritten (i v : Nat) : Nat := if i = 7 then v % 8192 else v

/-- A SETS field (R102). -/
def parseSet (i : Nat) (b : List Byte) : Parsed Nat := .near (setsWritten i (wordAt b 0)) (setsRange i (wordAt b 0))

/-- The SETS record with one field replaced. -/
def Sets.withField (s : Sets) (i v : Nat) : Sets :=
  match i with
  | 0 => { s with presentationDelay := v }
  | 1 => { s with wrapHoldoff := v }
  | 2 => { s with restoreHold := v }
  | 3 => { s with orphanGrace := v }
  | 4 => { s with talkMaxHold := v }
  | 5 => { s with mixMaster := v }
  | 6 => { s with noticeTarget := v }
  | _ => { s with noticeMask := v }

/-- A BUS record written over another: the send count is ignored, duck values are clamped to 64 (R136). The duck applied value
written stands, also after a ramp expiry taken ahead (DESIGN CHOICE, assumption log entry 11). -/
def parseBus (old : Bus) (b : List Byte) : Parsed Bus :=
  let at' := fun i => (byteAt b i).toNat
  let new : Bus :=
    { old with masterTarget := at' 0, masterApplied := at' 1, talkLevel := at' 2, duckDepth := min (at' 3) 64
               duckApplied := min (at' 4) 64, prescaler := at' 5 % 16, ramp := at' 5 / 16, clips := wordAt b 7
               duckBefore := none }
  if 64 < at' 3 ∨ 64 < at' 4 then .clamped new else .taken new

/-! ### The payloads of WRITE and READ (R96, R186) -/

/-- The table a WRITE or READ names. -/
def Cell.table? (c : Cell) : Option Table := Table.ofId (c.arg 0)

/-- The first index a WRITE or READ names. -/
def Cell.first (c : Cell) : Nat := c.arg16 1

/-- The entry count a WRITE or READ claims. -/
def Cell.count (c : Cell) : Nat := c.arg 3

/-- Every index from the first to the first plus the count minus one lies within the table. -/
def Cell.inTable (c : Cell) (t : Table) : Bool := 1 ≤ c.count && c.first + c.count ≤ t.entries

/-- The count check of a WRITE: the entries fit the payload, and the Length matches (R96, R186). -/
def Cell.writeFits (c : Cell) (t : Table) : Bool :=
  c.inTable t && c.count * t.size ≤ 12 && c.length == 4 + c.count * t.size

/-- The count check of a READ (R96, R186). -/
def Cell.readFits (c : Cell) (t : Table) : Bool := c.inTable t && c.length == 4

/-- The entries a WRITE carries. -/
def Cell.entries (c : Cell) (t : Table) : List (List Byte) := pieces t.size c.count (c.payload.toList.drop 4)

/-- The first check of R96 that a request on a table fails, but for the count. -/
def State.tableRefusal (s : State) (t : Table) (write : Bool) : Option Status :=
  if t.stageOnly && s.isDesk then some .role
  else if write then t.readOnly
  else none

end Sys2Proof.Machine
end

