-- ==== Sys2Proof/Machine/Tables.lean ====
section
/-! DEFINITION. Execution at the head of the work queue (R93, R94), and the table requests: WRITE (R97, R101 and the rules of
each table) and READ (R98). -/

namespace Sys2Proof.Machine

/-! ### Execution (R93, R94) -/

/-- The state with its work queue replaced. -/
def State.setWork (s : State) (q : List Cell) : State := s.setService { s.service with work := q }

/-- The request at the head of the work queue, where no READ is in progress and its answer has room (R93). -/
def State.request (s : State) : Option Cell :=
  match s.service.work, s.service.reading with
  | c :: _, none => if s.answerRoom c then some c else none
  | _, _ => none

/-- The answer to a request is placed (R94). -/
def State.answer (s : State) (c : Cell) (r : Reply) : State := s.place c (s.answerCell c r)

/-- A request leaves the work queue. -/
def State.popWork (s : State) : State := s.setWork s.service.work.tail

/-- A request at the head that satisfies p is executed as one event: it leaves the queue, is acted on, and is answered (R93). -/
def State.runHead (s : State) (p : Cell → Bool) (act : Cell → State → State × Reply) : State :=
  match s.request with
  | some c => if p c then (act c s.popWork).1.answer c (act c s.popWork).2 else s
  | none => s

/-! ### WRITE (R96, R97) -/

/-- What became of one entry of a WRITE (R97). -/
inductive Taken where
  | taken
  | clamped
  | refused (status : Status)
deriving DecidableEq, Repr

/-- How a table takes one entry: the index, the entry's bytes and the state. -/
abbrev EntryWriter := Nat → List Byte → State → State × Taken

/-- A parsed value is put in its place, or refused and not put (R97). -/
def State.accept {α : Type} (s : State) (p : Parsed α) (put : α → State) : State × Taken :=
  match p with
  | .taken a => (put a, .taken)
  | .clamped a => (put a, .clamped)
  | .refused st => (s, .refused st)

/-- The entries of a WRITE, taken in index order from index i (R97). -/
def writeAll (w : EntryWriter) : Nat → List (List Byte) → State → State × List (Nat × Taken)
  | _, [], s => (s, [])
  | i, b :: l, s =>
    let r := w i b s
    let rest := writeAll w (i + 1) l r.1
    (rest.1, (i, r.2) :: rest.2)

/-- The refused entries among the outcomes. -/
def refusedOf (l : List (Nat × Taken)) : List (Nat × Status) :=
  l.filterMap fun x => match x.2 with
    | .refused st => some (x.1, st)
    | _ => none

/-- The answer to a WRITE from what became of its entries (R97). -/
def writeReply (t : Table) (l : List (Nat × Taken)) : Reply :=
  match refusedOf l with
  | [] =>
    match l.find? fun x => x.2 == .clamped with
    | some x => reply .clamped (t.indexBytes x.1)
    | none => reply .done [byte l.length]
  | (i, st) :: rest =>
    let n := byte (rest.length + 1)
    if rest.length + 1 = l.length then reply st (t.indexBytes i ++ [n])
    else reply .partly (t.indexBytes i ++ [st.code, n])

/-- A WRITE to one of the tables that can be written (R96, R97). -/
def writeAct (w : Table → EntryWriter) (c : Cell) (s : State) : State × Reply :=
  match c.table? with
  | none => (s, reply .badTable [])
  | some t =>
    match s.tableRefusal t true with
    | some st => (s, reply st [])
    | none =>
      if c.writeFits t then
        let r := writeAll (w t) c.first (c.entries t) s
        (r.1, writeReply t r.2)
      else (s, reply .badIndex [])

/-- The cell is a WRITE of one of these tables. -/
def Cell.writes (c : Cell) (l : List Table) : Bool := c.kind? == some .write && c.table?.any l.contains

/-- A WRITE of one of these tables at the head of the work queue is executed. -/
def State.runWrite (s : State) (l : List Table) (w : Table → EntryWriter) : State := s.runHead (·.writes l) (writeAct w)

/-! ### The writers of the tables -/

/-- The bank of a banked table's id. -/
def Table.bank : Table → Bank
  | .slotB => .b
  | .dropB => .b
  | _ => .a

/-- One slot entry (R68). -/
def writeSlot (t : Table) : EntryWriter := fun i b s =>
  if t.bank = s.plan.active then (s, .refused .active)
  else s.accept (parseSlot b) fun e => s.setPlan (s.plan.setSlots t.bank ((s.plan.slots t.bank).put i e))

/-- One drop entry (R68). -/
def writeDrop (t : Table) : EntryWriter := fun i b s =>
  if t.bank = s.plan.active then (s, .refused .active)
  else s.accept (parseDrop s.isDesk b) fun e => s.setPlan (s.plan.setDrops t.bank ((s.plan.drops t.bank).put i e))

/-- One drop trim (R87). -/
def writeDtrim : EntryWriter := fun i b s =>
  s.accept (parseTrim 63 b) fun x => s.setPlan { s.plan with dtrim := s.plan.dtrim.put i x }

/-- One stage trim: the input's trim-limit flag clears (R124). -/
def writeStrim : EntryWriter := fun i b s =>
  s.accept (parseTrim 127 b) fun x =>
    (s.setTracking { s.tracking with strim := s.tracking.strim.put i x }).setEntry i { s.entry i with trimLimit := false }

/-- One tracking entry (R134). -/
def writeTrack : EntryWriter := fun i b s =>
  s.accept (parseTrim 127 b) fun x => s.setTracking { s.tracking with table := s.tracking.table.put i x }

/-- One bus record (R136). -/
def writeBus : EntryWriter := fun i b s => s.accept (parseBus (s.bus i) b) (s.setBus i)

/-- The send list of a bus replaced. -/
def State.setSends (s : State) (b : Nat) (l : List Send) : State := s.setBus b { s.bus b with sends := l }

/-- A send with this source is in the list. -/
def hasSource (l : List Send) (a : AudioSource) : Bool := l.any (·.source == a)

/-- The send of a source is in the list and draining. -/
def isDraining (l : List Send) (a : AudioSource) : Bool := l.any fun x => x.source == a && x.draining

/-- A send takes a target and loses its draining flag; its applied code stays (R139). -/
def Send.takeOver (x : Send) (target : Nat) : Send := { x with target := target, draining := false }

/-- One send list after a write of a source and a target at position p; the first case of R138 that applies. -/
def sendWrite (l : List Send) (p : Nat) (a : AudioSource) (target : Nat) : Except Status (List Send) :=
  if l.length < p then .error .badIndex
  else match l[p]? with
    | some x =>
      if x.source = a then .ok (l.set p (x.takeOver target))
      else if l.length = 32 ∧ hasSource l a = false then .error .full
      else .error .sourceFixed
    | none =>
      if hasSource l a then
        if isDraining l a then .ok (l.map fun x => if x.source = a then x.takeOver target else x)
        else .error .duplicate
      else .ok (l ++ [⟨a, target, 0, false⟩])

/-- One send (R138, R139). -/
def writeSend : EntryWriter := fun i b s =>
  match parseSource (byteAt b 0).toNat (byteAt b 1).toNat with
  | none => (s, .refused .badIndex)
  | some a =>
    match sendWrite (s.bus (i / 32)).sends (i % 32) a (byteAt b 2).toNat with
    | .ok l => (s.setSends (i / 32) l, .taken)
    | .error st => (s, .refused st)

/-- A talk source takes new values; one that stands in the register is released first with DISABLED where it is disabled, or
its class or audio changes (R156). -/
def State.setTalkSource (s : State) (i : Fin 8) (new : TalkSource) : State :=
  let old := s.talkSource i
  let s :=
    if s.registered i ∧ (new.enabled = false ∨ new.cls ≠ old.cls ∨ new.audio ≠ old.audio) then s.releaseTalk i .disabled
    else s
  s.setTalk { s.talk with sources := s.talk.sources.put i.val new }

/-- One talk source (R155, R156). -/
def writeTalksrc : EntryWriter := fun i b s =>
  match finOf 8 i with
  | some k => s.accept (parseTalk b) (s.setTalkSource k)
  | none => (s, .refused .badIndex)

/-- A line takes another function: a PRESSED talk button is released, the debouncing starts afresh, and the output follows
the new function (R164, R166). -/
def State.setFunction (s : State) (n : Fin 8) (f : LineFunction) : State :=
  let l := s.line n.val
  if l.function = f then s
  else
    let s := match l.function with
      | .talkButton k => if l.pressed ∧ (s.talkSource k).trigger = some n then s.lineRelease k else s
      | _ => s
    (s.setLine n.val ⟨f, false, 0, none, none⟩).driveLines

/-- One control line (R164). -/
def writeLine : EntryWriter := fun i b s =>
  match finOf 8 i with
  | some n => s.accept (parseLine s.isDesk b) (s.setFunction n)
  | none => (s, .refused .badIndex)

/-- A SETS field takes a value; the presentation delay moves D once D has left its start value (R80, R102). -/
def State.setField (s : State) (i v : Nat) : State :=
  let s := s.setSets (s.sets.withField i v)
  if i = 0 ∧ s.present.delayStarted = true then s.setPresent { s.present with delayNext := v } else s

/-- One SETS field (R102). -/
def writeSet : EntryWriter := fun i b s => s.accept (parseSet i b) (s.setField i)

/-! ### READ (R98) -/

/-- How many segments of 12 bytes carry a record. -/
def segments (record : List Byte) : Nat := (record.length + 11) / 12

/-- The READ of a table begins (R98, R187). -/
def State.beginRead (s : State) (t : Table) (c : Cell) : Reading :=
  if t.segmented then ⟨0, segments (s.entryBytes t 0), 0, s.entryBytes t 0⟩ else ⟨c.first, c.count, 0, []⟩

/-- How many entries, or segments, the next DATA cell carries (R98). -/
def Reading.batch (r : Reading) (t : Table) : Nat := if t.segmented then 1 else min (12 / t.size) r.left

/-- The payload of the next DATA cell (R98, R186). The segments of NODE and COUNT are numbered from 0 (DESIGN CHOICE, assumption
log entry 78). -/
def State.dataPayload (s : State) (t : Table) (c : Cell) (r : Reading) : List Byte :=
  if t.segmented then
    [byteAt c.payload.toList 0, 0, 0, byte (128 + r.next)] ++ (r.record.drop (12 * r.next)).take 12
  else
    let n := r.batch t
    [byteAt c.payload.toList 0] ++ word16 r.next ++ [byte n]
      ++ (List.range n).flatMap fun i => s.entryBytes t (r.next + i)

/-- A READ's progress after a DATA cell. -/
def Reading.after (r : Reading) (t : Table) : Reading :=
  { r with next := r.next + r.batch t, left := r.left - r.batch t, cells := r.cells + 1 }

/-- The deltas of a PORTS record clear as the record is taken (R13). -/
def State.clearDeltas (s : State) (p : Side) : State := s.setPort p { s.port p with deltas := .clear }

/-- The reading of PORTS records i to i + n − 1 clears their deltas (R13); any other read changes nothing. -/
def State.readEffect (s : State) (t : Table) (i n : Nat) : State :=
  if t = .ports then
    let s := if i = 0 ∧ 0 < n then s.clearDeltas .e else s
    if i ≤ 1 ∧ 1 < i + n then s.clearDeltas .w else s
  else s

/-- A DATA cell is formed from the entries as they stand and placed in the answer queue (R98). -/
def State.dataCell (s : State) (t : Table) (c : Cell) (r : Reading) : State :=
  let cell := s.cellFor c .data (s.dataPayload t c r)
  let s := s.readEffect t r.next (r.batch t)
  (s.setService { s.service with reading := some (r.after t) }).place c cell

/-- A READ at the head of the work queue is refused, or its first DATA cell is formed (R96, R98). -/
def State.startRead (s : State) : State :=
  match s.request with
  | some c =>
    if c.kind? = some .read then
      match c.table? with
      | none => s.popWork.answer c (reply .badTable [])
      | some t =>
        match s.tableRefusal t false with
        | some st => s.popWork.answer c (reply st [])
        | none => if c.readFits t then s.dataCell t c (s.beginRead t c) else s.popWork.answer c (reply .badIndex [])
    else s
  | none => s

/-- The READ in progress, its table and its cell, where its answer queue has room. -/
def State.readInProgress (s : State) : Option (Cell × Table × Reading) :=
  match s.service.work, s.service.reading with
  | c :: _, some r => if s.answerRoom c then c.table?.map fun t => (c, t, r) else none
  | _, _ => none

/-- The next DATA cell of the READ in progress (R98). -/
def State.nextData (s : State) : State :=
  match s.readInProgress with
  | some (c, t, r) => if 0 < r.left then s.dataCell t c r else s
  | none => s

/-- The READ in progress has sent its last DATA cell: it is answered DONE with their number and leaves the queue (R98). -/
def State.finishRead (s : State) : State :=
  match s.readInProgress with
  | some (c, _, r) =>
    if r.left = 0 then
      let s := s.popWork
      (s.setService { s.service with reading := none }).answer c (reply .done [byte r.cells])
    else s
  | none => s

/-! ### Commands: each does nothing unless its request stands at the head with room for its answer -/

/-- The tables that have a WRITE command of their own. -/
def writableTables : List Table :=
  [.slotA, .slotB, .dropA, .dropB, .dtrim, .strim, .track, .bus, .send, .talksrc, .lines, .sets]

/-- A WRITE that no table's own command takes: of a table that can only be read, or of an unknown one (R96, R101). -/
def Cell.otherWrite (c : Cell) : Bool := c.kind? == some .write && !c.writes writableTables

/-- WRITE_TABLE (R101): every such WRITE is refused. -/
def execWriteTable (s : State) : Host.Outcome State Fault Refusal :=
  .next (s.runHead Cell.otherWrite (writeAct fun _ _ _ s => (s, .refused .badIndex)))

/-- WRITE_SLOT_ENTRY (R68). -/
def execWriteSlotEntry (s : State) : Host.Outcome State Fault Refusal := .next (s.runWrite [.slotA, .slotB] writeSlot)

/-- WRITE_DROP_ENTRY (R67, R68). -/
def execWriteDropEntry (s : State) : Host.Outcome State Fault Refusal := .next (s.runWrite [.dropA, .dropB] writeDrop)

/-- WRITE_DTRIM (R87). -/
def execWriteDtrim (s : State) : Host.Outcome State Fault Refusal := .next (s.runWrite [.dtrim] fun _ => writeDtrim)

/-- WRITE_STRIM (R124). -/
def execWriteStrim (s : State) : Host.Outcome State Fault Refusal := .next (s.runWrite [.strim] fun _ => writeStrim)

/-- WRITE_TRACK (R134). -/
def execWriteTrack (s : State) : Host.Outcome State Fault Refusal := .next (s.runWrite [.track] fun _ => writeTrack)

/-- WRITE_BUS (R136). -/
def execWriteBus (s : State) : Host.Outcome State Fault Refusal := .next (s.runWrite [.bus] fun _ => writeBus)

/-- WRITE_SEND (R138). -/
def execWriteSend (s : State) : Host.Outcome State Fault Refusal := .next (s.runWrite [.send] fun _ => writeSend)

/-- WRITE_TALKSRC (R155, R156). -/
def execWriteTalksrc (s : State) : Host.Outcome State Fault Refusal := .next (s.event (·.runWrite [.talksrc] fun _ => writeTalksrc))

/-- WRITE_LINES (R164). -/
def execWriteLines (s : State) : Host.Outcome State Fault Refusal := .next (s.event (·.runWrite [.lines] fun _ => writeLine))

/-- WRITE_SETS (R102). -/
def execWriteSets (s : State) : Host.Outcome State Fault Refusal := .next (s.runWrite [.sets] fun _ => writeSet)

/-- READ_TABLE (R98). -/
def execReadTable (s : State) : Host.Outcome State Fault Refusal := .next s.startRead

/-- DATA_CELL_NEXT (R98). -/
def execDataCellNext (s : State) : Host.Outcome State Fault Refusal := .next s.nextData

/-- READ_DONE_ANSWER (R98). -/
def execReadDoneAnswer (s : State) : Host.Outcome State Fault Refusal := .next s.finishRead

end Sys2Proof.Machine
end

