-- ==== Sys2Proof/Machine/Actions.lean ====
section
/-! DEFINITION. The actions of ACT cells (R100, R186), but for those of the image loader: banks, loops, the pattern checker,
counters, shared preamplifiers, sends and talkback. -/

namespace Sys2Proof.Machine

/-! ### Executing an ACT (R96, R186) -/

/-- The codes of the actions (R186). -/
def actionCodes : List Nat :=
  [0x01, 0x02, 0x03, 0x04, 0x05, 0x10, 0x11, 0x12, 0x20, 0x30, 0x31, 0x40, 0x41, 0x42]

/-- The cell is an ACT of this action. -/
def Cell.acts (c : Cell) (code : Nat) : Bool := c.kind? == some .act && c.arg 0 == code

/-- The cell is an ACT of no action of R186. -/
def Cell.actsUnknown (c : Cell) : Bool := c.kind? == some .act && !actionCodes.contains (c.arg 0)

/-- The checks before an action is taken: the role, and a Length that covers its argument bytes (R96, R186). The Length is
tested before every test of the action's own rule, so a STORE or SWAP_BANK of too short a Length is BAD_INDEX and not BUSY
(R71, R180; DESIGN CHOICE, assumption log entry 73). -/
def State.checked (s : State) (stageOnly : Bool) (args : Nat) (c : Cell) (r : State × Reply) : State × Reply :=
  if stageOnly && s.isDesk then (s, reply .role [])
  else if c.length < 1 + args then (s, reply .badIndex [])
  else r

/-- An ACT of this action at the head of the work queue is executed. -/
def State.runAct (s : State) (code : Nat) (stageOnly : Bool) (args : Nat) (act : Cell → State → State × Reply) : State :=
  s.runHead (·.acts code) fun c s => s.checked stageOnly args c (act c s)

/-- A reply that leaves the state as it is. -/
def State.refuse (s : State) (status : Status) (detail : List Byte) : State × Reply := (s, reply status detail)

/-! ### Banks (R70, R71) -/

/-- The active bank of both tables is copied into the standby bank (R70). -/
def State.copyBank (s : State) : State :=
  s.setPlan ((s.plan.setSlots s.plan.active.other s.activeSlots).setDrops s.plan.active.other s.activeDrops)

/-- The apply superframe lies 1 to 32767 superframes ahead (R71). One exactly 32768 ahead is refused, as the sentence of R71
says, though its table's first row, read by itself, would take it (DESIGN CHOICE, assumption log entry 49). -/
def State.swapAhead (s : State) (apply : Nat) : Bool := sfAfter apply s.timing.superframe

/-- A swap is accepted for a later superframe (R71). -/
def State.swapBank (s : State) (apply : Nat) : State × Reply :=
  if s.plan.swap.isSome then s.refuse .busy []
  else if s.swapAhead apply then
    (s.setPlan { s.plan with swap := some apply }, reply .done [])
  else s.refuse .late []

/-! ### Loops (R16 to R19) -/

/-- The side an argument names (R186). -/
def sideOf (n : Nat) : Option Side :=
  match n with
  | 0 => some .e
  | 1 => some .w
  | _ => none

/-- The loop mode an argument names (R186). -/
def loopOf (n : Nat) : Option LoopMode :=
  match n with
  | 0 => some .off
  | 1 => some .internal
  | 2 => some .line
  | _ => none

/-- The receiver's source changes with the loop mode: the port goes to HUNT without counting a loss, and LIGHT follows the
new source (R17, R19). -/
def State.switchReceiver (s : State) (p : Side) (old new : LoopMode) : State :=
  if (old == .internal) = (new == .internal) then s
  else s.toHunt p (new == .internal || (s.port p).fibreLight) false

/-- A port's loop mode changes (R16, R19). -/
def State.changeLoop (s : State) (p : Side) (m : LoopMode) : State :=
  let old := (s.port p).loop
  let s := (s.setPort p { s.port p with loop := m, received := [] }).switchReceiver p old m
  let s := if m ≠ .off ∧ (s.span p).state ≠ .failed then s.failSpan p else s
  s.evaluate p

/-- LOOP (R16). -/
def State.setLoop (s : State) (p : Side) (m : LoopMode) : State × Reply :=
  if m ≠ .off ∧ (s.span p).state ≠ .failed ∧ s.ring.state ≠ .isolated then s.refuse .inService []
  else if (s.port p).loop = m then (s, reply .done [])
  else (s.changeLoop p m, reply .done [])

/-! ### Pattern checker and counters (R21, R176) -/

/-- PATTERN_CHECK (R21). The slot that the current local frame watches stays; the next boundary takes the change over. -/
def State.checkPattern (s : State) (slot on : Nat) : State × Reply :=
  match on with
  | 0 => (s.setChecker { s.checker with on := false }, reply .done [])
  | 1 => if 127 < slot then s.refuse .badIndex [] else (s.setChecker { s.checker with on := true, slot := slot }, reply .done [])
  | _ => s.refuse .badIndex []

/-- Every counter of the COUNT table, and at a STAGE node every clip count, becomes 0 (R176). -/
def State.clearCounters (s : State) : State :=
  let s := s.setCounters (.fill 14 0)
  if s.isStage then s.setBuses (s.buses.map fun b => { b with clips := 0 }) else s

/-! ### Shared preamplifiers (R106 to R109, R113 to R115) -/

/-- The checks of CLAIM and RELEASE, range before requester (R106). -/
def State.qualified (s : State) (who : NodeId) (first last : Nat) (r : State × Reply) : State × Reply :=
  if 63 < first ∨ 63 < last ∨ last < first then s.refuse .badIndex []
  else if s.isReachableDesk who then r
  else s.refuse .role (s.reachOf who).detail

/-- The inputs of a range, in index order. -/
def inputRange (first last : Nat) : List Nat := (List.range (last + 1 - first)).map (first + ·)

/-- What a claim finds at an entry (R107). -/
inductive ClaimOutcome where
  | granted
  | unchanged
  | refused
deriving DecidableEq, Repr

/-- The table of R107. -/
def PreampEntry.claim (e : PreampEntry) (who : NodeId) : ClaimOutcome :=
  match e.owner with
  | none => .granted
  | some o => if e.ownerState = .orphaned then .granted else if o = who then .unchanged else .refused

/-- One entry is claimed (R107, R112). -/
def State.claimOne (who : NodeId) (s : State) (n : Nat) : State :=
  if (s.entry n).claim who = .granted then s.setOwner n (some who) .held 0 .claim else s

/-- A mask of 64 marks in eight bytes, bit n for input n (R186). -/
def maskBytes (l : List Nat) : List Byte :=
  (List.range 8).map fun i => byte (ofFlags ((List.range 8).map fun j => l.contains (8 * i + j)))

/-- The answer to a claim of a range with these entries refused (R108). -/
def claimReply (range refused : List Nat) : Reply :=
  if refused = [] then reply .done [byte range.length]
  else reply (if refused.length = range.length then .claimed else .partly) (maskBytes refused)

/-- CLAIM (R106 to R108). -/
def State.claim (s : State) (who : NodeId) (first last : Nat) : State × Reply :=
  let range := inputRange first last
  s.qualified who first last
    (range.foldl (State.claimOne who) s, claimReply range (range.filter fun n => (s.entry n).claim who == .refused))

/-- One entry is released by its owner (R109). -/
def State.releaseOne (who : NodeId) (s : State) (n : Nat) : State :=
  if (s.entry n).owner = some who then s.setOwner n none .held 0 .release else s

/-- RELEASE (R106, R109). -/
def State.release (s : State) (who : NodeId) (first last : Nat) : State × Reply :=
  let range := inputRange first last
  s.qualified who first last
    (range.foldl (State.releaseOne who) s,
      reply .done [byte (range.filter fun n => (s.entry n).owner == some who).length])

/-- The flag of a two-valued argument (R186). -/
def flagOf (n : Nat) : Option Bool :=
  match n with
  | 0 => some false
  | 1 => some true
  | _ => none

/-- The target of a SET_PREAMP, its steps clamped to 40 (R113). -/
def targetOf (steps pad phantom : Nat) : Option Gain := do
  let pad ← flagOf pad
  let phantom ← flagOf phantom
  some ⟨min steps 40, pad, phantom⟩

/-- A request that passes the checks becomes the pending change or the next target (R114, R115). An older next target that
waits for room stays where the newer request fits and becomes the pending change, and is examined once that change is cleared
(R116; DESIGN CHOICE, assumption log entry 70). -/
def State.requestGain (s : State) (n : Nat) (target : Gain) (who : NodeId) (status : Status) : State × Reply :=
  let e := s.entry n
  let delta := s.deltaFor n target
  if e.pending = none ∧ s.changeRoom who delta = true then
    (s.createChange n target who, reply status (0 :: word16 (sfAdd s.timing.superframe 4) ++ signed16 delta))
  else (s.setEntry n { e with next := some ⟨target, who⟩ }, reply status [1, flagByte e.next.isSome])

/-- SET_PREAMP (R113). -/
def State.setGain (s : State) (who : NodeId) (n steps pad phantom : Nat) : State × Reply :=
  match targetOf steps pad phantom with
  | some target =>
    if 63 < n ∨ s.fitted n = false then s.refuse .badIndex []
    else if (s.entry n).owner ≠ some who ∨ (s.entry n).ownerState ≠ .held then s.refuse .notOwner []
    else s.requestGain n target who (if 40 < steps then .clamped else .done)
  | none => s.refuse .badIndex []

/-! ### Sends (R140) -/

/-- REMOVE_SEND: the detail says whether the send left the list (R140, R141). -/
def State.removeSend (s : State) (b p : Nat) : State × Reply :=
  if 15 < b then s.refuse .badIndex []
  else match (s.bus b).sends[p]? with
    | none => s.refuse .badIndex []
    | some x =>
      if x.applied = 0 then (s.setSends b ((s.bus b).sends.eraseIdx p), reply .done [1])
      else (s.setSends b ((s.bus b).sends.set p { x with target := 0, draining := true }), reply .done [0])

/-! ### Talkback (R158, R159) -/

/-- The answer to a press: in service 0 or holding 1, and a flag that the timer restarted (R158, R162; DEDUCED, assumption log
entry 28). -/
def State.pressReply (s : State) (i : Fin 8) : Reply :=
  match s.pressOutcome i with
  | .notActive => reply .notActive []
  | .restarted => reply .done [0, 1]
  | .alreadyHolding => reply .done [1, 0]
  | .served => reply .done [0, 0]
  | .held => reply .done [1, 0]
  | .refused => reply .full (s.refusalDetail i)

/-- TALK_PRESS (R158). -/
def State.pressCell (s : State) (i : Nat) : State × Reply :=
  match finOf 8 i with
  | some k => (s.press k, s.pressReply k)
  | none => s.refuse .badIndex []

/-- TALK_RELEASE (R159). -/
def State.releaseCell (s : State) (i : Nat) : State × Reply :=
  match finOf 8 i with
  | some k =>
    if s.registered k then
      (s.releaseTalk k .cell, reply .done [byte ((s.promotedBy k).elim 255 Fin.val)])
    else s.refuse .notActive []
  | none => s.refuse .badIndex []

/-! ### Commands: each does nothing unless its ACT stands at the head with room for its answer -/

/-- COPY_BANK (R70). -/
def execCopyBank (s : State) : Host.Outcome State Fault Refusal :=
  .next (s.runAct 0x01 false 0 fun _ s => (s.copyBank, reply .done []))

/-- SWAP_BANK (R71). -/
def execSwapBank (s : State) : Host.Outcome State Fault Refusal :=
  .next (s.runAct 0x02 false 2 fun c s => s.swapBank (c.arg16 1))

/-- LOOP (R16): a port or a mode outside its set is refused. -/
def execLoop (s : State) : Host.Outcome State Fault Refusal :=
  .next (s.event (·.runAct 0x03 false 2 fun c s =>
    match sideOf (c.arg 1), loopOf (c.arg 2) with
    | some p, some m => s.setLoop p m
    | _, _ => s.refuse .badIndex []))

/-- PATTERN_CHECK (R21). -/
def execPatternCheck (s : State) : Host.Outcome State Fault Refusal :=
  .next (s.runAct 0x04 false 2 fun c s => s.checkPattern (c.arg 1) (c.arg 2))

/-- CLEAR_COUNTERS (R176). -/
def execClearCounters (s : State) : Host.Outcome State Fault Refusal :=
  .next (s.runAct 0x05 false 0 fun _ s => (s.clearCounters, reply .done []))

/-- CLAIM (R107). -/
def execClaim (s : State) : Host.Outcome State Fault Refusal :=
  .next (s.event (·.runAct 0x10 true 2 fun c s => s.claim c.origin (c.arg 1) (c.arg 2)))

/-- RELEASE (R109). -/
def execRelease (s : State) : Host.Outcome State Fault Refusal :=
  .next (s.event (·.runAct 0x11 true 2 fun c s => s.release c.origin (c.arg 1) (c.arg 2)))

/-- SET_PREAMP (R113). -/
def execSetPreamp (s : State) : Host.Outcome State Fault Refusal :=
  .next (s.runAct 0x12 true 4 fun c s => s.setGain c.origin (c.arg 1) (c.arg 2) (c.arg 3) (c.arg 4))

/-- REMOVE_SEND (R140). -/
def execRemoveSend (s : State) : Host.Outcome State Fault Refusal :=
  .next (s.runAct 0x20 true 2 fun c s => s.removeSend (c.arg 1) (c.arg 2))

/-- TALK_PRESS (R158). -/
def execTalkPress (s : State) : Host.Outcome State Fault Refusal :=
  .next (s.event (·.runAct 0x30 true 1 fun c s => s.pressCell (c.arg 1)))

/-- TALK_RELEASE (R159). -/
def execTalkRelease (s : State) : Host.Outcome State Fault Refusal :=
  .next (s.event (·.runAct 0x31 true 1 fun c s => s.releaseCell (c.arg 1)))

/-- UNKNOWN_ACTION (R96): answered BAD_TABLE. -/
def execUnknownAction (s : State) : Host.Outcome State Fault Refusal :=
  .next (s.runHead Cell.actsUnknown fun _ s => s.refuse .badTable [])

end Sys2Proof.Machine
end

