-- ==== Sys2Proof/Machine/Lane.lean ====
section
/-! DEFINITION. The service lane on the ring and the console lane: the lane arbiter (R40, R41), taking and writing cells
(R36), assembling and judging them (R37, R89), the relay (R38, R39) and routing (R90 to R92). -/

namespace Sys2Proof.Machine

/-! ### The lane arbiter (R40, R41) -/

/-- The arbiter's working values: the remaining level and the rank of each node id. -/
structure Arbiter where
  levels : Tab Nat 4
  ranks : Tab Nat 4
deriving DecidableEq, Repr

/-- The node id of highest rank among those whose remaining level is above 0 (R41). -/
def Arbiter.winner (a : Arbiter) : Option NodeId :=
  (List.finRange 4).foldl (fun best n =>
    if a.levels.get n.val = 0 then best
    else match best with
      | none => some n
      | some b => if a.ranks.get b.val < a.ranks.get n.val then some n else best) none

/-- The winner's level falls by one, the ranks below its old rank rise by one, and its own becomes 0 (R41). -/
def Arbiter.award (a : Arbiter) (w : NodeId) : Arbiter :=
  let old := a.ranks.get w.val
  { levels := a.levels.modify w.val (· - 1)
    ranks := (a.ranks.map fun r => if r < old then r + 1 else r).put w.val 0 }

/-- The next entries of a grant list, and the arbiter after them (R41). -/
def Arbiter.fill : Nat → Arbiter → List (Option NodeId) × Arbiter
  | 0, a => ([], a)
  | n + 1, a =>
    match a.winner with
    | some w => (some w :: (Arbiter.fill n (a.award w)).1, (Arbiter.fill n (a.award w)).2)
    | none => (none :: (Arbiter.fill n a).1, (Arbiter.fill n a).2)

/-- The four levels of a request field. -/
def requestLevels (b : Byte) : Tab Nat 4 := .ofFn 4 (pairAt b)

/-- The arbiter takes the levels of a returned frame 0 and computes the list of the next superframe (R40, R41). -/
def State.arbitrate (s : State) (h : Header) : State :=
  let r := Arbiter.fill 6 ⟨requestLevels h.request, s.members.ranks⟩
  s.setMembers { s.members with ranks := r.2.ranks, nextGrants := some ⟨sfAdd h.superframe 1, .ofList 6 none r.1⟩ }

/-! ### Requesting, taking and writing a cell (R36, R40) -/

/-- The node's request level: the cells it has waiting to send, stopping at 3 (R40). -/
def State.requestLevel (s : State) : Nat :=
  min 3 (stepCells s.service.stepQueue + s.service.outbound.length + if s.id = 0 then s.service.relay.length else 0)

/-- The presence and request fields with the node's own mark and level (R29). -/
def State.ownMarks (s : State) (h : Header) : Header :=
  { h with presence := setPair h.presence s.id.val (roleMark s.straps.role)
           request := setPair h.request s.id.val s.requestLevel }

/-- A taken cell becomes the one being written in cell time k. -/
def State.setLaneOut (s : State) (k : Nat) (bytes : Tab Byte 24) : State :=
  s.setService { s.service with laneOut := some ⟨k, bytes⟩ }

/-- The oldest outbound cell, or the empty cell, is taken for cell time k (R36). -/
def State.takeOutbound (s : State) (k : Nat) : State :=
  match s.service.outbound with
  | c :: l => (s.setService { s.service with outbound := l }).setLaneOut k c.encode
  | [] => s.setLaneOut k (.fill 24 0)

/-- The oldest relay cell is taken for cell time k at node 0; any other node has none (R36, R38). -/
def State.takeWhole (s : State) (k : Nat) : State :=
  match s.service.relay with
  | c :: l =>
    if s.id = 0 then (s.setService { s.service with relay := l }).setLaneOut k c.encode else s.takeOutbound k
  | [] => s.takeOutbound k

/-- The node takes its next cell for cell time k: a STEP cell, at node 0 the oldest relay cell, the oldest outbound cell, or
else the empty cell (R36). Records that leave the step cell queue let next targets in (R116). -/
def State.takeCell (s : State) (k : Nat) : State :=
  match s.service.stepQueue with
  | r :: _ =>
    let p := packStep s.service.stepQueue
    ((s.setStepQueue p.2).setLaneOut k (s.stepCell r.dest p.1).encode).promote
  | [] => s.takeWhole k

/-- As a primary frame of this number passes, the node takes a cell if it opens a cell time granted to it (R36). -/
def State.laneTurn (s : State) (frame : Nat) : State :=
  if frame % 8 = 0 then
    if s.members.grants.get (frame / 8) = some s.id then s.takeCell (frame / 8)
    else s.setService { s.service with laneOut := none }
  else s

/-- Three bytes of 24, at place j of a cell time (R184). -/
def laneSlice (bytes : Tab Byte 24) (j : Nat) : Lane := .ofList 3 0 (bytes.toList.drop (3 * j))

/-- The lane bytes the node writes into a primary frame of this number, if it is writing a cell in that cell time (R36). -/
def State.laneBytes (s : State) (frame : Nat) : Option Lane :=
  match s.service.laneOut with
  | some o => if o.cellTime = frame / 8 then some (laneSlice o.bytes (frame % 8)) else none
  | none => none

/-! ### Routing (R90, R92) -/

/-- A BUSY refusal at intake, with the intake mark (R92, R186). -/
def busyIntake : Reply := ⟨.busy, 1, []⟩

/-- A cell from the ring for the work queue, or what becomes of it when that is full (R92). -/
def State.workIntake (s : State) (c : Cell) : State :=
  if hasRoom s.service.work then s.pushWork c
  else if c.isRequest ∧ hasRoom s.service.outbound = true then
    (s.bump .cellDiscards).pushOutbound (s.answerCell c busyIntake)
  else s.bump .cellDiscards

/-- A cell from the ring for the host, at a DESK node with the console flag set (R90, R92). -/
def State.consoleIntake (s : State) (c : Cell) : State :=
  if c.destConsole ∧ s.isDesk = true then
    if hasRoom s.service.console then s.pushConsole c else s.bump .consoleDiscards
  else s.bump .cellDiscards

/-- The routing of a checked cell from the ring (R90, R185). -/
def State.routeRing (s : State) (c : Cell) : State :=
  if c.dest = toNode s.id ∨ c.dest = toAll then
    match c.kind? with
    | some .write | some .read | some .act => s.workIntake c
    | some .step => if c.dest = toAll then s.bump .cellDiscards else s.workIntake c
    | some .answer | some .data | some .note | some .report =>
      if c.dest = toAll then s.bump .cellDiscards else s.consoleIntake c
    | none => s.bump .cellDiscards
  else if c.destNode = none then s.bump .cellDiscards
  else s

/-- The destinations node 0 relays a writer's cell to: ALL, or a node after node 0 and before the writer (R38). -/
def State.relays (s : State) (writer : NodeId) (c : Cell) : Bool :=
  c.dest == toAll || c.destNode.any fun d => before s.members.ringMap 0 d && before s.members.ringMap d writer

/-- Node 0 takes a cell with a good CRC for relay (R38). -/
def State.relayTake (s : State) (writer : NodeId) (c : Cell) : State :=
  if s.relays writer c then
    if hasRoom s.service.relay then
      s.setService { s.service with relay := s.service.relay ++ [{ c with relayed := true }] }
    else s.bump .cellDiscards
  else s

/-- The 24 bytes of a complete cell written by another node: the relay at node 0, then the acceptance of relayed copies, the
CRC check and the routing (R37 to R39, R90). -/
def State.takeRingCell (s : State) (writer : NodeId) (bytes : List Byte) : State :=
  let c := cellFields bytes
  let ok := cellCrcOk bytes
  let s := if s.id = 0 ∧ ok = true then s.relayTake writer c else s
  if c.relayed = true ∧ before s.members.ringMap s.id c.origin = false then s
  else if ok then s.routeRing c
  else s.bump .cellErrors

/-! ### Assembling a ring cell (R37) -/

/-- The node whose cell the current cell time carries: the grant in force, or the one a RESTART found (R37, R104). -/
def State.laneWriter (s : State) : Option NodeId := s.service.laneIn.writer <|> s.members.grants.get s.cellTime

/-- The bytes of eight parts, none where a part is missing. -/
def laneJoin (parts : Tab (Option Lane) 8) : Option (List Byte) :=
  (parts.toList.mapM fun x => x).map fun l => l.flatMap Tab.toList

/-- The assembled bytes of a cell time are judged: discarded without a grant to another node, incomplete, empty, or handed
over (R37). -/
def State.judgeParts (s : State) (writer : Option NodeId) (parts : Tab (Option Lane) 8) : State :=
  match writer with
  | some w =>
    if w = s.id then s
    else match laneJoin parts with
      | none => s.bump .cellErrors
      | some bytes => if bytes.all (· == 0) then s else s.takeRingCell w bytes
  | none => s

/-- The bytes of the current cell time are judged as they stand (R37). -/
def State.judgeLane (s : State) : State := s.judgeParts s.laneWriter s.service.laneIn.parts

/-- The bytes of node 0's late cell time are judged as they stand (R37). -/
def State.judgeLate (s : State) : State :=
  match s.service.laneLate with
  | some l => (s.setService { s.service with laneLate := none }).judgeParts (some l.writer) l.parts
  | none => s

/-- The lane bytes of a delivered primary frame join the cell time being assembled (R37). -/
def State.joinLane (s : State) (frame : Nat) (lane : Lane) : State :=
  if frame / 8 = s.cellTime then
    s.setService { s.service with
      laneIn := { s.service.laneIn with parts := s.service.laneIn.parts.put (frame % 8) (some lane) } }
  else s

/-- The lane bytes of a frame that returns to node 0: those of the cell time before the current one join it while it is
awaited. Frames return in order, so one of the current cell time ends the wait (R26, R37). -/
def State.joinReturn (s : State) (superframe frame : Nat) (lane : Lane) : State :=
  match s.service.laneLate with
  | some l =>
    if superframe = l.superframe ∧ frame / 8 = l.cellTime then
      s.setService { s.service with laneLate := some { l with parts := l.parts.put (frame % 8) (some lane) } }
    else if superframe = s.timing.superframe then s.judgeLate.joinLane frame lane
    else s
  | none => if superframe = s.timing.superframe then s.joinLane frame lane else s

/-- A delivered primary frame's lane bytes go to the lane receiver (R27, R37). -/
def State.takeLane (s : State) (superframe frame : Nat) (lane : Lane) : State :=
  if s.id = 0 then s.joinReturn superframe frame lane else s.joinLane frame lane

/-- The bytes of the last frame of a cell time have come. -/
def lastCame (parts : Tab (Option Lane) 8) : Bool := (parts.get 7).isSome

/-- The last bytes of node 0's late cell time have come. -/
def State.lateDue (s : State) : Bool := s.id == 0 && s.service.laneLate.any fun l => lastCame l.parts

/-- The eighth frame of a cell time has passed and its bytes are not yet judged (R37). At node 0 it has passed as it returns
(R37: at the end of its lap). -/
def State.laneDue (s : State) : Bool :=
  s.timing.running && !s.timing.frameOwed && s.timing.frame % 8 == 7 && !s.service.laneIn.judged
    && (s.id != 0 || lastCame s.service.laneIn.parts)

/-- The cell time's bytes are judged once (R37). -/
def State.ringCell (s : State) : State :=
  let s := if s.lateDue then s.judgeLate else s
  if s.laneDue then
    let s := s.judgeLane
    s.setService { s.service with laneIn := { s.service.laneIn with judged := true } }
  else s

/-- What node 0 goes on waiting for as a cell time ends: the cell of another node whose bytes are not yet judged (R26). -/
def State.lateLane (s : State) : Option LateLane :=
  if s.id = 0 ∧ s.service.laneIn.judged = false then
    (s.laneWriter.filter (· != s.id)).map fun w => ⟨s.timing.superframe, s.cellTime, s.service.laneIn.parts, w⟩
  else none

/-- A cell time ends and the next begins: an older late cell is judged as it stands, and a return later than one cell time
counts as missing (R36, R37, R89; DESIGN CHOICE, assumption log entry 48). -/
def State.nextCellTime (s : State) : State :=
  let s := if s.id = 0 then s.judgeLate else s
  s.setService { s.service with
    laneIn := .empty, laneLate := s.lateLane, laneOut := none, consoleIn := .empty }

/-! ### The console lane (R89, R91, R92) -/

/-- A cell from the host that a full queue refuses (R92). -/
def State.refuseHost (s : State) (c : Cell) : State := (s.bump .cellDiscards).answerHost c busyIntake

/-- The answer that names a destination a cell could not be served at (R91). -/
def noDest (status : Status) (c : Cell) : Reply := reply status [byte c.dest.val]

/-- A cell from the host with its From field rewritten (R91). -/
def State.fromHost (s : State) (c : Cell) : Cell := { c with origin := s.id, originConsole := true }

/-- A request from the host for ALL (R91, R92). -/
def State.hostAll (s : State) (c : Cell) : State :=
  if s.ring.state = .isolated then
    if hasRoom s.service.work then (s.pushWork c).answerHost c (noDest .unreachable c) else s.refuseHost c
  else if hasRoom s.service.work && hasRoom s.service.outbound then (s.pushWork c).pushOutbound c
  else s.refuseHost c

/-- A request from the host for another node (R91, R92). -/
def State.hostOther (s : State) (c : Cell) (d : NodeId) : State :=
  if s.ring.state = .isolated then s.answerHost c (noDest .unreachable c)
  else if s.isReachable d then
    if hasRoom s.service.outbound then s.pushOutbound c else s.refuseHost c
  else s.answerHost c (noDest .unreachable c)

/-- A cell taken from the host, its From field already rewritten (R91). A request whose To field names neither a node nor ALL is
answered BAD_INDEX and not counted as a discard (R103; DESIGN CHOICE, assumption log entry 62). -/
def State.takeHostCell (s : State) (c : Cell) : State :=
  if !c.isRequest then s.bump .cellDiscards
  else if c.dest = toAll then s.hostAll c
  else match c.destNode with
    | none => s.answerHost c (noDest .badIndex c)
    | some d =>
      if d = s.id then (if hasRoom s.service.work then s.pushWork c else s.refuseHost c) else s.hostOther c d

/-- The 24 bytes of a console cell time are examined (R89). -/
def State.judgeConsole (s : State) (bytes : List Byte) : State :=
  if s.ring.state = .dark then s
  else if bytes.all (· == 0) then s
  else if cellCrcOk bytes then s.takeHostCell (s.fromHost (cellFields bytes))
  else s.bump .cellErrors

/-- The bytes of the eight local frames of a console cell time; those of a frame that a counter load skipped are a free value.
A load inside a period leaves the sample of that period under the frame number of its boundary, so the frame landed on, frame
8k too, counts as skipped (R89; DESIGN CHOICE, assumption log entry 1). -/
def State.consoleJoin (s : State) : List Byte :=
  (List.range 8).flatMap fun j =>
    match s.service.consoleIn.parts.get j with
    | some lane => lane.toList
    | none => sampleBytes (Config.skippedConsole s.count j)

/-- The eighth local frame of a console cell time has passed its sample in and the bytes are not yet examined (R89). -/
def State.consoleDue (s : State) : Bool :=
  s.isDesk && s.timing.running && !s.timing.frameOwed && s.timing.frame % 8 == 7 && !s.service.consoleIn.judged

/-- The console cell time's bytes are examined once (R89). -/
def State.consoleCell (s : State) : State :=
  if s.consoleDue then
    let s := s.judgeConsole s.consoleJoin
    s.setService { s.service with consoleIn := { s.service.consoleIn with judged := true } }
  else s

/-- The console lane of one local frame: three bytes in, and at the start of a console cell time the next cell out (R89). -/
def State.consoleFrame (s : State) : State :=
  if s.isDesk then
    let lane : Lane := .ofList 3 0 (sampleBytes (s.audio.localIn.get 15))
    let s := s.setService { s.service with
      consoleIn := { s.service.consoleIn with parts := s.service.consoleIn.parts.put (s.timing.frame % 8) (some lane) } }
    if s.timing.frame % 8 = 0 then
      match s.service.console with
      | c :: l => s.setService { s.service with console := l, consoleOut := c.encode }
      | [] => s.setService { s.service with consoleOut := .fill 24 0 }
    else s
  else s

/-- The console lane's output sample of the current local frame (R89). -/
def State.consoleSample (s : State) : Sample := sampleAt (laneSlice s.service.consoleOut (s.timing.frame % 8)).toList 0

/-! ### Commands -/

/-- RING_CELL_COMPLETE (R37): nothing happens outside the eighth frame of a cell time, or once its bytes are judged. -/
def execRingCellComplete (s : State) : Host.Outcome State Fault Refusal := .next s.ringCell

/-- CONSOLE_CELL_RECEIVED (R89): nothing happens outside the eighth frame of a console cell time, or once its bytes are
examined. -/
def execConsoleCellReceived (s : State) : Host.Outcome State Fault Refusal := .next s.consoleCell

end Sys2Proof.Machine
end

