-- ==== Sys2Proof/Machine/Receive.lean ====
section
/-! DEFINITION. A received frame at a port and in the node: receive lock and delivery (section 1.3), the clock and the jump
of the counters (R35, R53, R72, R73, R81, R117, R118, R132, R179), ring traffic at node 0 and forwarding elsewhere (R26, R27, R57). -/

namespace Sys2Proof.Machine

/-! ### The jump of the local counters (R35, R81) -/

/-- A load that leaves the cell time judges what was assembled, examines the host's cell where its eighth frame had come, and
drops the cell being written and the console samples so far (R37, R61, R89). A load within the cell time leaves the console
samples where they stand. Either way the frame landed on has no sample in its place until a boundary begins it anew (DESIGN
CHOICE, assumption log entry 1). -/
def State.laneJump (s : State) (superframe frame : Nat) : State :=
  if s.timing.superframe = superframe ∧ s.timing.frame / 8 = frame / 8 then s
  else
    let s := (if s.service.laneIn.judged then s else s.judgeLane).consoleCell
    s.setService { s.service with laneIn := .empty, laneOut := none, consoleIn := .empty }

/-- The counters take new numbers; a grant list serves its own superframe only (R36, R42). -/
def State.setNumbers (s : State) (superframe frame : Nat) : State :=
  let t := s.setTiming { s.timing with superframe := superframe, frame := frame }
  if s.timing.superframe = superframe then t else t.setMembers { t.members with grants := .fill 6 none }

/-- What falls on the numbers at which the node already stands is taken before a load moves them on, in the order of
State.settle: the unwraps of both sides (R53), the bank swap (R72), the preamplifier changes (R117) and the pass of superframe
64 (R179). All of it belongs to the event of the load (DEDUCED, assumption log entry 6). -/
def State.reached (s : State) : State :=
  (forEach 64 (fun n s => s.changeNow n) (s.forSides fun p s => s.unwrapNow p).swapNow).reloadTimeout

/-- A pending swap at a jump from superframe `old`: it happens where the load lands on its frame 0 (R72), and is missed where
the load passes it (R73). A swap in the middle of a local frame period holds for insertion at once, and the outputs of that
period stand as the boundary computed them (DESIGN CHOICE, assumption log entry 69). -/
def State.swapJump (s : State) (old : Nat) : State :=
  match s.plan.swap with
  | some a =>
    if s.swapDue then s.swapNow
    else if sfAtOrAfter a (sfAdd old 1) ∧ (sfAtOrAfter a s.timing.superframe = false ∨ (a = s.timing.superframe ∧ 0 < s.timing.frame)) then
      (s.setPlan { s.plan with swap := none }).raiseBank 1 a
    else s
  | none => s

/-- A load that changes the counters is a jump, met by the lane receiver, the slot switch, the preamplifiers and the tracking
unit (R35, R72, R73, R81, R118, R119, R132). What the node had reached by the old numbers comes first. The local outputs of
the period under way are not computed anew, so the drop bank of a swap at the jump drives them from the next boundary (R72;
DESIGN CHOICE, assumption log entry 69). Nor does the converter line take a command for the frame landed on, though it pulses
the strobe where that is frame 0 (R119; DESIGN CHOICE, assumption log entry 76). Nor are supervision frames built for it: those
of the period under way keep the old numbers (R60; DESIGN CHOICE, assumption log entry 77). -/
def State.jump (s : State) (superframe frame : Nat) : State :=
  let s := s.reached
  let old := s.timing.superframe
  let s := ((s.laneJump superframe frame).setNumbers superframe frame).presentJump
  let s := (((s.swapJump old).preampJump).trackJump)
  if frame = 0 then s.pulseStrobe else s

/-- The counters are loaded from a master-origin frame (R35). The pass of superframe 64 that stands due starts before the
clock is LOCKED, be the load a jump or not (R179). -/
def State.loadCounters (s : State) (h : Header) : State :=
  if s.timing.superframe = h.superframe ∧ s.timing.frame = h.frame then s.reloadTimeout else s.jump h.superframe h.frame

/-- A master-origin frame at the primary input of a node other than node 0: the counters are loaded and the clock is LOCKED;
the first lock of a STAGE node starts its reload pass, unless superframe 64 had begun before it (R35, R179). -/
def State.clockLock (s : State) (h : Header) : State :=
  let s := s.loadCounters h
  if s.timing.clock = .locked then s
  else (s.setClock .locked).startupReload (sfAdd s.timing.superframe 3)

/-- A master-origin frame has been taken at the primary input in this period (R35, R62). -/
def State.masterSeen (s : State) : State :=
  ((s.setTiming { s.timing with masterInPeriod := true }).setRing { s.ring with masterTaken := true }).redetermine

/-! ### Ring traffic -/

/-- Node 0 has not yet originated the frame 0 that follows a returned frame 0: later the ranks do not change (R40). -/
def State.beforeNext (s : State) (h : Header) : Bool :=
  h.superframe == s.timing.superframe
    || (s.timing.frameOwed && s.timing.frame == 0 && sfAdd h.superframe 1 == s.timing.superframe)

/-- A frame back at node 0: the return store, the roster marks, the ring map and the arbiter (R26, R30, R31, R40). -/
def State.takeReturn (s : State) (h : Header) (slots : Tab Sample 128) : State :=
  let s := s.setMembers { s.members with
    returnStore := some ⟨globalCount h.superframe h.frame, slots⟩, returnedMarks := some h.presence }
  if h.frame = 0 then
    let s := s.setMembers { s.members with ringMap := h.trail }
    if s.beforeNext h then s.arbitrate h else s
  else s

/-- The lists that a frame brings to a node other than node 0: map and grants in frame 0, the roster in frame 1 (R30, R31,
R42). -/
def State.takeLists (s : State) (h : Header) : State :=
  if h.frame = 0 then s.setMembers { s.members with ringMap := h.publishedMap, grants := h.grants }
  else if h.frame = 1 then s.takeRoster h.roster
  else s

/-- The header a node other than node 0 forwards out of a side (R27, R29, R30, R47, R58). Reserved flag bits leave as 0, the
unused bytes of 6 to 15 as they came (R183; DESIGN CHOICE, assumption log entry 66). -/
def State.forwardHeader (s : State) (out : Side) (h : Header) : Header :=
  let h := s.ownMarks h
  let h := if h.frame = 0 then { h with rest := appendTrail h.rest s.id } else h
  s.sideFlags out { h with turned := out == .w }

/-- The frame the framer gives a port in this period. -/
def State.transmit (s : State) (p : Side) (f : Frame) : State := s.setPort p { s.port p with tx := some f }

/-- A frame is forwarded out of the primary output (R27). -/
def State.forward (s : State) (h : Header) (slots : Tab Sample 128) (lane : Lane) : State :=
  match s.primaryOutput with
  | some out =>
    let h' := s.forwardHeader out h
    let s := s.laneTurn h.frame
    s.transmit out (.primary h' (s.insertInto slots) ((s.laneBytes h.frame).getD lane))
  | none => s

/-- A good primary frame of the accepted kind at the primary input (R57). -/
def State.ringTraffic (s : State) (h : Header) (slots : Tab Sample 128) (lane : Lane) : State :=
  let count := globalCount h.superframe h.frame
  if s.id = 0 then
    let s := s.takeReturn h slots
    let s := if h.masterOrigin then s.masterSeen else s
    (s.fileRing count slots).takeLane h.superframe h.frame lane
  else
    let s := if h.masterOrigin then (s.clockLock h).masterSeen else s
    (((s.takeLists h).fileRing count slots).takeLane h.superframe h.frame lane).forward h slots lane

/-- A good turned frame at E passes out of W where both spans are in service (R59), its reserved bits as State.forwardHeader
treats them (assumption log, entry 66). -/
def State.passTurned (s : State) (p : Side) (f : Frame) : State :=
  if p = .e ∧ f.isPrimary ∧ f.header.turned ∧ s.inService .e ∧ s.inService .w then
    s.transmit .w (f.withHeader (s.sideFlags .w f.header))
  else s

/-- The kind of primary frame a primary input accepts: turned clear at W, turned set at E (R57). -/
def accepts (p : Side) (h : Header) : Bool := h.turned == (p == .e)

/-- What a node that is not looped does with a delivered frame (R57, R59). -/
def State.takeFrame (s : State) (p : Side) (f : Frame) : State :=
  let s := s.passTurned p f
  match f with
  | .primary h slots lane => if s.primaryInput = some p ∧ accepts p h then s.ringTraffic h slots lane else s
  | .supervision _ => s

/-! ### Delivery and receive lock (section 1.3) -/

/-- The ring controller's share of a delivered frame: the partner fields, the defect, and the naming or adoption of an unwrap
(R45, R46, R51, R52). -/
def State.control (s : State) (p : Side) (f : Frame) : State :=
  let s := ((s.updatePartner p f).evaluate p).nameUnwrap p
  match f with
  | .supervision h => s.adoptUnwrap p h
  | .primary _ _ _ => s

/-- A LOCKED port delivers a good frame (R8, R17). -/
def State.deliver (s : State) (p : Side) (f : Frame) : State :=
  let s := s.setPort p { s.port p with lock := .locked, reference := none, badRun := 0 }
  let s := s.setFlags p ⟨(s.port p).flags.light, true, f.header.farFault, f.header.turned⟩
  let s := s.control p f
  if (s.port p).looped then s else s.takeFrame p f

/-- A bad frame in LOCKED: a CRC error, and lock loss at the fourth in a row (R9). -/
def State.badFrame (s : State) (p : Side) : State :=
  let run := (s.port p).badRun + 1
  let s := (s.setPort p { s.port p with badRun := run }).bump (crcCounter p)
  if 4 ≤ run then (s.toHunt p (s.port p).flags.light true).evaluate p else s

/-- The reference one receive frame period later (R7). -/
def Reference.aged (r : Reference) : Reference := { r with age := min (r.age + 1) 49 }

/-- A frame-0 marker that confirms the reference: 48 receive frame periods later, one superframe on (R7). -/
def Reference.confirms (r : Reference) (superframe : Nat) : Bool := r.age == 48 && superframe == sfAdd r.superframe 1

/-- The port moves to PRESYNC, or stays there, with a reference (R6, R7). -/
def State.setReference (s : State) (p : Side) (r : Reference) : State :=
  s.setPort p { s.port p with lock := .presync, reference := some r }

/-- A good frame outside LOCKED (R6, R7). -/
def State.searchFrame (s : State) (p : Side) (r : Option Reference) (f : Frame) : State :=
  if f.header.frame = 0 then
    if r.any fun x => x.confirms f.header.superframe then s.deliver p f
    else s.setReference p ⟨f.header.superframe, 0⟩
  else
    match r with
    | some x => s.setReference p x
    | none => s

/-- One receive frame period of a lit, enabled port (R3, R6 to R9). -/
def State.receive (s : State) (p : Side) (period : List Byte) : State :=
  match (s.port p).lock, judgeFrame period with
  | .locked, some f => s.deliver p f
  | .locked, none => s.badFrame p
  | .presync, some f => s.searchFrame p ((s.port p).reference.map Reference.aged) f
  | .presync, none =>
    match (s.port p).reference with
    | some r => s.setReference p r.aged
    | none => s
  | .hunt, some f => s.searchFrame p none f
  | .hunt, none => s

/-- The bytes a port's receiver takes: its own transmitted frame in the INTERNAL loop, otherwise the fibre (R17). -/
def Port.receiverBytes (x : Port) (period : List Byte) : List Byte :=
  if x.loop = .internal then
    match x.tx with
    | some f => f.bytes
    | none => []
  else period

/-- What a fibre brings in one receive frame period is what the LINE loop sends on (R18). -/
def State.keepReceived (s : State) (p : Side) (period : List Byte) : State :=
  if (s.port p).fibreLight ∧ (s.port p).loop = .line then s.setPort p { s.port p with received := period.take 407 } else s

/-- One receive frame period at a port; nothing is examined while it is disabled or sees no light (R4, R10). -/
def State.receivePeriod (s : State) (p : Side) (period : List Byte) : State :=
  if !(s.port p).enabled then s
  else
    let s := (s.event State.absenceExpiry).keepReceived p period
    if (s.port p).flags.light then s.event (·.receive p ((s.port p).receiverBytes (period.take 407))) else s

/-! ### Light (R5, R10) -/

/-- The fibre starts to bring light; LIGHT follows unless the receiver takes the internal signal (R5, R17). -/
def State.lightOn (s : State) (p : Side) : State :=
  if !(s.port p).enabled then s
  else
    let s := s.setPort p { s.port p with fibreLight := true }
    if (s.port p).loop = .internal then s else s.setFlags p { (s.port p).flags with light := true }

/-- The fibre goes dark: HUNT at once, from any lock state (R10, R11). -/
def State.lightOff (s : State) (p : Side) : State :=
  if !(s.port p).enabled then s
  else
    let s := s.setPort p { s.port p with fibreLight := false, received := [] }
    if (s.port p).loop = .internal then s else (s.toHunt p false true).evaluate p

/-! ### Commands -/

/-- LIGHT_DETECTED (R5). -/
def execLightDetected (port : Side) (s : State) : Host.Outcome State Fault Refusal := .next (s.event (·.lightOn port))

/-- LOSS_OF_LIGHT (R10). -/
def execLossOfLight (port : Side) (s : State) : Host.Outcome State Fault Refusal := .next (s.event (·.lightOff port))

/-- RECEIVE_FRAME (R3). -/
def execReceiveFrame (port : Side) (period : List Byte) (s : State) : Host.Outcome State Fault Refusal :=
  .next (s.receivePeriod port period)

end Sys2Proof.Machine
end

