-- ==== Sys2Proof/Machine/Boundary.lean ====
section
/-! DEFINITION. The local frame and superframe boundaries (R24): the counters and the timers that count them, and the work
of one local frame (R25, R60, R74, R78, R85, R89, R119, R147). -/

namespace Sys2Proof.Machine

/-! ### What stands due -/

/-- The cells assembled and the counts run out in the period that ends, the ring controller's first (assumption log,
entry 6). -/
def State.settleRing (s : State) : State :=
  let s := (s.ringCell.consoleCell).event State.absenceExpiry
  let s := s.event State.isolationExpiry
  let s := s.forSides fun p s => s.event (·.holdoffExpiry p)
  let s := s.forSides fun p s => s.restoreExpiry p
  s.forSides fun p s => s.event (·.unwrapNow p)

/-- The expiries of the other blocks that stand due. -/
def State.settleBlocks (s : State) : State :=
  let s := forEach 64 (fun n s => s.event (·.changeNow n)) (s.event State.swapNow)
  let s := forEach 64 (fun n s => s.event (·.graceExpiry n)) s.reloadTimeout
  let s := forEach 4 (fun c s => s.event (·.holdExpiry c)) s
  let s := (List.finRange 8).foldl (fun s n => s.event (·.flipLine n)) s
  forEach 48 (fun _ s => s.event State.ackExpiry) s

/-- Everything that stands due is taken, each expiry an event of its own (assumption log, entries 6 and 47). -/
def State.settle (s : State) : State := s.settleRing.settleBlocks

/-! ### The counters (R24) and the timers that count boundaries -/

/-- The master-absence count of the period that ended (R35). -/
def Timing.absence (t : Timing) : Nat := if t.masterInPeriod then 0 else min (t.masterAbsence + 1) 8

/-- The local frame number advances, and from 47 the superframe number with it (R24, R35). -/
def Timing.advance (t : Timing) : Timing :=
  { t with frame := (t.frame + 1) % 48, superframe := if t.frame = 47 then sfAdd t.superframe 1 else t.superframe
           masterAbsence := t.absence, masterInPeriod := false, frameOwed := true }

/-- The converter line's count of local frames: deadlines come nearer, and the pins of the last frame clear (R120). A load of the
counters counts none (DESIGN CHOICE, assumption log entry 76). -/
def Preamp.frame (p : Preamp) : Preamp :=
  { p with outstanding := p.outstanding.map fun o => { o with left := o.left - 1 }, transfer := none, strobe := none }

/-- D in the local frame that begins (R80), which a load of the counters does not begin (DESIGN CHOICE, assumption log entry 77). -/
def Present.frame (p : Present) : Present := { p with delay := p.delayNext }

/-- What the checker watches in the local frame that begins (R21). -/
def Checker.frame (c : Checker) : Checker := { c with watch := if c.on then some c.slot else none }

/-- A local frame boundary's counting (R21, R24, R35, R36, R62, R80, R120). D as it waits is taken over first, so a change that this
boundary's own ring state brings about counts from the next frame (DESIGN CHOICE, assumption log entry 60). -/
def State.advance (s : State) : State :=
  let s := if s.timing.frame % 8 = 7 then s.nextCellTime else s
  let s := ((s.setTiming s.timing.advance).setPreamp s.preamp.frame).setPresent s.present.frame
  let s := s.setChecker s.checker.frame
  if s.timing.masterAbsence = 0 then s.redetermine else s

/-- A span record at a superframe boundary: the hold-off of a span in DEFECT and the restore count of one in RESTORING come
nearer (R48, R50). -/
def Span.boundary (x : Span) : Span :=
  match x.state with
  | .defect => { x with holdoff := x.holdoff - 1 }
  | .restoring => if x.ready then x else { x with restore := x.restore - 1 }
  | _ => x

/-- A talk register row at a superframe boundary: its max-hold timer comes nearer (R160). -/
def TalkRow.boundary (r : TalkRow) : TalkRow := { r with timer := r.timer.map (· - 1) }

/-- The isolation count at a superframe boundary (R33). -/
def State.isolationCount (s : State) : Nat := if s.ring.state = .isolated then min (s.members.isolation + 1) 8 else 0

/-- The isolation count reaches 8 at this boundary (R33). -/
def State.isolationReached (s : State) : Bool := s.members.isolation < 8 && s.isolationCount == 8

/-- A superframe boundary's counting: isolation, spans, grace timers, max-hold timers, line samples, strobe (R33, R48, R50,
R111, R119, R160, R165). No grant list is known until the frame 0 of the new superframe brings one, or at node 0 is
originated (R36, R42). The isolation count looks at the ring state before a hold-off that ends here fails its span (R48; DESIGN
CHOICE, assumption log entry 20). -/
def State.superframe (s : State) (levels : Tab Bool 8) : State :=
  let s := s.setMembers { s.members with
    isolation := s.isolationCount, isolationOwed := s.isolationReached, grants := .fill 6 none }
  let s := s.setRing { s.ring with spanE := s.ring.spanE.boundary, spanW := s.ring.spanW.boundary }
  let s := s.setPreamp { s.preamp with entries := s.preamp.entries.map PreampEntry.countDown }
  let s := s.setTalk { s.talk with register := s.talk.register.map TalkRow.boundary }
  let s := s.setLines { records := s.lines.records.mapIdx fun i l => l.sample (levels.get i), levels := levels }
  s.pulseStrobe

/-! ### Frames sent (R25, R28, R60) -/

/-- The supervision frames of a period, built for both sides at its boundary; what is forwarded in the period takes its side's
place (R28, R59, R60). A load of the counters inside the period builds none (DESIGN CHOICE, assumption log entry 77). -/
def State.sendSupervision (s : State) : State := s.forSides fun p s => s.transmit p (s.supervisionFrame p)

/-- Node 0's grant list for the superframe that begins: the one computed for it, or six NONE entries (R40, R42). -/
def State.comingGrants (s : State) : Grants :=
  match s.members.nextGrants with
  | some g => if g.superframe = s.timing.superframe then g.list else .fill 6 none
  | none => .fill 6 none

/-- Node 0's roster: the marks of the last returned frame, or its own alone (R31). -/
def State.comingRoster (s : State) : Byte := s.members.returnedMarks.getD s.ownPresence

/-- Bytes 6 to 15 of a frame node 0 originates (R25). -/
def State.originRest (s : State) : Tab Byte 10 :=
  if s.timing.frame = 0 then frame0Rest s.members.grants s.members.ringMap [0]
  else if s.timing.frame = 1 then .ofList 10 0 [s.comingRoster]
  else .fill 10 0

/-- The header node 0 originates, its flags for the side it leaves by (R25, R47, R58). -/
def State.originHeader (s : State) (out : Side) : Header :=
  s.sideFlags out (s.ownMarks { frame := s.timing.frame, superframe := s.timing.superframe, masterOrigin := true
                                turned := out == .w, farFault := false, restoreReady := false, presence := 0, request := 0
                                rest := s.originRest })

/-- The second-lap copy (R26). -/
def State.secondLap (s : State) : Tab Sample 128 :=
  match s.members.returnStore with
  | some r => r.slots
  | none => .fill 128 0

/-- Node 0 takes the grant list of the superframe whose frame 0 it originates. The list computed is for that superframe alone
and is dropped here, used or not (R40, R42). -/
def State.originLists (s : State) : State :=
  if s.timing.frame = 0 then s.setMembers { s.members with grants := s.comingGrants, nextGrants := none } else s

/-- Node 0 takes its roster as it originates frame 1 (R31, R32). -/
def State.originRoster (s : State) : State :=
  if s.timing.frame = 1 then
    (s.setMembers { s.members with returnedMarks := none }).takeRoster s.comingRoster
  else s

/-- Node 0 originates the frame of this period; without a primary output it is not sent (R25, R58). The request level in its
header still counts the cell that node 0 takes for this same frame, since the header is formed first (DESIGN CHOICE,
assumption log entry 52). -/
def State.originate (s : State) : State :=
  if s.id = 0 then
    let s := s.originLists
    let header := s.originHeader (s.primaryOutput.getD .e)
    let t := s.laneTurn s.timing.frame
    let f : Frame := .primary header (t.insertInto t.secondLap) ((t.laneBytes t.timing.frame).getD (.fill 3 0))
    let t := match s.primaryOutput with
      | some out => t.transmit out f
      | none => t
    t.originRoster
  else s

/-! ### The work of one local frame -/

/-- The 64 local outputs; at a DESK node channel 15 carries the console lane (R85, section 5.2). -/
def State.outputs (s : State) : State :=
  s.setAudio { s.audio with localOut := .ofFn 64 fun n => if s.isDesk && n == 15 then s.consoleSample else s.dropOutput n }

/-- Presentation, the pattern checker, tracking and lost talkers at the boundary that begins this frame (R22, R78, R131,
R161). -/
def State.presentFrame (s : State) : State :=
  let t := s.presentSlots s.count
  let t := if s.repeats s.count then t else t.patternCompare
  (t.trackTo t.present.lastCapture).releaseStale

/-- All that the node does in one local frame of its own accord. -/
def State.frameWork (s : State) (inputs : Tab Sample 64) : State :=
  let s := (s.setAudio { s.audio with localIn := inputs }).converterLine.presentFrame
  let s := s.mix.fileOwn.consoleFrame.outputs
  let s := s.sendSupervision.originate.dropOutgoing
  s.setTiming { s.timing with frameOwed := false }

/-- The boundary's counting where it has not been done: a wrap from 47 counts the superframe too (assumption log, entry 5).
The isolation count looks at the ring state that stands then: after an absence that ends at this boundary, and before one
that this boundary completes, be it by the absence count or by a hold-off that ends here (R33, R48; DESIGN CHOICE,
assumption log entry 20). -/
def State.begin (s : State) (levels : Tab Bool 8) : State :=
  let s := s.settle.event State.advance
  if s.timing.frame = 0 then s.superframe levels else s

/-- The local frame boundary (R24). -/
def State.localBoundary (s : State) (inputs : Tab Sample 64) : State :=
  if !s.timing.running then s
  else if s.timing.frameOwed then s.settle.event (·.frameWork inputs)
  else
    let t := s.begin s.lines.levels
    (if t.timing.frame = 0 then t.settle else t).event (·.frameWork inputs)

/-- The superframe boundary (R24): the counters step into frame 0, whose work the local frame boundary then does. -/
def State.superframeBoundary (s : State) (levels : Tab Bool 8) : State :=
  if s.timing.running && !s.timing.frameOwed && s.timing.frame == 47 then s.begin levels else s

/-! ### Commands -/

/-- LOCAL_FRAME_BOUNDARY (R24): nothing happens before the ports are enabled, while the local frame timer does not run. -/
def execLocalFrameBoundary (inputs : Tab Sample 64) (s : State) : Host.Outcome State Fault Refusal :=
  .next (s.localBoundary inputs)

/-- SUPERFRAME_BOUNDARY (R24): nothing happens outside frame 47. -/
def execSuperframeBoundary (levels : Tab Bool 8) (s : State) : Host.Outcome State Fault Refusal :=
  .next (s.superframeBoundary levels)

end Sys2Proof.Machine
end

