-- ==== Sys2Proof/Machine/Image.lean ====
section
/-! DEFINITION. The stored image (R178, R179, R188): checking it, walking its chunks, loading the tables from them, and
building them for a STORE (R180). -/

namespace Sys2Proof.Machine

/-! ### The header (R178, R188) -/

/-- Why an image is bad (R178). -/
inductive ImageCause where
  | read
  | magic
  | version
  | length
  | crc
deriving DecidableEq, Repr

/-- The code of an IMAGE notice's cause (R186). -/
def ImageCause.code : ImageCause → Nat
  | .read => 0
  | .magic => 1
  | .version => 2
  | .length => 3
  | .crc => 4

/-- The first k bytes of a list, 0 beyond its end. -/
def padded (k : Nat) (l : List Byte) : List Byte := (l ++ List.replicate k 0).take k

/-- The chunk area a header announces. -/
def imageArea (memory : List Byte) : List Byte := padded (wordAt memory 5) (memory.drop 11)

/-- The tests of R178 in order: the chunk area of an image that passes, or the cause. -/
def checkImage (memory : Option (List Byte)) : Except ImageCause (List Byte) :=
  match memory with
  | none => .error .read
  | some m =>
    if padded 4 m ≠ [0x4F#8, 0x4C#8, 0x54#8, 0x49#8] then .error .magic
    else if byteAt m 4 ≠ 1#8 then .error .version
    else if 4096 < wordAt m 5 + 11 then .error .length
    else if crc32Bytes (imageArea m) ≠ padded 4 (m.drop 7) then .error .crc
    else .ok (imageArea m)

/-! ### Chunks (R178, R188) -/

/-- A chunk: its four-character name and its data. -/
structure Chunk where
  name : List Byte
  data : List Byte
deriving DecidableEq, Repr

/-- The chunk names (R188). -/
inductive ChunkName where
  | optn
  | slta
  | sltb
  | drpa
  | drpb
  | dtrm
  | pamp
  | strm
  | buss
  | send
  | talk
  | line
  | sets
  | node
  | treg
  | cntr
deriving DecidableEq, Repr

/-- The four ASCII characters of a chunk's name. -/
def ChunkName.bytes : ChunkName → List Byte
  | .optn => [0x4F, 0x50, 0x54, 0x4E]
  | .slta => [0x53, 0x4C, 0x54, 0x41]
  | .sltb => [0x53, 0x4C, 0x54, 0x42]
  | .drpa => [0x44, 0x52, 0x50, 0x41]
  | .drpb => [0x44, 0x52, 0x50, 0x42]
  | .dtrm => [0x44, 0x54, 0x52, 0x4D]
  | .pamp => [0x50, 0x41, 0x4D, 0x50]
  | .strm => [0x53, 0x54, 0x52, 0x4D]
  | .buss => [0x42, 0x55, 0x53, 0x53]
  | .send => [0x53, 0x45, 0x4E, 0x44]
  | .talk => [0x54, 0x41, 0x4C, 0x4B]
  | .line => [0x4C, 0x49, 0x4E, 0x45]
  | .sets => [0x53, 0x45, 0x54, 0x53]
  | .node => [0x4E, 0x4F, 0x44, 0x45]
  | .treg => [0x54, 0x52, 0x45, 0x47]
  | .cntr => [0x43, 0x4E, 0x54, 0x52]

/-- The chunks of an area, at most `fuel` of them, and whether the walk ran past its end (R178, R188). -/
def walk : Nat → List Byte → List Chunk × Bool
  | 0, _ => ([], false)
  | fuel + 1, l =>
    let n := wordAt l 4
    if l = [] then ([], false)
    else if l.length < 6 ∨ l.length < 6 + n then ([], true)
    else
      let r := walk fuel (l.drop (6 + n))
      (⟨l.take 4, (l.drop 6).take n⟩ :: r.1, r.2)

/-- The chunks of an area. -/
def chunksOf (area : List Byte) : List Chunk := (walk area.length area).1

/-- A chunk runs past the end of the area (R178). -/
def isPartial (area : List Byte) : Bool := (walk area.length area).2

/-- The data of the first chunk of a name (R178). -/
def chunk (l : List Chunk) (name : ChunkName) : Option (List Byte) :=
  (l.find? fun c => c.name == name.bytes).map Chunk.data

/-- A chunk as it is stored. -/
def chunkBytes (name : ChunkName) (data : List Byte) : List Byte := name.bytes ++ word16 data.length ++ data

/-- A table from a chunk: entries of `size` bytes in index order, the reset value where the chunk holds none (R178, R188). -/
def loadTable {α : Type} (n size : Nat) (reset : Nat → α) (parse : Nat → List Byte → Parsed α) (data : Option (List Byte)) :
    Tab α n :=
  let d := data.getD []
  .ofFn n fun i => if (i + 1) * size ≤ d.length then (parse i ((d.drop (i * size)).take size)).value (reset i) else reset i

/-! ### The tables of an image (R102, R105, R154, R155, R164, R179) -/

/-- OPTN where the image gives none (R179). -/
def Optn.defaults : Optn := ⟨false, 4, 24⟩

/-- OPTN from its chunk; a count outside 1 to 4 is clamped (R179). The start delay is kept as the image gives it and clamped
where it is used, so a STORE without OPTN values writes it back as it was read (R179, R180, R188; DESIGN CHOICE, assumption log
entry 74). -/
def loadOptn (data : Option (List Byte)) : Optn :=
  match data with
  | some d => if d.length < 3 then .defaults else ⟨byteAt d 0 == 1, clampNat (byteAt d 1).toNat 1 4, (byteAt d 2).toNat⟩
  | none => .defaults

/-- A preamp's entry in PAMP: steps clamped to 40, phantom only under the policy APPLY (R105, R179). -/
def parseGain (applyPhantom : Bool) (b : List Byte) : Parsed Gain :=
  .taken ⟨min (byteAt b 0).toNat 40, bitAt (byteAt b 1) 0, bitAt (byteAt b 1) 1 && applyPhantom⟩

/-- The preamp table of an image, unowned (R105). -/
def loadPreamps (applyPhantom : Bool) (data : Option (List Byte)) : Tab PreampEntry 64 :=
  (loadTable 64 2 (fun _ => ⟨0, false, false⟩) (fun _ => parseGain applyPhantom) data).map fun g =>
    { PreampEntry.afterReset with gain := g }

/-- A bus record of BUSS, its values clamped (R154). -/
def parseStoredBus (b : List Byte) : Parsed Bus :=
  .taken { Bus.afterReset with
    masterTarget := (byteAt b 0).toNat, talkLevel := (byteAt b 1).toNat, duckDepth := min (byteAt b 2).toNat 64
    prescaler := min (byteAt b 3).toNat 15 }

/-- A stored send is appended to its bus's list, or skipped (R154). -/
def appendSend (buses : Tab Bus 16) (b : List Byte) : Tab Bus 16 :=
  let k := (byteAt b 0).toNat
  match parseSource (byteAt b 1).toNat (byteAt b 2).toNat with
  | some a =>
    let bus := buses.get k
    if 15 < k ∨ hasSource bus.sends a = true ∨ 32 ≤ bus.sends.length then buses
    else buses.put k { bus with sends := bus.sends ++ [⟨a, (byteAt b 3).toNat, 0, false⟩] }
  | none => buses

/-- The buses and send lists of an image: the whole records of the SEND chunk are taken in turn, and its bytes beyond the 512
entries of the table are ignored (R154, R178). -/
def loadBuses (buss send : Option (List Byte)) : Tab Bus 16 :=
  (pieces 4 512 (send.getD [])).foldl appendSend (loadTable 16 4 (fun _ => .afterReset) (fun _ => parseStoredBus) buss)

/-- The line records of an image (R164). -/
def loadLines (desk : Bool) (data : Option (List Byte)) : Tab Line 8 :=
  (loadTable 8 2 (fun _ => LineFunction.off) (fun _ => parseLine desk) data).map fun f => ⟨f, false, 0, none, none⟩

/-- The SETS record of an image (R102). -/
def loadSets (data : Option (List Byte)) : Sets :=
  let f := (loadTable 8 2 Sets.defaults.field parseSet data).get
  ⟨f 0, f 1, f 2, f 3, f 4, f 5, f 6, f 7⟩

/-- The slot and drop plans of an image, active bank A and no swap pending (R69, R87). -/
def loadPlan (desk : Bool) (l : List Chunk) : Plan :=
  let slots := fun name => loadTable 128 3 (fun _ => SlotEntry.empty) (fun _ => parseSlot) (chunk l name)
  let drops := fun name => loadTable 64 2 (fun _ => DropSource.silent) (fun _ => parseDrop desk) (chunk l name)
  { active := .a, swap := none, slotA := slots .slta, slotB := slots .sltb, dropA := drops .drpa, dropB := drops .drpb
    outgoing := none, dtrim := loadTable 64 1 (fun _ => 0) (fun _ => parseTrim 63) (chunk l .dtrm) }

/-- The tables of a STAGE node alone; the talk register stands empty beside freshly loaded sources (R105, R124, R154, R155,
R168). -/
def State.loadStage (s : State) (l : List Chunk) : State :=
  let s := s.setPreamp { s.preamp with entries := loadPreamps s.image.optn.applyPhantom (chunk l .pamp) }
  let s := s.setTracking { s.tracking with strim := loadTable 64 1 (fun _ => 0) (fun _ => parseTrim 127) (chunk l .strm) }
  let s := s.setBuses (loadBuses (chunk l .buss) (chunk l .send))
  s.setTalk ⟨loadTable 8 6 (fun _ => .defaults) (fun _ => parseTalk) (chunk l .talk), .fill 4 .empty⟩

/-- The tables of the node's role take their values from chunks (R69, R102, R164, R178). -/
def State.loadTables (s : State) (l : List Chunk) : State :=
  let s := (s.setPlan (loadPlan s.isDesk l)).setSets (loadSets (chunk l .sets))
  let s := s.setLines { s.lines with records := loadLines s.isDesk (chunk l .line) }
  if s.isStage then s.loadStage l else s

/-! ### Building an image (R180, R188) -/

/-- OPTN as it is stored. -/
def Optn.bytes (o : Optn) : List Byte := [flagByte o.applyPhantom, byte o.converters, byte o.startDelay]

/-- Every send of a bus in list order (R188). -/
def storedSends (n : Nat) (b : Bus) : List Byte := b.sends.flatMap fun x => byte n :: x.source.bytes ++ [byte x.target]

/-- The chunks of a STAGE node alone, the sends by ascending bus and in list order (R188; DESIGN CHOICE, assumption log entry
72). -/
def State.stageChunks (s : State) : List Byte :=
  chunkBytes .pamp (s.preamp.entries.toList.flatMap fun e => [byte e.gain.steps, byte (ofFlags [e.gain.pad, e.gain.phantom])])
    ++ chunkBytes .strm (s.tracking.strim.toList.map signedByte)
    ++ chunkBytes .buss (s.buses.toList.flatMap fun b =>
        [byte b.masterTarget, byte b.talkLevel, byte b.duckDepth, byte b.prescaler])
    ++ chunkBytes .send ((List.range 16).flatMap fun n => storedSends n (s.bus n))
    ++ chunkBytes .talk (s.talk.sources.toList.flatMap TalkSource.record)

/-- The chunk area of the tables as they stand, with this OPTN data (R180). The order of the chunks is OPTN, SLTA, SLTB, DRPA,
DRPB, DTRM, PAMP, STRM, BUSS, SEND, TALK, LINE, SETS (R188; DESIGN CHOICE, assumption log entry 72). -/
def State.storeArea (s : State) (optn : List Byte) : List Byte :=
  chunkBytes .optn optn
    ++ chunkBytes .slta (s.plan.slotA.toList.flatMap SlotEntry.record)
    ++ chunkBytes .sltb (s.plan.slotB.toList.flatMap SlotEntry.record)
    ++ chunkBytes .drpa (s.plan.dropA.toList.flatMap DropSource.record)
    ++ chunkBytes .drpb (s.plan.dropB.toList.flatMap DropSource.record)
    ++ chunkBytes .dtrm (s.plan.dtrim.toList.map signedByte)
    ++ (if s.isStage then s.stageChunks else [])
    ++ chunkBytes .line (s.lines.records.toList.flatMap fun l => l.function.bytes)
    ++ chunkBytes .sets ((List.range 8).flatMap fun i => word16 (s.sets.field i))

/-- The 11-byte header of a chunk area (R188). -/
def imageHeader (area : List Byte) : List Byte :=
  [0x4F#8, 0x4C#8, 0x54#8, 0x49#8, 1#8] ++ word16 area.length ++ crc32Bytes area

/-- An image as the memory holds it: the header and the chunk area (R188). -/
def imageBytes (area : List Byte) : List Byte := imageHeader area ++ area

/-- The OPTN data of a STORE under the protect strap: the retained image's unchanged, or the values read at the last hard
reset (R180). A retained chunk of another length than 3 is copied whole, though the image may then exceed the buffer (DESIGN
CHOICE, assumption log entry 67). -/
def State.protectedOptn (s : State) : List Byte :=
  match s.image.retained with
  | some area => (chunk (chunksOf area) .optn).getD s.image.optn.bytes
  | none => s.image.optn.bytes

/-- The OPTN values a STORE carries, brought within their ranges (R180). -/
def storedOptn (policy count delay : Nat) : Optn := ⟨policy == 1, clampNat count 1 4, clampNat delay 16 40⟩

/-- The status of a STORE that carries OPTN values (R180). -/
def storeStatus (count delay : Nat) : Status :=
  if clampNat count 1 4 = count ∧ clampNat delay 16 40 = delay then .done else .clamped

/-- The loader enters STORING; the buffer holds the header and the chunks it writes to the memory (R180, R188). -/
def State.beginStore (s : State) (optn : List Byte) : State :=
  s.setImage { s.image with loader := .storing, buffer := imageBytes (s.storeArea optn) }

/-- STORE (R180): refused with BUSY unless the loader is IDLE, with BAD_INDEX for an argument outside its set. The policy byte is
tested only where the action carries OPTN values (R186; DESIGN CHOICE, assumption log entry 65). -/
def State.storeAct (s : State) (present policy count delay : Nat) : State × Reply :=
  if s.image.loader ≠ .idle then s.refuse .busy []
  else if 1 < present ∨ (present = 1 ∧ 1 < policy) then s.refuse .badIndex []
  else if s.straps.protect then (s.beginStore s.protectedOptn, ⟨.done, 2, []⟩)
  else if present = 1 then
    (s.beginStore (storedOptn policy count delay).bytes, reply (storeStatus count delay) [])
  else (s.beginStore s.image.optn.bytes, reply .done [])

/-! ### Completion and the start-up load -/

/-- The outcomes of an IMAGE notice (R186). -/
inductive ImageOutcome where
  | loaded
  | partly
  | bad
  | storeDone
  | storeFailed
deriving DecidableEq, Repr

/-- The code of an IMAGE notice's outcome (R186). -/
def ImageOutcome.code : ImageOutcome → Nat
  | .loaded => 0
  | .partly => 1
  | .bad => 2
  | .storeDone => 3
  | .storeFailed => 4

/-- An IMAGE notice: the outcome, and the cause of a bad image or 0xFF (R177, R178, R180). -/
def State.raiseImage (s : State) (o : ImageOutcome) (cause : Option ImageCause) : State :=
  s.raise .image s.id.val [byte o.code, byte (cause.elim 255 ImageCause.code)]

/-- The CRC-32 of the image read back, over as many bytes of chunk area as were written, is the one in the header that was
written (R180; assumption log entry 43). -/
def readBackMatches (buffer memory : List Byte) : Bool :=
  crc32Bytes (padded (buffer.length - 11) (memory.drop 11)) == padded 4 (buffer.drop 7)

/-- The write and the read-back of a STORE have ended (R180). -/
def State.endStore (s : State) (readBack : Option (List Byte)) : State :=
  if s.image.loader = .storing then
    let matched := readBack.any (readBackMatches s.image.buffer)
    let retained := if matched then some (s.image.buffer.drop 11) else s.image.retained
    (s.setImage { s.image with loader := .idle, buffer := [], retained := retained }).raiseImage
      (if matched then .storeDone else .storeFailed) none
  else s

/-- The tables, OPTN, the retained image and the IMAGE notice follow the check of the image (R177, R178, R179). -/
def State.takeImage (s : State) (memory : Option (List Byte)) : State :=
  match checkImage memory with
  | .ok area =>
    let l := chunksOf area
    let o := loadOptn (chunk l .optn)
    let s := s.setImage { s.image with loading := false, optn := o, retained := some area }
    let s := (s.loadTables l).setPresent { s.present with delay := clampNat o.startDelay 16 40, delayNext := clampNat o.startDelay 16 40 }
    s.raiseImage (if isPartial area then .partly else .loaded) none
  | .error cause =>
    let s := s.setImage { s.image with loading := false, optn := .defaults, retained := none }
    let s := (s.loadTables []).setPresent { s.present with delay := 24, delayNext := 24 }
    s.raiseImage .bad (some cause)

/-- The ports are enabled, the local frame timer starts in frame 0, and the ring state becomes FORMING; each side's defect
is evaluated, and at a STAGE node 0 the reload pass starts (R46, R177, R179). -/
def State.enablePorts (s : State) : State :=
  let s := s.forSides fun p s => s.setPort p { s.port p with enabled := true }
  let s := (s.setTiming { s.timing with running := true, frameOwed := true }).pulseStrobe
  let s := ((s.setRingState .forming).forSides fun p s => s.examine p).redetermine
  if s.id = 0 then s.startupReload 4 else s

/-- The image read completes (R177, R178); nothing happens unless the start-up read is in progress. -/
def State.loadComplete (s : State) (memory : Option (List Byte)) : State :=
  if s.image.loading then (s.takeImage memory).enablePorts else s

/-! ### Commands -/

/-- IMAGE_LOAD_COMPLETE (R178). -/
def execImageLoadComplete (memory : Option (List Byte)) (s : State) : Host.Outcome State Fault Refusal :=
  .next (s.event (·.loadComplete memory))

/-- STORE (R180). -/
def execStore (s : State) : Host.Outcome State Fault Refusal :=
  .next (s.runAct 0x40 false 4 fun c s => s.storeAct (c.arg 1) (c.arg 2) (c.arg 3) (c.arg 4))

/-- STORE_COMPLETE (R180): nothing happens unless the loader is STORING. -/
def execStoreComplete (readBack : Option (List Byte)) (s : State) : Host.Outcome State Fault Refusal :=
  .next (s.event (·.endStore readBack))

end Sys2Proof.Machine
end

