-- ==== Sys2Proof/Machine/Report.lean ====
section
/-! DEFINITION. REPORT (R181): the record, its fragments and its closing answer; and the sending of notices (R172, R173). -/

namespace Sys2Proof.Machine

/-- The report record of the state at this moment (R181, R188). -/
def State.reportRecord (s : State) : List Byte :=
  chunkBytes .node ([byte s.id.val, byte (nodeRole s.straps.role), byte s.ring.state.code, byte s.timing.clock.code]
      ++ word16 s.timing.superframe)
    ++ chunkBytes .pamp (s.preamp.entries.toList.flatMap PreampEntry.record)
    ++ chunkBytes .strm (s.tracking.strim.toList.map signedByte)
    ++ chunkBytes .treg (s.talk.register.toList.flatMap TalkRow.record)
    ++ chunkBytes .cntr s.countRecord

/-- The loader takes a REPORT request: it builds the record and enters REPORTING (R181). -/
def State.beginReport (s : State) (c : Cell) : State :=
  s.setImage { s.image with loader := .reporting ⟨0, 0, c.origin, c.originConsole, c.tag⟩, buffer := s.reportRecord }

/-- A REPORT at the head of the work queue is refused, or taken without an answer for now (R93, R181). -/
def State.startReport (s : State) : State :=
  match s.request with
  | some c =>
    if c.acts 0x41 then
      if s.isDesk then s.popWork.answer c (reply .role [])
      else if c.length < 1 then s.popWork.answer c (reply .badIndex [])
      else if s.image.loader ≠ .idle then s.popWork.answer c (reply .busy [])
      else s.popWork.beginReport c
    else s
  | none => s

/-- A request as a report's cells answer it (R94, R181). -/
def ReportStream.request (r : ReportStream) : Cell :=
  { dest := 0, destConsole := false, origin := r.dest, originConsole := r.destConsole, kind := CellKind.act.code, tag := r.tag
    length := 0, relayed := false, payload := .fill 16 0 }

/-- The report stream, where the outbound queue has room for its next cell (R181). -/
def State.stream (s : State) : Option ReportStream :=
  match s.image.loader with
  | .reporting r => if hasRoom s.service.outbound then some r else none
  | _ => none

/-- The next REPORT cell: offset, fragment length, and up to 13 bytes of the record (R181, R186). -/
def State.fragment (s : State) (r : ReportStream) : Cell :=
  let data := (s.image.buffer.drop r.offset).take 13
  s.cellFor r.request .report (word16 r.offset ++ [byte data.length] ++ data)

/-- A fragment is formed and placed (R181). -/
def State.sendFragment (s : State) : State :=
  match s.stream with
  | some r =>
    if r.offset < s.image.buffer.length then
      let next := { r with offset := min (r.offset + 13) s.image.buffer.length, cells := r.cells + 1 }
      (s.pushOutbound (s.fragment r)).setImage { s.image with loader := .reporting next }
    else s
  | none => s

/-- After the last fragment the ANSWER DONE gives the record length and the number of REPORT cells (R181). -/
def State.finishReport (s : State) : State :=
  match s.stream with
  | some r =>
    if s.image.buffer.length ≤ r.offset then
      let a := s.answerCell r.request (reply .done (word16 s.image.buffer.length ++ [byte r.cells]))
      (s.pushOutbound a).setImage { s.image with loader := .idle, buffer := [] }
    else s
  | none => s

/-! ### Sending notices (R172, R173) -/

/-- The highest class present in a queue (0 when it is empty). -/
def highestClass (q : List Notice) : Nat := q.foldr (fun n m => max n.kind.cls m) 0

/-- A notice of the highest class present. -/
def isTop (q : List Notice) (n : Notice) : Bool := n.kind.cls == highestClass q

/-- A DESK node whose notice target is its own id (R172). -/
def State.ownTarget (s : State) : Bool := s.isDesk && s.sets.noticeTarget == s.id.val

/-- The target is deliverable and its queue has room (R172). -/
def State.canDeliver (s : State) : Bool :=
  if s.ownTarget then s.ring.state != .dark && hasRoom s.service.console
  else (finOf 4 s.sets.noticeTarget).any s.isReachableDesk && hasRoom s.service.outbound

/-- The oldest notice of the highest class leaves the queue as a NOTE cell (R172, R173). -/
def State.sendNotice (s : State) : State :=
  match s.notices.find? (isTop s.notices) with
  | some n =>
    if s.canDeliver then
      let t := s.setNotices (s.notices.eraseP (isTop s.notices))
      if s.ownTarget then t.pushConsole (s.noteCell n) else t.pushOutbound (s.noteCell n)
    else s
  | none => s

/-! ### Commands -/

/-- REPORT (R181). -/
def execReport (s : State) : Host.Outcome State Fault Refusal := .next s.startReport

/-- REPORT_FRAGMENT (R181): nothing happens unless a fragment is left and the outbound queue has room. -/
def execReportFragment (s : State) : Host.Outcome State Fault Refusal := .next s.sendFragment

/-- REPORT_DONE (R181): nothing happens unless every fragment is sent and the outbound queue has room. -/
def execReportDone (s : State) : Host.Outcome State Fault Refusal := .next s.finishReport

/-- NOTICE_SEND (R172): nothing happens unless a notice waits and its target is deliverable. -/
def execNoticeSend (s : State) : Host.Outcome State Fault Refusal := .next s.sendNotice

end Sys2Proof.Machine
end

