-- ==== Sys2Proof/Machine/Reset.lean ====
section
/-! DEFINITION. RESTART (R182 and the reset tables of every chapter) and the hard reset (R177). -/

namespace Sys2Proof.Machine

/-- The queues at a RESTART: all emptied, while cells being written or assembled go on; the grant of the current cell time
is remembered for the cell being assembled (R104). -/
def State.restartService (s : State) : State :=
  s.setService { s.service with
    work := [], outbound := [], console := [], stepQueue := [], relay := [], reading := none
    laneIn := { s.service.laneIn with writer := s.laneWriter } }

/-- The chunks of the retained image; none when it is empty (R182). -/
def State.retainedChunks (s : State) : List Chunk :=
  match s.image.retained with
  | some area => chunksOf area
  | none => []

/-- The tables are reloaded from the retained image; D follows SETS once it has left its start value (R80, R182). -/
def State.restartTables (s : State) : State :=
  let s := s.loadTables s.retainedChunks
  if s.present.delayStarted then s.setPresent { s.present with delayNext := s.sets.presentationDelay } else s

/-- The converter queues of a STAGE node are emptied, and the reload pass starts (R119, R122). -/
def State.restartConverters (s : State) : State :=
  if s.isStage then
    let s := s.setPreamp { s.preamp with queue := [], outstanding := [], transfer := none }
    s.startReload (sfAdd s.timing.superframe 4)
  else s

/-- What a RESTART clears besides the queues and tables (R42, R21, R135, R168, R174, R176). The checker is OFF at once, in the
current local frame too, as after a hard reset (R21; DESIGN CHOICE, assumption log entry 75). -/
def State.restartCleared (s : State) : State :=
  let s := s.setMembers { s.members with grants := .fill 6 none }
  let s := (s.setChecker ⟨false, 0, none⟩).setTracking { s.tracking with table := .fill 256 0, schedule := [] }
  let s := (s.setNotices []).setCounters (.fill 14 0)
  (s.setTalk { s.talk with register := .fill 4 .empty }).driveLines

/-- A RESTARTED notice: whether the retained image was empty (R182), which one with a chunk area of 0 bytes is not (DESIGN
CHOICE, assumption log entry 64). -/
def State.raiseRestarted (s : State) : State := s.raise .restarted s.id.val [flagByte s.image.retained.isNone]

/-- A RESTART at its event (R182). -/
def State.restart (s : State) : State :=
  let s := s.setImage { s.image with loader := .idle, buffer := [] }
  (s.restartService.restartTables.restartCleared.restartConverters).raiseRestarted

/-- RESTART, refused while the loader is STORING (R182). -/
def State.restartAct (s : State) : State × Reply :=
  if s.image.loader = .storing then s.refuse .busy [] else (s.restart, reply .done [])

/-- RESTART (R182). -/
def execRestart (s : State) : Host.Outcome State Fault Refusal := .next (s.event (·.runAct 0x42 false 0 fun _ s => s.restartAct))

/-- HARD_RESET (R177): the straps are read, and everything else takes its reset value. -/
def execHardReset (nodeId : NodeId) (role : Role) (protect : Bool) (s : State) : Host.Outcome State Fault Refusal :=
  .next (.ofStraps nodeId role protect s.pending)

end Sys2Proof.Machine
end

