-- ==== Sys2Proof/Machine/Dispatch.lean ====
section
/-! DEFINITION. The meaning of each command: one arm per row of spec/opcode_table.json. -/

namespace Sys2Proof.Machine

def exec (i : Instr) (s : State) : Host.Outcome State Fault Refusal :=
  match i with
  | .hardReset nodeId role protect => Sys2Proof.Machine.execHardReset nodeId role protect s
  | .imageLoadComplete memory => Sys2Proof.Machine.execImageLoadComplete memory s
  | .lightDetected port => Sys2Proof.Machine.execLightDetected port s
  | .lossOfLight port => Sys2Proof.Machine.execLossOfLight port s
  | .receiveFrame port period => Sys2Proof.Machine.execReceiveFrame port period s
  | .localFrameBoundary inputs => Sys2Proof.Machine.execLocalFrameBoundary inputs s
  | .superframeBoundary levels => Sys2Proof.Machine.execSuperframeBoundary levels s
  | .masterAbsenceExpiry => Sys2Proof.Machine.execMasterAbsenceExpiry s
  | .isolationCountExpiry => Sys2Proof.Machine.execIsolationCountExpiry s
  | .wrapHoldoffExpiry side => Sys2Proof.Machine.execWrapHoldoffExpiry side s
  | .restoreHoldExpiry side => Sys2Proof.Machine.execRestoreHoldExpiry side s
  | .unwrapApply side => Sys2Proof.Machine.execUnwrapApply side s
  | .bankSwapApply => Sys2Proof.Machine.execBankSwapApply s
  | .preampChangeApply input => Sys2Proof.Machine.execPreampChangeApply input s
  | .trackingApply => Sys2Proof.Machine.execTrackingApply s
  | .graceExpiry input => Sys2Proof.Machine.execGraceExpiry input s
  | .maxHoldExpiry cls => Sys2Proof.Machine.execMaxHoldExpiry cls s
  | .rampExpiry bus => Sys2Proof.Machine.execRampExpiry bus s
  | .debounceFlip line => Sys2Proof.Machine.execDebounceFlip line s
  | .ackDeadlineExpiry => Sys2Proof.Machine.execAckDeadlineExpiry s
  | .converterAck address channel => Sys2Proof.Machine.execConverterAck address channel s
  | .reloadPassTimeout => Sys2Proof.Machine.execReloadPassTimeout s
  | .ringCellComplete => Sys2Proof.Machine.execRingCellComplete s
  | .consoleCellReceived => Sys2Proof.Machine.execConsoleCellReceived s
  | .writeTable => Sys2Proof.Machine.execWriteTable s
  | .writeSlotEntry => Sys2Proof.Machine.execWriteSlotEntry s
  | .writeDropEntry => Sys2Proof.Machine.execWriteDropEntry s
  | .writeDtrim => Sys2Proof.Machine.execWriteDtrim s
  | .writeStrim => Sys2Proof.Machine.execWriteStrim s
  | .writeTrack => Sys2Proof.Machine.execWriteTrack s
  | .writeBus => Sys2Proof.Machine.execWriteBus s
  | .writeSend => Sys2Proof.Machine.execWriteSend s
  | .writeTalksrc => Sys2Proof.Machine.execWriteTalksrc s
  | .writeLines => Sys2Proof.Machine.execWriteLines s
  | .writeSets => Sys2Proof.Machine.execWriteSets s
  | .readTable => Sys2Proof.Machine.execReadTable s
  | .dataCellNext => Sys2Proof.Machine.execDataCellNext s
  | .readDoneAnswer => Sys2Proof.Machine.execReadDoneAnswer s
  | .copyBank => Sys2Proof.Machine.execCopyBank s
  | .swapBank => Sys2Proof.Machine.execSwapBank s
  | .loop => Sys2Proof.Machine.execLoop s
  | .patternCheck => Sys2Proof.Machine.execPatternCheck s
  | .clearCounters => Sys2Proof.Machine.execClearCounters s
  | .claim => Sys2Proof.Machine.execClaim s
  | .release => Sys2Proof.Machine.execRelease s
  | .setPreamp => Sys2Proof.Machine.execSetPreamp s
  | .removeSend => Sys2Proof.Machine.execRemoveSend s
  | .talkPress => Sys2Proof.Machine.execTalkPress s
  | .talkRelease => Sys2Proof.Machine.execTalkRelease s
  | .step => Sys2Proof.Machine.execStep s
  | .store => Sys2Proof.Machine.execStore s
  | .storeComplete readBack => Sys2Proof.Machine.execStoreComplete readBack s
  | .report => Sys2Proof.Machine.execReport s
  | .reportFragment => Sys2Proof.Machine.execReportFragment s
  | .reportDone => Sys2Proof.Machine.execReportDone s
  | .restart => Sys2Proof.Machine.execRestart s
  | .noticeSend => Sys2Proof.Machine.execNoticeSend s
  | .unknownAction => Sys2Proof.Machine.execUnknownAction s

end Sys2Proof.Machine
end

