-- ==== Sys2Proof/Safety.lean ====
section
/-! DEFINITION. What counts as a safe run, in the terms the statements use: the groups of the state a command leaves alone,
the laws of the device that every command keeps, how a request leaves the work queue, and what a press, a release and a reload
make of their tables. -/

namespace Sys2Proof.Machine

/-! ### Frames -/

/-- The groups of the state: one per field of State, the model's own list of raised notices beside the notice queue. -/
inductive Group where
  | straps
  | portE
  | portW
  | timing
  | ring
  | members
  | service
  | plan
  | present
  | checker
  | audio
  | preamp
  | tracking
  | buses
  | talk
  | lines
  | sets
  | notices
  | counters
  | image
  | pending
deriving DecidableEq, Repr

/-- Two states agree on a group. -/
def Agree (s t : State) : Group → Prop
  | .straps => t.straps = s.straps
  | .portE => t.portE = s.portE
  | .portW => t.portW = s.portW
  | .timing => t.timing = s.timing
  | .ring => t.ring = s.ring
  | .members => t.members = s.members
  | .service => t.service = s.service
  | .plan => t.plan = s.plan
  | .present => t.present = s.present
  | .checker => t.checker = s.checker
  | .audio => t.audio = s.audio
  | .preamp => t.preamp = s.preamp
  | .tracking => t.tracking = s.tracking
  | .buses => t.buses = s.buses
  | .talk => t.talk = s.talk
  | .lines => t.lines = s.lines
  | .sets => t.sets = s.sets
  | .notices => t.notices = s.notices ∧ t.raised = s.raised
  | .counters => t.counters = s.counters
  | .image => t.image = s.image
  | .pending => t.pending = s.pending

/-- From s to t no group outside the list changes. -/
def OnlyIn (l : List Group) (s t : State) : Prop := ∀ g, g ∉ l → Agree s t g

/-- The group of a side's port. -/
def portGroup : Side → Group
  | .e => .portE
  | .w => .portW

/-- The groups a command may change. Every other group, the straps and the queue of waiting commands among them, is as
before; a hard reset alone changes the straps. -/
def touches : Instr → List Group
  | .hardReset _ _ _ => [.straps, .portE, .portW, .timing, .ring, .members, .service, .plan, .present, .checker, .audio, .preamp,
      .tracking, .buses, .talk, .lines, .sets, .notices, .counters, .image]
  | .imageLoadComplete _ => [.portE, .portW, .timing, .ring, .plan, .present, .preamp, .tracking, .buses, .talk, .lines, .sets,
      .notices, .counters, .image]
  | .lightDetected _ => [.portE, .portW, .notices, .counters]
  | .lossOfLight _ => [.portE, .portW, .ring, .present, .lines, .notices, .counters]
  | .receiveFrame _ _ => [.portE, .portW, .timing, .ring, .members, .service, .plan, .present, .preamp, .tracking, .talk, .lines,
      .notices, .counters, .image]
  | .localFrameBoundary _ => [.portE, .portW, .timing, .ring, .members, .service, .plan, .present, .checker, .audio, .preamp,
      .tracking, .buses, .talk, .lines, .notices, .counters, .image]
  | .superframeBoundary _ => [.timing, .ring, .members, .service, .plan, .present, .checker, .preamp, .tracking, .talk, .lines,
      .notices, .counters, .image]
  | .masterAbsenceExpiry => [.timing, .ring, .present, .lines, .notices, .counters]
  | .isolationCountExpiry => [.members, .service, .preamp, .talk, .lines, .notices, .counters, .image]
  | .wrapHoldoffExpiry _ => [.ring, .present, .lines, .notices, .counters]
  | .restoreHoldExpiry _ => [.ring]
  | .unwrapApply _ => [.ring, .present, .lines, .notices, .counters]
  | .bankSwapApply => [.plan, .notices, .counters]
  | .preampChangeApply _ => [.preamp, .service, .tracking, .notices, .counters]
  | .trackingApply => [.tracking]
  | .graceExpiry _ => [.preamp, .notices, .counters]
  | .maxHoldExpiry _ => [.talk, .lines, .notices, .counters]
  | .rampExpiry _ => [.buses]
  | .debounceFlip _ => [.talk, .lines, .notices, .counters]
  | .ackDeadlineExpiry => [.preamp, .notices, .counters]
  | .converterAck _ _ => [.preamp]
  | .reloadPassTimeout => [.preamp]
  | .ringCellComplete => [.service, .counters]
  | .consoleCellReceived => [.service, .counters]
  | .writeTable => [.service]
  | .writeSlotEntry => [.service, .plan]
  | .writeDropEntry => [.service, .plan]
  | .writeDtrim => [.service, .plan]
  | .writeStrim => [.service, .tracking, .preamp]
  | .writeTrack => [.service, .tracking]
  | .writeBus => [.service, .buses]
  | .writeSend => [.service, .buses]
  | .writeTalksrc => [.service, .talk, .lines, .notices, .counters]
  | .writeLines => [.service, .talk, .lines, .notices, .counters]
  | .writeSets => [.service, .sets, .present]
  | .readTable => [.service, .portE, .portW]
  | .dataCellNext => [.service, .portE, .portW]
  | .readDoneAnswer => [.service]
  | .copyBank => [.service, .plan]
  | .swapBank => [.service, .plan]
  | .loop => [.service, .portE, .portW, .ring, .present, .lines, .notices, .counters]
  | .patternCheck => [.service, .checker]
  | .clearCounters => [.service, .counters, .buses]
  | .claim => [.service, .preamp, .notices, .counters]
  | .release => [.service, .preamp, .notices, .counters]
  | .setPreamp => [.service, .preamp]
  | .removeSend => [.service, .buses]
  | .talkPress => [.service, .talk, .lines, .notices, .counters]
  | .talkRelease => [.service, .talk, .lines, .notices, .counters]
  | .step => [.service, .tracking, .notices, .counters]
  | .store => [.service, .image]
  | .storeComplete _ => [.image, .notices, .counters]
  | .report => [.service, .image]
  | .reportFragment => [.service, .image]
  | .reportDone => [.service, .image]
  | .restart => [.members, .service, .plan, .present, .checker, .preamp, .tracking, .buses, .talk, .lines, .sets, .notices,
      .counters, .image]
  | .noticeSend => [.service, .notices]
  | .unknownAction => [.service]

/-- Every counter but those of a list is unchanged. -/
def CountersOutside (l : List CounterId) (s t : State) : Prop := ∀ c, c ∉ l → t.counter c = s.counter c

/-! ### Requests -/

/-- A cell of a kind and payload that this node sends to the origin of a request (R94, R185). -/
def sentTo (s : State) (req : Cell) (kind : Byte) (payload : List Byte) : Cell :=
  { dest := toNode req.origin, destConsole := req.originConsole, origin := s.id, originConsole := false, kind := kind
    tag := req.tag, length := payload.length, relayed := false, payload := .ofList 16 0 payload }

/-- The ANSWER to a request: its status code, its answer flags and its detail (R94, R186). -/
def answerTo (s : State) (req : Cell) (r : Reply) : Cell := sentTo s req 5 ([r.status.code, r.flags] ++ r.detail)

/-- A request leaves the head of the work queue with this answer placed in its origin's queue, and no other queue changes
(R93, R94). -/
def Answered (s t : State) (c : Cell) (r : Reply) : Prop :=
  t.service = { s.service with
    work := s.service.work.tail
    console := if s.fromOwnHost c then s.service.console ++ [answerTo s c r] else s.service.console
    outbound := if s.fromOwnHost c then s.service.outbound else s.service.outbound ++ [answerTo s c r] }

/-- An ACT of this action stands at the head with room for its answer, and its argument bytes are all there (R93, R96). -/
def ActReady (s : State) (c : Cell) (code args : Nat) : Prop :=
  s.request = some c ∧ c.acts code = true ∧ 1 + args ≤ c.length

/-- A WRITE of the one entry i of a table stands at the head with room for its answer, rightly formed (R93, R96, R186). -/
def WriteReady (s : State) (c : Cell) (t : Table) (i : Nat) : Prop :=
  s.request = some c ∧ c.kind? = some .write ∧ c.table? = some t ∧ c.first = i ∧ c.count = 1 ∧ c.length = 4 + t.size
    ∧ i < t.entries

/-- A WRITE of these entries of a table stands at the head with room for its answer, rightly formed (R93, R96, R186). -/
def WritesReady (s : State) (c : Cell) (t : Table) (first count : Nat) : Prop :=
  s.request = some c ∧ c.kind? = some .write ∧ c.table? = some t ∧ c.first = first ∧ c.count = count
    ∧ c.length = 4 + count * t.size ∧ 1 ≤ count ∧ count * t.size ≤ 12 ∧ first + count ≤ t.entries

/-- The bytes of the one entry a WRITE carries (R186). -/
def Cell.entryWritten (c : Cell) (t : Table) : List Byte := (c.payload.toList.drop 4).take t.size

/-- A port that examines what its receiver takes: enabled and lit (R4, R10). -/
def Port.listens (p : Port) : Prop := p.enabled = true ∧ p.flags.light = true

/-- What a port's receiver takes in one receive frame period: at most 407 bytes of the fibre, or in the INTERNAL loop its own
transmitted frame (R1, R17). -/
def Port.hears (p : Port) (period : List Byte) : List Byte := p.receiverBytes (period.take 407)

/-- The schedule entries that are due have left, the others staying in order. A table entry that no due one names is as
before, and one that a single due one names takes its amount, clamped to −128 to +127 (R131). -/
def ScheduleApplied (s t : State) (due : ScheduleEntry → Bool) : Prop :=
  t.tracking.strim = s.tracking.strim ∧ t.tracking.schedule = s.tracking.schedule.filter (fun x => !due x)
    ∧ (∀ k, (∀ x ∈ s.tracking.schedule, due x = true → x.stage.val * 64 + x.input ≠ k) →
        t.tracking.table.get k = s.tracking.table.get k)
    ∧ ∀ k x, k < 256 → s.tracking.schedule.filter (fun y => due y && y.stage.val * 64 + y.input == k) = [x] →
        t.tracking.table.get k = max (-128) (min (s.tracking.table.get k + x.amount) 127)

/-- One DATA cell with this payload is placed in the answer queue of a READ, and no other queue changes (R98). -/
def DataPlaced (s t : State) (c : Cell) (payload : List Byte) : Prop :=
  t.service = { s.service with
    reading := t.service.reading
    console := if s.fromOwnHost c then s.service.console ++ [sentTo s c 3 payload] else s.service.console
    outbound := if s.fromOwnHost c then s.service.outbound else s.service.outbound ++ [sentTo s c 3 payload] }

/-! ### Talk register -/

/-- A freshly loaded max-hold timer (R160). -/
def loadedTimer (s : State) : Option Nat := if s.sets.talkMaxHold = 0 then none else some (s.sets.talkMaxHold * 100)

/-- The source's audio is a ring slot that was STALE at the most recent presentation (R158). -/
def LostAudio (s : State) (i : Fin 8) : Prop :=
  ∃ sl, (s.talkSource i).audio = .ring sl ∧ (s.present.slots.get sl.val).state = .stale

/-- What a press of source i, by a cell or by a line, makes of the talk register, the notices and the counters: the first case
of R158 that applies, a press that finds both entries occupied being refused with its notice and count (R158, R160, R162). -/
def TalkPressed (s t : State) (i : Fin 8) : Prop :=
  let cls := (s.talkSource i).cls
  let row := s.rowOf i
  let able := (s.talkSource i).enabled = true ∧ ¬ LostAudio s i
  let quiet := t.notices = s.notices ∧ t.counters = s.counters
  t.talk.sources = s.talk.sources ∧ (∀ r, r ≠ cls → t.talkRow r = s.talkRow r)
  ∧ (¬ able → t.talk = s.talk ∧ quiet)
  ∧ (able → row.inService = some i → t.rowOf i = { row with timer := loadedTimer s } ∧ quiet)
  ∧ (able → row.inService ≠ some i → row.holding = some i → t.talk = s.talk ∧ quiet)
  ∧ (able → row.inService = none → row.holding ≠ some i →
      t.rowOf i = { row with inService := some i, timer := loadedTimer s } ∧ quiet)
  ∧ (∀ j, able → row.inService = some j → j ≠ i → row.holding = none →
      t.rowOf i = { row with holding := some i } ∧ quiet)
  ∧ ∀ j k, able → row.inService = some j → row.holding = some k → j ≠ i → k ≠ i → t.talk = s.talk
      ∧ t.counter .talkRefusals = min (s.counter .talkRefusals + 1) 65535 ∧ CountersOutside [.talkRefusals, .noticesLost] s t
      ∧ t.notices = (s.intake ⟨.talkRefused, i.val, [byte cls, byte j.val, byte k.val]⟩).notices

/-- What a release of source i makes of the talk register and the notices: one in service leaves, a holding source of its class
coming after it with a fresh timer; one holding leaves; one that is neither changes nothing. The TALK_ENDED notice names the
reason, the class, the entry left (in service 0, holding 1: DEDUCED, assumption log entry 30) and the source promoted (R159,
R186). -/
def TalkReleased (s t : State) (i : Fin 8) (reason : Nat) : Prop :=
  let cls := (s.talkSource i).cls
  let row := s.rowOf i
  let told := fun d => t.notices = (s.intake ⟨.talkEnded, i.val, byte reason :: byte cls :: d⟩).notices
    ∧ CountersOutside [.noticesLost] s t
  t.talk.sources = s.talk.sources ∧ (∀ r, r ≠ cls → t.talkRow r = s.talkRow r)
  ∧ (row.inService = some i → t.rowOf i = (match row.holding with
      | some j => ⟨some j, none, loadedTimer s⟩
      | none => ⟨none, none, none⟩)
    ∧ told [0, byte (row.holding.elim 255 Fin.val)])
  ∧ (row.inService ≠ some i → row.holding = some i → t.rowOf i = { row with holding := none } ∧ told [1, 0xFF])
  ∧ (row.inService ≠ some i → row.holding ≠ some i →
      t.talk = s.talk ∧ t.notices = s.notices ∧ t.counters = s.counters)

/-! ### Tables from the retained image -/

/-- The bytes of entry i of a chunk of the retained image, where the image has the chunk and the chunk the entry (R182, R188). -/
def storedEntry (s : State) (name : ChunkName) (size i : Nat) : Option (List Byte) :=
  let l := match s.image.retained with
    | some area => chunksOf area
    | none => []
  (chunk l name).bind fun d => if (i + 1) * size ≤ d.length then some ((d.drop (i * size)).take size) else none

/-- An entry takes the value its stored bytes spell, and its reset value where there are none or they spell none (R188). -/
def Reloaded {α : Type} (bytes : Option (List Byte)) (spell : List Byte → α → Prop) (reset new : α) : Prop :=
  (∀ b x, bytes = some b → spell b x → new = x) ∧ ((∀ b x, bytes = some b → ¬ spell b x) → new = reset)

/-- The tables of every role after a reload: slot and drop banks with bank A active, drop trims, SETS and LINES (R69, R87, R102,
R164, R182). Bytes that a selector does not use are ignored. -/
def TablesReloaded (s t : State) : Prop :=
  let stored := storedEntry s
  let slot : List Byte → SlotEntry → Prop := fun b x =>
    x.record = [byteAt b 0, byteAt b 1, if (byteAt b 1).toNat < 2 then byteAt b 2 else 0]
  let drop : List Byte → DropSource → Prop := fun b x =>
    x.record = [byteAt b 0, if byteAt b 0 = 3 then 0 else byteAt b 1] ∧ (s.isDesk = true → ∀ k, x ≠ .bus k)
  let line : List Byte → LineFunction → Prop := fun b x =>
    x.bytes = [byteAt b 0, if byteAt b 0 = 1 ∨ byteAt b 0 = 2 then byteAt b 1 else 0]
    ∧ (s.isDesk = true → x = .off ∨ x = .fault)
  let field := fun i lo hi default : Nat => (stored .sets 2 i).elim default fun b => max lo (min (wordAt b 0) hi)
  t.plan.active = .a ∧ t.plan.swap = none ∧ t.plan.outgoing = none
  ∧ (∀ i, i < 128 → Reloaded (stored .slta 3 i) slot ⟨none, .silent⟩ (t.plan.slotA.get i)
      ∧ Reloaded (stored .sltb 3 i) slot ⟨none, .silent⟩ (t.plan.slotB.get i))
  ∧ (∀ i, i < 64 → Reloaded (stored .drpa 2 i) drop .silent (t.plan.dropA.get i)
      ∧ Reloaded (stored .drpb 2 i) drop .silent (t.plan.dropB.get i)
      ∧ t.plan.dtrim.get i = (stored .dtrm 1 i).elim 0 fun b => min (byteAt b 0).toInt 63)
  ∧ (∀ n, n < 8 → Reloaded (stored .line 2 n) line .off (t.line n).function
      ∧ (t.line n).pressed = false ∧ (t.line n).changes = 0 ∧ (t.line n).sampled = none)
  ∧ t.sets = ⟨field 0 16 40 24, field 1 0 15 1, field 2 10 10000 500, field 3 0 60000 2000, field 4 0 600 0, field 5 0 3 1,
      field 6 0 3 0, (stored .sets 2 7).elim 8191 fun b => wordAt b 0 % 8192⟩

/-- The tables of a STAGE node alone after a reload: the gains of the preamps, phantom under the policy APPLY alone, as read at
the last hard reset (DEDUCED, assumption log entry 36), stage trims, bus records with their send lists, and talk sources (R105,
R124, R154, R155, R168, R182). A stored send whose source is invalid or already in its bus's list, or that finds the list full,
is skipped. -/
def StageTablesReloaded (s t : State) : Prop :=
  let stored := storedEntry s
  let sends := (List.range 512).filterMap (stored .send 4)
  let append := fun (n : Nat) (l : List Send) (b : List Byte) =>
    match parseSource (byteAt b 1).toNat (byteAt b 2).toNat with
    | some a =>
      if (byteAt b 0).toNat = n ∧ l.length < 32 ∧ ∀ x ∈ l, x.source ≠ a then l ++ [⟨a, (byteAt b 3).toNat, 0, false⟩] else l
    | none => l
  let talk : List Byte → TalkSource → Prop := fun b x =>
    x.audio.bytes = [byteAt b 1, byteAt b 2] ∧ x.enabled = (byteAt b 0).getLsbD 7 ∧ x.cls = min ((byteAt b 0).toNat % 16) 3
    ∧ x.targets.toNat = wordAt b 3
    ∧ x.trigger.map Fin.val = if (byteAt b 5).getLsbD 7 then some ((byteAt b 5).toNat % 8) else none
  (∀ n, n < 64 → (t.entry n).gain = (stored .pamp 2 n).elim ⟨0, false, false⟩ fun b =>
      ⟨min (byteAt b 0).toNat 40, (byteAt b 1).getLsbD 0, (byteAt b 1).getLsbD 1 && s.image.optn.applyPhantom⟩)
  ∧ (∀ n, n < 64 → t.tracking.strim.get n = (stored .strm 1 n).elim 0 fun b => (byteAt b 0).toInt)
  ∧ (∀ n, n < 16 →
      let value := fun i most => (stored .buss 4 n).elim 0 fun b => min (byteAt b i).toNat most
      t.bus n = { masterTarget := value 0 255, masterApplied := 0, talkLevel := value 1 255, duckDepth := value 2 64
                  duckApplied := 0, prescaler := value 3 15, ramp := 0, clips := 0, sends := sends.foldl (append n) []
                  rampTaken := false, duckBefore := none })
  ∧ ∀ i, Reloaded (stored .talk 6 i.val) talk ⟨false, 0, .localIn 0, 0, none⟩ (t.talkSource i)

/-! ### Cells on the lane -/

/-- The request level of a node whose step cell queue holds these records and whose other queues hold so many cells: a STEP cell
takes three records of one destination (R40, R127). -/
def requested (steps : List StepRecord) (cells : Nat) : Nat :=
  min 3 (((List.finRange 4).map fun d => (steps.countP (·.dest == d) + 2) / 3).sum + cells)

/-- What the node takes for cell time k from these queues: a STEP cell of the oldest record and the next two of its destination,
else the oldest relay cell, else the oldest outbound cell, else the empty cell. The cell leaves its queue, the others stay, and
the 24 bytes stand written out (R36, R127). Next targets that were waiting in s may add records behind those left (R116). -/
def CellTaken (s t : State) (k : Nat) (steps : List StepRecord) (relay outbound : List Cell) : Prop :=
  (∀ r l, steps = r :: l →
    let mine := (steps.filter (·.dest == r.dest)).take 3
    let payload := byte mine.length :: mine.flatMap fun x => [byte x.input, signedByte x.delta] ++ word16 x.apply ++ [byte x.exempt.val]
    let cell : Cell := { dest := toNode r.dest, destConsole := false, origin := t.id, originConsole := false, kind := 7, tag := 0
                         length := 1 + 5 * mine.length, relayed := false, payload := .ofList 16 0 payload }
    t.service.laneOut = some ⟨k, cell.encode⟩ ∧ (t.id = 0 → t.service.relay = relay) ∧ t.service.outbound = outbound
    ∧ ∃ left added, t.service.stepQueue = left ++ added ∧ left.Sublist steps
      ∧ left.filter (·.dest == r.dest) = (steps.filter (·.dest == r.dest)).drop 3
      ∧ left.filter (·.dest != r.dest) = steps.filter (·.dest != r.dest)
      ∧ ((∀ n, n < 64 → (s.entry n).next = none) → added = []))
  ∧ (steps = [] → t.service.stepQueue = []
    ∧ (∀ c l, relay = c :: l → t.service.laneOut = some ⟨k, c.encode⟩ ∧ t.service.relay = l ∧ t.service.outbound = outbound)
    ∧ (relay = [] → (t.id = 0 → t.service.relay = [])
      ∧ (∀ c l, outbound = c :: l → t.service.laneOut = some ⟨k, c.encode⟩ ∧ t.service.outbound = l)
      ∧ (outbound = [] → t.service.laneOut = some ⟨k, .fill 24 0⟩ ∧ t.service.outbound = [])))

/-- The routing of a checked cell that a node takes from the ring: a request for it or for ALL and a STEP cell for it go to the
work queue, a cell for its host to the console queue. A full work queue answers a request BUSY with the intake mark where the
outbound queue has room. What is discarded is counted, and a cell for another node is left in the lane (R90, R92, R185). -/
def RingRouted (s t : State) (c : Cell) : Prop :=
  let kind := c.kind.toNat
  let here := c.dest = toNode s.id
  let isRequest := kind = 1 ∨ kind = 2 ∨ kind = 4
  let forWork := (isRequest ∧ (here ∨ c.dest = toAll)) ∨ (kind = 7 ∧ here)
  let forHost := (kind = 3 ∨ kind = 5 ∨ kind = 6 ∨ kind = 8) ∧ here ∧ c.destConsole = true ∧ s.isDesk = true
  let elsewhere := ∃ d, d ≠ s.id ∧ c.dest = toNode d
  let queues := fun work outbound console => t.service.work = work ∧ t.service.outbound = outbound ∧ t.service.console = console
  let discarded := fun k => t.counter k = min (s.counter k + 1) 65535 ∧ CountersOutside [k] s t
  (elsewhere → queues s.service.work s.service.outbound s.service.console ∧ t.counters = s.counters)
  ∧ (forWork → s.service.work.length < 16 →
      queues (s.service.work ++ [c]) s.service.outbound s.service.console ∧ t.counters = s.counters)
  ∧ (forWork → 16 ≤ s.service.work.length → discarded .cellDiscards
      ∧ (isRequest → s.service.outbound.length < 16 →
          queues s.service.work (s.service.outbound ++ [answerTo s c ⟨.busy, 1, []⟩]) s.service.console)
      ∧ (¬ isRequest ∨ 16 ≤ s.service.outbound.length → queues s.service.work s.service.outbound s.service.console))
  ∧ (forHost → s.service.console.length < 16 →
      queues s.service.work s.service.outbound (s.service.console ++ [c]) ∧ t.counters = s.counters)
  ∧ (forHost → 16 ≤ s.service.console.length →
      queues s.service.work s.service.outbound s.service.console ∧ discarded .consoleDiscards)
  ∧ (¬ elsewhere → ¬ forWork → ¬ forHost →
      queues s.service.work s.service.outbound s.service.console ∧ discarded .cellDiscards)

/-- The routing of a cell from the host, its From field rewritten: a request goes to the work queue here, to the outbound queue
for a REACHABLE node, and for ALL to both together, or while the node is ISOLATED to the work queue alone with an UNREACHABLE
answer. A destination that is not REACHABLE, or any other while ISOLATED, is answered UNREACHABLE, one that is neither node nor
ALL BAD_INDEX. A full queue refuses the whole request with BUSY and the intake mark, and a full console queue loses the answer.
A cell that is no request is discarded (R91, R92). -/
def HostRouted (s t : State) (c : Cell) : Prop :=
  let kind := c.kind.toNat
  let isRequest := kind = 1 ∨ kind = 2 ∨ kind = 4
  let work := s.service.work
  let outbound := s.service.outbound
  let console := s.service.console
  let queues := fun w o => t.service.work = w ∧ t.service.outbound = o
  let taken := fun w o => queues w o ∧ t.service.console = console ∧ t.counters = s.counters
  let told := fun (r : Reply) (others : List CounterId) => CountersOutside (.consoleDiscards :: others) s t
    ∧ (console.length < 16 → t.service.console = console ++ [answerTo s c r]
        ∧ t.counter .consoleDiscards = s.counter .consoleDiscards)
    ∧ (16 ≤ console.length → t.service.console = console
        ∧ t.counter .consoleDiscards = min (s.counter .consoleDiscards + 1) 65535)
  let refused := queues work outbound ∧ told ⟨.busy, 1, []⟩ [.cellDiscards]
    ∧ t.counter .cellDiscards = min (s.counter .cellDiscards + 1) 65535
  let unserved := fun st => told (reply st [byte c.dest.val]) []
  (¬ isRequest → queues work outbound ∧ t.service.console = console ∧ CountersOutside [.cellDiscards] s t
      ∧ t.counter .cellDiscards = min (s.counter .cellDiscards + 1) 65535)
  ∧ (isRequest → c.dest = toNode s.id →
      (work.length < 16 → taken (work ++ [c]) outbound) ∧ (16 ≤ work.length → refused))
  ∧ (isRequest → c.dest = toAll → s.ring.state ≠ .isolated →
      (work.length < 16 → outbound.length < 16 → taken (work ++ [c]) (outbound ++ [c]))
      ∧ (16 ≤ work.length ∨ 16 ≤ outbound.length → refused))
  ∧ (isRequest → c.dest = toAll → s.ring.state = .isolated →
      (work.length < 16 → queues (work ++ [c]) outbound ∧ unserved .unreachable) ∧ (16 ≤ work.length → refused))
  ∧ (∀ d, isRequest → c.dest = toNode d → d ≠ s.id →
      (s.ring.state = .isolated ∨ s.isReachable d = false → queues work outbound ∧ unserved .unreachable)
      ∧ (s.ring.state ≠ .isolated → s.isReachable d = true →
          (outbound.length < 16 → taken work (outbound ++ [c])) ∧ (16 ≤ outbound.length → refused)))
  ∧ (isRequest → c.dest ≠ toAll → (∀ d : NodeId, c.dest ≠ toNode d) → queues work outbound ∧ unserved .badIndex)

/-! ### Laws of the device -/

/-- The notice queue never holds more than 16 notices, nor two of the same kind and subject (R170). -/
def NoticeLaw (s : State) : Prop :=
  s.notices.length ≤ 16 ∧ (s.notices.map fun n => (n.kind, n.subject)).Nodup

/-- Talk source i stands in row c, in service or holding. -/
def InRow (s : State) (c : Nat) (i : Fin 8) : Prop := (s.talkRow c).inService = some i ∨ (s.talkRow c).holding = some i

/-- In each class the holding entry is occupied only while the in-service entry is, a source stands in the row of its own
class alone, and in one entry of it (R157). -/
def TalkLaw (s : State) : Prop :=
  ∀ c, c < 4 → ((s.talkRow c).holding.isSome = true → (s.talkRow c).inService.isSome = true)
    ∧ (∀ i, (s.talkRow c).inService = some i → (s.talkRow c).holding ≠ some i)
    ∧ ∀ i, InRow s c i → (s.talkSource i).cls = c

/-- A bus's send list holds at most 32 sends and no two with the same source (R137). -/
def SendLaw (s : State) : Prop :=
  ∀ b, b < 16 → (s.bus b).sends.length ≤ 32 ∧ ((s.bus b).sends.map Send.source).Nodup

/-- The four arbitration ranks form a permutation of 0 to 3 (R41). -/
def RankLaw (s : State) : Prop := s.members.ranks.toList.Perm [0, 1, 2, 3]

/-- No queue holds more than its capacity (section 5.3.1, R38, R119, R120, R126, R130). -/
def QueueLaw (s : State) : Prop :=
  s.service.work.length ≤ 16 ∧ s.service.outbound.length ≤ 16 ∧ s.service.console.length ≤ 16
    ∧ s.service.relay.length ≤ 16 ∧ s.service.stepQueue.length ≤ 32 ∧ s.preamp.queue.length ≤ 16
    ∧ s.preamp.outstanding.length ≤ 48 ∧ s.tracking.schedule.length ≤ 32 ∧ s.preamp.reload.length ≤ 64

/-- The stored samples of each slot stand in rising positions of the presentation buffer, no two in one position (R77). -/
def FiledLaw (s : State) : Prop :=
  ∀ i, i < 128 → (s.present.slots.get i).filed.Pairwise fun x y => x.capture % 64 < y.capture % 64

/-- The local numbers and the two counts of frames and superframes stay within their ranges (R24, R33, R35). -/
def NumberLaw (s : State) : Prop :=
  s.timing.frame < 48 ∧ s.timing.superframe < 65536 ∧ s.timing.masterAbsence ≤ 8 ∧ s.members.isolation ≤ 8

/-- A port's LOCKED flag follows its lock state, and FAR_FAULT and TURNED are clear outside LOCKED (R8, R11). -/
def Port.flagLaw (p : Port) : Prop :=
  p.flags.locked = (p.lock == .locked) ∧ (p.lock ≠ .locked → p.flags.farFault = false ∧ p.flags.turned = false)

/-- Both ports keep their flags in step with their lock state (R8, R11). -/
def PortLaw (s : State) : Prop := s.portE.flagLaw ∧ s.portW.flagLaw

/-- A span record's fields fit its state: ready only while RESTORING or UNWRAP_PENDING, an unwrap superframe exactly in
UNWRAP_PENDING, and a namer only there (R49, R50, R53). -/
def Span.law (x : Span) : Prop :=
  (x.ready = true → x.state = .restoring ∨ x.state = .unwrapPending)
    ∧ (x.unwrap.isSome = true ↔ x.state = .unwrapPending) ∧ (x.namer = true → x.state = .unwrapPending)

/-- Both span records fit their states. -/
def SpanLaw (s : State) : Prop := s.ring.spanE.law ∧ s.ring.spanW.law

/-- A pending change's Δ is its target's effective steps less those applied now (R113, R117). -/
def DeltaLaw (s : State) : Prop :=
  ∀ n, n < 64 → ∀ c, (s.entry n).pending = some c → c.delta = c.target.effective - (s.entry n).gain.effective

/-- Four times the effective steps of an input plus its stage trim (R125). -/
def State.level (s : State) (n : Nat) : Int := 4 * (s.entry n).gain.effective + s.tracking.strim.get n

end Sys2Proof.Machine
end

