-- ==== Sys2Proof/Certificates/Slice0/Obligations.lean ====
section
/-! DEFINITION. The statements for the provers, in the order of OBLIGATIONS.json. Each docstring says what its Prop says;
the rules it rests on are its cites there. -/

open Sys2Proof Sys2Proof.Machine

/-- With a command at the front of its queue, a step is that command's execution on the state with the queue's rest. With an
empty queue a step answers the state unchanged, which is the model's choice (log entry 3). -/
def Obligations.StepRunsTheFrontCommand : Prop :=
  (∀ (s : State) (c : Instr) (rest : List Instr), s.pending = c :: rest → step s = exec c (s.setPending rest))
    ∧ ∀ s : State, s.pending = [] → step s = .next s

/-- Every command, in every state, answers a next state that agrees with the state before on every group that touches does
not list for that command. The straps change at a hard reset alone, and the queue of waiting commands at no command. -/
def Obligations.CommandsTouchOnlyTheirGroups : Prop :=
  ∀ (c : Instr) (s : State), ∃ t, exec c s = .next t ∧ OnlyIn (touches c) s t

/-- A hard reset reads the straps and leaves ports, counters, spans, reachability, lane grants, queues, banks, presentation,
checker, talk register, notices and counters at the values of the reset tables. The queue of waiting commands, a field of
the model's own, is kept. That the queue is kept is the model's choice (log entry 7). -/
def Obligations.HardResetTables : Prop :=
  ∀ (id : NodeId) (role : Role) (protect : Bool) (s : State), ∃ t, exec (.hardReset id role protect) s = .next t
    ∧ t.straps = ⟨id, role, protect⟩ ∧ t.pending = s.pending
    ∧ (∀ p, (t.port p).enabled = false ∧ (t.port p).lock = .hunt ∧ (t.port p).reference = none ∧ (t.port p).flags = .clear
        ∧ (t.port p).deltas = .clear ∧ (t.port p).loop = .off)
    ∧ t.timing.frame = 0 ∧ t.timing.superframe = 0 ∧ t.timing.clock = (if id = 0 then .free else .holdover)
    ∧ t.timing.masterAbsence = 0 ∧ t.ring.state = .dark
    ∧ (∀ p, (t.span p).state = .good ∧ (t.span p).holdoff = 0 ∧ (t.span p).restore = 0 ∧ (t.span p).ready = false
        ∧ (t.span p).unwrap = none ∧ (t.span p).partner = none)
    ∧ t.members.ringMap = (if id = 0 then [0] else []) ∧ (t.reachOf id).state = .reachable
    ∧ (∀ n, n ≠ id → (t.reachOf n).state = .unknown ∧ (t.reachOf n).present = 0 ∧ (t.reachOf n).absent = 0)
    ∧ t.members.isolation = 0 ∧ t.members.returnStore = none ∧ (∀ k, k < 6 → t.members.grants.get k = none)
    ∧ (∀ n, n < 4 → t.members.ranks.get n = n)
    ∧ t.service.work = [] ∧ t.service.outbound = [] ∧ t.service.console = [] ∧ t.service.stepQueue = []
    ∧ t.service.relay = [] ∧ t.service.reading = none
    ∧ t.plan.active = .a ∧ t.plan.swap = none ∧ t.plan.outgoing = none
    ∧ (∀ i, i < 128 → t.present.slots.get i = ⟨.stale, 0, []⟩) ∧ t.checker = ⟨false, 0, none⟩
    ∧ t.preamp.queue = [] ∧ t.preamp.outstanding = [] ∧ t.tracking.schedule = []
    ∧ (∀ k, k < 256 → t.tracking.table.get k = 0) ∧ (∀ c, c < 4 → t.talkRow c = ⟨none, none, none⟩)
    ∧ t.notices = [] ∧ (∀ c, t.counter c = 0) ∧ t.image.loader = .idle

/-- Right after a hard reset, an image read that the memory does not answer leaves SETS, both slot and drop banks, DTRIM,
PREAMP, STRIM, the tracking table, BUS with empty send lists, TALKSRC, the talk register and LINES at their reset values,
enables both ports, starts the local frame timer at frame 0, sets the ring state to FORMING, puts both spans into DEFECT with
the default hold-off 1, starts the reload pass at a STAGE node 0, and queues the IMAGE notice BAD with cause READ and the RING
notice. That the RING notice shows the spans before their defects are evaluated is the model's order (log entry 39), and the
first local frame is frame 0 (log entry 10). -/
def Obligations.StartUpWithoutImage : Prop :=
  ∀ (id : NodeId) (role : Role) (protect : Bool) (q : List Instr), ∃ t,
    exec (.imageLoadComplete none) (State.ofStraps id role protect q) = .next t
    ∧ (∀ p, (t.port p).enabled = true) ∧ t.timing.running = true ∧ t.timing.frame = 0 ∧ t.timing.superframe = 0
    ∧ t.ring.state = .forming ∧ (∀ p, (t.span p).state = .defect ∧ (t.span p).holdoff = 1)
    ∧ t.sets = ⟨24, 1, 500, 2000, 0, 1, 0, 8191⟩ ∧ t.image.optn = ⟨false, 4, 24⟩ ∧ t.image.retained = none
    ∧ t.image.loading = false ∧ t.present.delay = 24
    ∧ (∀ bank i, i < 128 → (t.plan.slots bank).get i = ⟨none, .silent⟩)
    ∧ (∀ bank i, i < 64 → (t.plan.drops bank).get i = .silent) ∧ (∀ i, i < 64 → t.plan.dtrim.get i = 0)
    ∧ (∀ n, n < 64 → t.entry n = ⟨⟨0, false, false⟩, none, .held, 0, none, none, false, false⟩)
    ∧ (∀ n, n < 64 → t.tracking.strim.get n = 0) ∧ (∀ k, k < 256 → t.tracking.table.get k = 0)
    ∧ (∀ b, b < 16 → t.bus b = ⟨0, 0, 0, 0, 0, 0, 0, 0, [], false, none⟩)
    ∧ (∀ i, t.talkSource i = ⟨false, 0, .localIn 0, 0, none⟩) ∧ (∀ c, c < 4 → t.talkRow c = ⟨none, none, none⟩)
    ∧ (∀ n, n < 8 → t.line n = ⟨.off, false, 0, none, none⟩)
    ∧ t.preamp.reload = (if role = .stage ∧ id = 0 then
        (List.range 64).map fun n => ⟨n / 16, n % 16, ⟨0, false, false⟩, 4⟩ else [])
    ∧ t.notices = [⟨.image, id.val, [2, 0], 1⟩, ⟨.ring, id.val, [1, 0, 0, 0, 0], 1⟩]

/-- The chunk area that a STORE builds from a state, behind its 11-byte header, passes the tests of the image; loading it at
a node of the same role gives exactly the slot banks, drop banks and drop trims of the stored state, with bank A active, no
swap pending and no outgoing plan, and keeps the area as the retained image. The premises say that the area fits, that the
trims are in range, and that a desk plays no bus. The number byte of an entry without a number is the model's choice (log
entry 29), and so is the order of the chunks (log entry 72). -/
def Obligations.StoredPlanRoundTrip : Prop :=
  ∀ (s u : State) (o : Optn),
    let area := s.storeArea o.bytes
    let memory := [0x4F#8, 0x4C#8, 0x54#8, 0x49#8, 1#8] ++ word16 area.length ++ crc32Bytes area ++ area
    area.length ≤ 4085 → u.image.loading = true → u.straps.role = s.straps.role →
    (∀ n, n < 64 → -128 ≤ s.plan.dtrim.get n ∧ s.plan.dtrim.get n ≤ 63) →
    (s.isDesk = true → ∀ bank n b, n < 64 → (s.plan.drops bank).get n ≠ .bus b) →
    ∃ t, exec (.imageLoadComplete (some memory)) u = .next t
      ∧ t.plan = { active := .a, swap := none, slotA := s.plan.slotA, slotB := s.plan.slotB, dropA := s.plan.dropA
                   dropB := s.plan.dropB, outgoing := none, dtrim := s.plan.dtrim }
      ∧ t.image.retained = some area ∧ t.image.loading = false

/-- For every cell whose Length fits one byte, the 24 bytes of its encoding have a CRC that matches and read back as the
same cell, every field at every value. That payload bytes beyond the Length are kept is the model's choice (log entry 68). -/
def Obligations.CellsReadBackAsWritten : Prop :=
  ∀ c : Cell, c.length < 256 → cellCrcOk c.encode.toList = true ∧ cellFields c.encode.toList = c

/-- For every primary or supervision frame with a frame number of 47 or less and a 16-bit superframe number, the bytes sent
on the fibre are judged good and read back as the same frame. With a frame number from 48 to 255 the same bytes are judged
bad, although the CRC matches. -/
def Obligations.FramesReadBackAsSent : Prop :=
  ∀ f : Frame, f.header.superframe < 65536 →
    (f.header.frame ≤ 47 → judgeFrame f.bytes = some f)
    ∧ (48 ≤ f.header.frame → f.header.frame < 256 → judgeFrame f.bytes = none)

/-- At an enabled port outside the INTERNAL loop, light sets LIGHT, and its delta where it changes; of the rest of the port
only the level at the fibre changes. Loss of light puts the port in HUNT without a reference, clears every flag, sets the
deltas of those that were set, leaves a LINE loop nothing to send on, and counts one lock loss exactly where the port was
LOCKED, whose partner id then clears. In the INTERNAL loop only the fibre's level and the LINE loop's bytes follow. A
disabled port does not notice either. The last clause is the model's reading (log entry 25). -/
def Obligations.LightAndItsLoss : Prop :=
  ∀ (p : Side) (s : State),
    ((s.port p).enabled = true → (s.port p).loop ≠ .internal →
      (∃ t, exec (.lightDetected p) s = .next t ∧ OnlyIn [portGroup p, .notices, .counters] s t
        ∧ t.port p = { s.port p with
            fibreLight := true, flags := { (s.port p).flags with light := true }
            deltas := { (s.port p).deltas with light := (s.port p).deltas.light || !(s.port p).flags.light } })
      ∧ ∃ t, exec (.lossOfLight p) s = .next t
        ∧ t.port p = { s.port p with
            fibreLight := false, received := [], lock := .hunt, reference := none, badRun := 0, flags := .clear
            deltas := (s.port p).deltas.union (s.port p).flags }
        ∧ t.port (oppositeSide p) = s.port (oppositeSide p)
        ∧ ((s.port p).lock = .locked →
            (t.span p).partner = none ∧ t.counter (lossCounter p) = min (s.counter (lossCounter p) + 1) 65535)
        ∧ ((s.port p).lock ≠ .locked → t.counter (lossCounter p) = s.counter (lossCounter p))
        ∧ CountersOutside [lossCounter p, .noticesLost] s t)
    ∧ ((s.port p).enabled = true → (s.port p).loop = .internal →
        exec (.lightDetected p) s = .next (s.setPort p { s.port p with fibreLight := true })
        ∧ exec (.lossOfLight p) s = .next (s.setPort p { s.port p with fibreLight := false, received := [] }))
    ∧ ((s.port p).enabled = false → exec (.lightDetected p) s = .next s ∧ exec (.lossOfLight p) s = .next s)

/-- A listening port that is not LOCKED counts nothing and delivers nothing: no slot is filed and no span record moves. In
HUNT a frame-0 marker makes the reference and anything else leaves HUNT. In PRESYNC a marker at the wrong place replaces the
reference, and a period without a marker lets the reference age by one period, up to 49. -/
def Obligations.MarkersOutsideLock : Prop :=
  ∀ (p : Side) (period : List Byte) (s : State), (s.port p).listens → (s.port p).lock ≠ .locked →
    (∀ r f, (s.port p).lock = .presync → (s.port p).reference = some r → judgeFrame ((s.port p).hears period) = some f →
      f.header.frame = 0 → r.age ≠ 47 ∨ f.header.superframe ≠ (r.superframe + 1) % 65536) →
    ∃ t, exec (.receiveFrame p period) s = .next t
      ∧ OnlyIn [portGroup p, .timing, .ring, .present, .lines, .notices, .counters] s t
      ∧ CountersOutside [.noticesLost] s t ∧ t.present.slots = s.present.slots ∧ (∀ q, t.span q = s.span q)
      ∧ (t.port p).flags = (s.port p).flags ∧ (t.port p).badRun = (s.port p).badRun
      ∧ (∀ f, judgeFrame ((s.port p).hears period) = some f → f.header.frame = 0 →
          (t.port p).lock = .presync ∧ (t.port p).reference = some ⟨f.header.superframe, 0⟩)
      ∧ ((∀ f, judgeFrame ((s.port p).hears period) = some f → f.header.frame ≠ 0) →
          (t.port p).lock = (s.port p).lock
          ∧ ∀ r, (s.port p).lock = .presync → (s.port p).reference = some r →
              (t.port p).reference = some ⟨r.superframe, min (r.age + 1) 49⟩)

/-- In LOCKED every good frame, and in PRESYNC a frame-0 marker 48 periods after the reference with the next superframe
number, leaves the port LOCKED with its bad-frame count 0 and FAR_FAULT and TURNED as the frame says. A supervision frame that
marks exactly one node names the partner, any other sets it to NONE, and its frame 0 gives the partner's ready flag. A primary
frame leaves the partner, its frame 0 clears that flag, and its other frames leave it, but for the local frame 0 of the span's
own unwrap superframe, where the delivery may come after the unwrap (log entry 6). A looped port's frame reaches the ring
controller alone: no slot is filed. -/
def Obligations.DeliveredFrames : Prop :=
  ∀ (p : Side) (period : List Byte) (s : State) (f : Frame), (s.port p).listens →
    judgeFrame ((s.port p).hears period) = some f →
    ((s.port p).lock = .locked ∨ (s.port p).lock = .presync ∧ ∃ r, (s.port p).reference = some r ∧ r.age = 47
      ∧ f.header.frame = 0 ∧ f.header.superframe = (r.superframe + 1) % 65536) →
    ∃ t, exec (.receiveFrame p period) s = .next t
      ∧ (t.port p).lock = .locked ∧ (t.port p).reference = none ∧ (t.port p).badRun = 0
      ∧ (t.port p).flags = ⟨true, true, f.header.farFault, f.header.turned⟩
      ∧ (∀ h, f = .supervision h →
          (∀ q, markedNodes h.presence = [q] → (t.span p).partner = some q)
          ∧ ((∀ q, markedNodes h.presence ≠ [q]) → (t.span p).partner = none)
          ∧ (t.span p).partnerReady = (if h.frame = 0 then h.restoreReady else (s.span p).partnerReady))
      ∧ (∀ h slots lane, f = .primary h slots lane → (t.span p).partner = (s.span p).partner
          ∧ (h.frame = 0 → (t.span p).partnerReady = false)
          ∧ (h.frame ≠ 0 → (s.span p).unwrap ≠ some s.timing.superframe ∨ s.timing.frame ≠ 0 →
              (t.span p).partnerReady = (s.span p).partnerReady))
      ∧ ((s.port p).loop ≠ .off → OnlyIn [portGroup p, .timing, .ring, .present, .lines, .notices, .counters] s t
          ∧ t.present.slots = s.present.slots)

/-- In LOCKED each bad frame adds one to the port's CRC error counter. Up to the third in a row the count of bad frames
rises and nothing else of the port changes but the bytes a LINE loop sends on; the fourth moves it to HUNT, clears LOCKED,
FAR_FAULT and TURNED with their deltas set, and counts one lock loss. No slot, cell or mark moves. -/
def Obligations.BadFramesCostLock : Prop :=
  ∀ (p : Side) (period : List Byte) (s : State), (s.port p).listens → (s.port p).lock = .locked →
    judgeFrame ((s.port p).hears period) = none →
    ∃ t, exec (.receiveFrame p period) s = .next t
      ∧ OnlyIn [portGroup p, .timing, .ring, .present, .lines, .notices, .counters] s t
      ∧ CountersOutside [crcCounter p, lossCounter p, .noticesLost] s t ∧ t.present.slots = s.present.slots
      ∧ t.counter (crcCounter p) = min (s.counter (crcCounter p) + 1) 65535
      ∧ ((s.port p).loop ≠ .line → (t.port p).received = (s.port p).received)
      ∧ ((s.port p).badRun < 3 →
          t.port p = { s.port p with badRun := (s.port p).badRun + 1, received := (t.port p).received }
          ∧ t.counter (lossCounter p) = s.counter (lossCounter p))
      ∧ (3 ≤ (s.port p).badRun →
          t.port p = { s.port p with
            lock := .hunt, reference := none, badRun := 0, flags := ⟨true, false, false, false⟩
            deltas := (s.port p).deltas.union { (s.port p).flags with light := false }, received := (t.port p).received }
          ∧ t.counter (lossCounter p) = min (s.counter (lossCounter p) + 1) 65535)

/-- A good primary frame of the accepted kind at the primary input, its span GOOD without defect, leaves by the primary output
in the same period: by E where port W takes it and span E is in service, back by the side it came by where the other span is
FAILED or RESTORING. Turned is clear at W and set at E on arrival, and set exactly where the frame leaves by W. Numbers,
origin flag and the marks and levels of the other nodes are as they came, the node's own role mark and request level are
written, far-fault is the output's local defect, restore-ready clear, and in frame 0 the node's id is appended to the trail.
Slots the node does not insert are as they came; those it inserts carry its local input, where channel 15 of a DESK node gives
0, its bus output, which is 0 at a DESK node, the test pattern at the local global frame count, or 0 for SILENT. The lane
carries the node's bytes of the frame in a cell time in which it writes a cell, and is as it came in any other. Where the
first frame of a cell time granted to the node passes, with the grants that a frame 0 brings, it takes a STEP cell, else its
oldest outbound cell, else the empty cell; where the cell time is not its own it writes none. The queues are those before the
frame where it is no jump and no frame 1. That unused bytes of 6 to 15 pass as they came is the model's choice (log entry 66).
The frame's samples are filed as SlotsPresentedOrConcealed says: into what was stored, or into nothing at a jump. That any
load to other numbers is a jump (log entry 12) and that the filing follows the taking (log entry 17) are the model's choice
and reading. Any other good primary frame changes only ports, ring state and clock, and D where a ring state follows: nothing
in it is taken. With both spans in service a turned one at E leaves by W in the same period, slots, lane and header as they
came but for the two flags of the side; no other is passed. Reserved flag bits are the sender's (log entry 66). -/
def Obligations.FramesForwarded : Prop :=
  (∀ (p out : Side) (period : List Byte) (s : State) (h : Header) (slots : Tab Sample 128) (lane : Lane),
    let beyond := (s.span (oppositeSide p)).state
    s.id ≠ 0 → (s.port p).listens → (s.port p).lock = .locked → (s.port p).loop = .off →
    (s.span p).state = .good → (s.span p).partner ≠ some s.id → (s.span p).partnerReady = false →
    (p = .w ∧ out = .e ∧ (beyond = .good ∨ beyond = .defect)) ∨ (out = p ∧ (beyond = .failed ∨ beyond = .restoring)) →
    judgeFrame ((s.port p).hears period) = some (.primary h slots lane) → h.turned = (p == .e) → h.farFault = false →
    let jumped := h.masterOrigin = true ∧ (h.superframe ≠ s.timing.superframe ∨ h.frame ≠ s.timing.frame)
    ∃ t h' slots' lane' steps cells, exec (.receiveFrame p period) s = .next t
      ∧ (t.port out).tx = some (.primary h' slots' lane') ∧ (∀ q, q ≠ out → (t.port q).tx = (s.port q).tx)
      ∧ h'.frame = h.frame ∧ h'.superframe = h.superframe ∧ h'.masterOrigin = h.masterOrigin ∧ h'.turned = (out == .w)
      ∧ h'.farFault = s.localDefect out ∧ h'.restoreReady = false
      ∧ h'.rest = (if h.frame = 0 then appendTrail h.rest s.id else h.rest)
      ∧ pairAt h'.presence s.id.val = roleMark s.straps.role
      ∧ (∀ n : NodeId, n ≠ s.id → pairAt h'.presence n.val = pairAt h.presence n.val
          ∧ pairAt h'.request n.val = pairAt h.request n.val)
      ∧ pairAt h'.request s.id.val = requested steps cells.length
      ∧ (h.frame ≠ 1 → s.service.stepQueue <+: steps ∧ s.service.outbound <+: cells
          ∧ (¬ jumped → steps = s.service.stepQueue ∧ cells = s.service.outbound))
      ∧ (h.frame = 0 → t.members.grants = h.grants ∧ t.members.ringMap = h.publishedMap)
      ∧ (h.frame % 8 = 0 → t.members.grants.get (h.frame / 8) = some s.id → CellTaken s t (h.frame / 8) steps [] cells)
      ∧ (h.frame % 8 ≠ 0 ∨ t.members.grants.get (h.frame / 8) ≠ some s.id →
          t.service.stepQueue = steps ∧ t.service.outbound = cells ∧ (h.frame % 8 = 0 → t.service.laneOut = none))
      ∧ (h.frame % 8 ≠ 0 → ¬ jumped → t.service.laneOut = s.service.laneOut)
      ∧ (∀ i, i < 128 → (t.activeSlots.get i).inserter ≠ some s.id → slots'.get i = slots.get i)
      ∧ (∀ i, i < 128 → t.activeSlots.get i = ⟨some s.id, .silent⟩ → slots'.get i = 0)
      ∧ (∀ i n, i < 128 → t.activeSlots.get i = ⟨some s.id, .localIn n⟩ →
          slots'.get i = if s.isDesk = true ∧ n = 15 then 0 else s.audio.localIn.get n.val)
      ∧ (∀ i b, i < 128 → t.activeSlots.get i = ⟨some s.id, .bus b⟩ →
          slots'.get i = if s.isDesk = true then 0 else s.audio.busOut.get b.val)
      ∧ (∀ i, i < 128 → t.activeSlots.get i = ⟨some s.id, .pattern⟩ →
          (slots'.get i).toInt = ((t.timing.superframe * 48 + t.timing.frame) % 3145728 * 5 % 16777216 : Nat) - 8388608)
      ∧ (t.service.laneOut = none → lane' = lane)
      ∧ (∀ o, t.service.laneOut = some o →
          (o.cellTime = h.frame / 8 → ∀ j, j < 3 → lane'.get j = o.bytes.get (3 * (h.frame % 8) + j))
          ∧ (o.cellTime ≠ h.frame / 8 → lane' = lane))
      ∧ (let stored := if jumped then s.present.slots.map fun p => { p with filed := [] } else s.present.slots
        let u := ((t.setPresent { t.present with slots := stored }).setCounters s.counters).fileRing
          ((h.superframe * 48 + h.frame) % 3145728) slots
        t.present.slots = u.present.slots ∧ t.counter .lateFrames = u.counter .lateFrames))
  ∧ ∀ (p : Side) (period : List Byte) (s : State) (h : Header) (slots : Tab Sample 128) (lane : Lane),
    let through := p = .e ∧ (s.ring.spanW.state = .good ∨ s.ring.spanW.state = .defect)
    (s.port p).listens → (s.port p).lock = .locked → (s.port p).loop = .off →
    (s.span p).state = .good → (s.span p).partner ≠ some s.id → (s.span p).partnerReady = false →
    through ∨ h.turned ≠ (p == .e) →
    judgeFrame ((s.port p).hears period) = some (.primary h slots lane) → h.farFault = false →
    ∃ t, exec (.receiveFrame p period) s = .next t
      ∧ OnlyIn [.portE, .portW, .timing, .ring, .present, .lines, .notices, .counters] s t
      ∧ t.timing = { s.timing with clock := t.timing.clock } ∧ t.present.slots = s.present.slots
      ∧ CountersOutside [.noticesLost] s t
      ∧ (through → h.turned = true → t.portE.tx = s.portE.tx
          ∧ t.portW.tx = some (.primary { h with farFault := s.localDefect .w, restoreReady := false } slots lane))
      ∧ (¬ through ∨ h.turned = false → ∀ q, (t.port q).tx = (s.port q).tx)

/-- While the timer runs, a boundary samples the inputs, and both ports then carry a frame numbered with the local frame and
superframe. Where the frame's work is not owed, the numbers advance, the superframe number from 47, and the master-absence
count rises to at most 8 or returns to 0. Where it is owed, the numbers stay. Node 0 with a primary output originates a
primary frame there: master origin set, turned as its side has it, its own mark alone, in frame 0 the grant list computed for
this superframe, its ring map and a trail of itself, in frame 1 the marks of the last returned frame or its own. A slot it
inserts carries the sample it files there: the local input, bus, pattern or silence its active entry names. Every other slot
carries the return store's sample, or 0. That list then leaves. The frame's work goes in the order of log entry 19, the
model's reading: converter line; presentation, tracking and lost talkers; at a STAGE node the sixteen buses; the node's own
samples, filed under the local count; console lane; outputs. A port that sends no primary frame then carries a supervision
frame built for its side: origin and turned clear, its own mark alone, all levels 0, the flags of the side, in frame 0 empty
lists, and in frame 2 the unwrap field of an UNWRAP_PENDING side with namer. At a DESK node the three bytes of input 15 join
the host's cell, at frame 8k the oldest console cell, else the empty cell, becomes the one sent, and output 15 carries its
bytes of the frame. As frame 8k of a cell time granted to it passes, node 0 takes a STEP cell, else its oldest relay cell,
else its oldest outbound cell, else the empty cell, and writes it in place of zeros; any other node takes none at a boundary.
Its header carries its level for those queues, formed before the cell is taken (log entry 52), and no other level. Before port
enable nothing happens. The owed case (log entry 5), the order of sending (13) and the last sentence but this (9) are the
model's reading. -/
def Obligations.LocalFrameBoundaryCounts : Prop :=
  ∀ (inputs : Tab Sample 64) (s : State),
    (s.timing.running = true → ∃ t, exec (.localFrameBoundary inputs) s = .next t
      ∧ t.timing.running = true ∧ t.timing.frameOwed = false ∧ t.audio.localIn = inputs
      ∧ (s.timing.frameOwed = false →
          t.timing.frame = (s.timing.frame + 1) % 48
          ∧ t.timing.superframe = (if s.timing.frame = 47 then (s.timing.superframe + 1) % 65536 else s.timing.superframe)
          ∧ t.timing.masterAbsence = (if s.timing.masterInPeriod then 0 else min (s.timing.masterAbsence + 1) 8))
      ∧ (s.timing.frameOwed = true → t.timing.frame = s.timing.frame ∧ t.timing.superframe = s.timing.superframe
          ∧ t.timing.masterAbsence = s.timing.masterAbsence)
      ∧ (∀ p, ∃ f, (t.port p).tx = some f ∧ f.header.frame = t.timing.frame ∧ f.header.superframe = t.timing.superframe)
      ∧ (∀ p, s.id ≠ 0 ∨ t.primaryOutput ≠ some p → ∃ h, (t.port p).tx = some (.supervision h)
          ∧ h.masterOrigin = false ∧ h.turned = false ∧ h.farFault = t.localDefect p ∧ h.restoreReady = t.sendsReady p
          ∧ h.presence = s.ownPresence ∧ h.request = 0
          ∧ (t.timing.frame = 0 → h.rest = .ofList 10 0 (List.replicate 7 0xFF#8))
          ∧ (∀ n, t.timing.frame = 2 → (t.span p).state = .unwrapPending → (t.span p).namer = true → (t.span p).unwrap = some n →
              h.rest = .ofList 10 0 ((if p = .e then 1#8 else 2#8) :: word16 n))
          ∧ (t.timing.frame ≠ 0 → t.timing.frame ≠ 2 ∨ (t.span p).state ≠ .unwrapPending ∨ (t.span p).namer = false →
              h.rest = .fill 10 0))
      ∧ (s.id = 0 → t.timing.frame = 0 → t.members.grants = (match s.members.nextGrants with
          | some g => if g.superframe = t.timing.superframe then g.list else .fill 6 none
          | none => .fill 6 none) ∧ t.members.nextGrants = none)
      ∧ (let counted := if s.timing.frameOwed then s else s.begin s.lines.levels
        let due := if s.timing.frameOwed = true ∨ counted.timing.frame = 0 then counted.settle else counted
        let a := ((due.setRaised []).setAudio { due.audio with localIn := inputs }).converterLine
        let p := a.presentFrame
        let m := if s.isStage then (List.range 16).foldl (fun x n => State.mixBus n x) p else p
        t.present.lastCapture = p.present.lastCapture ∧ t.tracking = p.tracking
        ∧ t.buses = m.buses ∧ t.audio.busOut = m.audio.busOut
        ∧ t.audio.localOut = m.fileOwn.consoleFrame.outputs.audio.localOut
        ∧ (s.isDesk = true →
            t.service.consoleIn.parts.get (t.timing.frame % 8) = some (.ofList 3 0 (sampleBytes (inputs.get 15)))
            ∧ sampleBytes (t.audio.localOut.get 15)
              = (List.range 3).map (fun i => t.service.consoleOut.get (3 * (t.timing.frame % 8) + i))
            ∧ (∀ c l, t.timing.frame % 8 = 0 → m.service.console = c :: l →
                t.service.console = l ∧ t.service.consoleOut = c.encode)
            ∧ (t.timing.frame % 8 = 0 → m.service.console = [] →
                t.service.console = [] ∧ t.service.consoleOut = .fill 24 0)
            ∧ (t.timing.frame % 8 ≠ 0 → t.service.consoleOut = m.service.consoleOut
                ∧ (s.id ≠ 0 ∨ t.timing.frame ≠ 1 → t.service.console = m.service.console)))
        ∧ (let k := t.timing.frame / 8
          let granted := t.timing.frame % 8 = 0 ∧ t.members.grants.get k = some 0
          (s.id = 0 → granted → CellTaken m t k m.service.stepQueue m.service.relay m.service.outbound)
          ∧ (s.id = 0 → ¬ granted →
              t.service.laneOut = (if t.timing.frame % 8 = 0 then none else m.service.laneOut)
              ∧ (t.timing.frame ≠ 1 → t.service.stepQueue = m.service.stepQueue ∧ t.service.relay = m.service.relay
                  ∧ t.service.outbound = m.service.outbound))
          ∧ (s.id ≠ 0 → t.service.laneOut = m.service.laneOut ∧ t.service.stepQueue = m.service.stepQueue
              ∧ t.service.outbound = m.service.outbound)
          ∧ ∀ out h slots lane, s.id = 0 → t.primaryOutput = some out → (t.port out).tx = some (.primary h slots lane) →
              pairAt h.request 0 = requested m.service.stepQueue (m.service.outbound.length + m.service.relay.length)
              ∧ (∀ n : NodeId, n ≠ 0 → pairAt h.request n.val = 0)
              ∧ (t.service.laneOut = none → lane = .fill 3 0)
              ∧ ∀ o, t.service.laneOut = some o →
                  (o.cellTime = k → ∀ j, j < 3 → lane.get j = o.bytes.get (3 * (t.timing.frame % 8) + j))
                  ∧ (o.cellTime ≠ k → lane = .fill 3 0))
        ∧ (∀ i, i < 128 → (t.activeSlots.get i).inserter ≠ some s.id → t.present.slots.get i = p.present.slots.get i)
        ∧ ∀ i, i < 128 → (t.activeSlots.get i).inserter = some s.id →
            t.present.slots.get i = { p.present.slots.get i with filed := (t.present.slots.get i).filed }
            ∧ ∃ v : Sample,
              (t.present.slots.get i).filed.find? (fun y => y.capture == t.count) = some ⟨t.count, v⟩
              ∧ (∀ n, (t.activeSlots.get i).source = .localIn n →
                  v = if s.isDesk = true ∧ n = 15 then 0 else inputs.get n.val)
              ∧ (∀ b, (t.activeSlots.get i).source = .bus b → v = if s.isDesk = true then 0 else t.audio.busOut.get b.val)
              ∧ ((t.activeSlots.get i).source = .pattern → v.toInt = (t.count * 5 % 16777216 : Nat) - 8388608)
              ∧ ((t.activeSlots.get i).source = .silent → v = 0)
              ∧ ∀ out h slots lane, s.id = 0 → t.primaryOutput = some out → (t.port out).tx = some (.primary h slots lane) →
                  slots.get i = v)
      ∧ ∀ out, s.id = 0 → t.primaryOutput = some out →
          ∃ h slots lane, (t.port out).tx = some (.primary h slots lane) ∧ h.masterOrigin = true ∧ h.turned = (out == .w)
            ∧ h.farFault = t.localDefect out ∧ h.restoreReady = t.sendsReady out ∧ h.presence = s.ownPresence
            ∧ (t.timing.frame = 0 → h.rest = frame0Rest t.members.grants s.members.ringMap [0])
            ∧ (t.timing.frame = 1 → h.rest = .ofList 10 0 [s.members.returnedMarks.getD s.ownPresence])
            ∧ (1 < t.timing.frame → h.rest = .fill 10 0)
            ∧ ∀ i, i < 128 → (t.activeSlots.get i).inserter ≠ some 0 →
                slots.get i = (match s.members.returnStore with
                  | some r => r.slots.get i
                  | none => 0))
    ∧ (s.timing.running = false → exec (.localFrameBoundary inputs) s = .next s)

/-- From local frame 47 a superframe boundary steps to frame 0 of the next superframe, leaving that frame's work owed (log
entry 5). It counts the isolation count from the ring state and owes its consequences where it reaches 8, samples every
TALK_BUTTON line and moves its change count, counts down every hold-off in DEFECT, restore count in RESTORING, grace timer
in GRACE and max-hold timer above 0, pulses the strobe at a STAGE node with the low four bits of the new number, and ends
the grant list at a node other than node 0. In any other frame nothing happens. The isolation count looks at the ring state
after an absence that ends there (log entry 20), and what stands due is taken first (log entry 6). -/
def Obligations.SuperframeBoundaryCounts : Prop :=
  ∀ (levels : Tab Bool 8) (s : State),
    (s.timing.running = true → s.timing.frameOwed = false → s.timing.frame = 47 →
      ∃ t, exec (.superframeBoundary levels) s = .next t
        ∧ t.timing.frame = 0 ∧ t.timing.superframe = (s.timing.superframe + 1) % 65536 ∧ t.timing.frameOwed = true
        ∧ t.members.isolation = (if t.ring.state = .isolated then min (s.members.isolation + 1) 8 else 0)
        ∧ (∀ n k, n < 8 → (t.line n).function = .talkButton k → (t.line n).sampled = some (levels.get n))
        ∧ (t.members.isolationOwed = true ↔ s.members.isolation < 8 ∧ t.members.isolation = 8)
        ∧ (∀ n k, n < 8 → (s.line n).function = .talkButton k → (s.line n).changes ≠ 4 →
            (t.line n).pressed = (s.line n).pressed
            ∧ (t.line n).changes = (if levels.get n = (s.line n).pressed then 0 else min ((s.line n).changes + 1) 4))
        ∧ (∀ p, (s.span p).state = .defect → 0 < (s.span p).holdoff →
            t.span p = { s.span p with holdoff := (s.span p).holdoff - 1 })
        ∧ (∀ p, (s.span p).state = .restoring → (s.span p).ready = false → 0 < (s.span p).restore →
            t.span p = { s.span p with restore := (s.span p).restore - 1 })
        ∧ (∀ n, n < 64 → (s.entry n).owner.isSome = true → (s.entry n).ownerState = .grace → 0 < (s.entry n).grace →
            (t.entry n).ownerState = .grace ∧ (t.entry n).grace = (s.entry n).grace - 1)
        ∧ (s.members.isolationOwed = false → (∀ n, n < 8 → (s.line n).changes ≠ 4) →
            (∀ r, r < 4 → (s.talkRow r).timer ≠ some 0) →
            ∀ r, r < 4 → t.talkRow r = { s.talkRow r with timer := (s.talkRow r).timer.map (· - 1) })
        ∧ (s.isStage = true → t.preamp.strobe = some (t.timing.superframe % 16))
        ∧ (s.id ≠ 0 → ∀ k, k < 6 → t.members.grants.get k = none))
    ∧ (s.timing.frame ≠ 47 → exec (.superframeBoundary levels) s = .next s)

/-- At a boundary that repeats nothing, a slot whose inserter is named and not UNREACHABLE presents the sample stored for the
capture frame and is GOOD; without one it presents seven eighths of its last value truncated toward zero, in CONCEAL unless it
was STALE. A slot whose inserter is NONE or UNREACHABLE is STALE and decays the same way; that one of inserter NONE is STALE
even with a sample stored is the model's choice (log entry 54). The concealed value never exceeds the last in magnitude. A
frame presents by the local count, the tracking entries due at the capture frame presented then apply, and at a STAGE node no
source of a STALE slot stays in the talk register. A frame taken with global frame count h files a slot under h where the
inserter at h lies before the node, at node 0 any other node, and else, at another node than node 0, under h − 1 where the
inserter there is another node that does not lie before it. The sample is stored, in place of what its position held, where
its capture frame is from f − D + 1 to f + 23; outside it is discarded, and the frame counts once as late. Slots of
UNREACHABLE inserters, and all others, stay as they are. That a node the map holds twice lies at its first entry is the
model's choice (log entry 57). At a frame's presentation a checker that is ON in that frame compares the slot it watches
there, where it is GOOD, with the pattern of the capture frame presented and counts a difference; where it is not GOOD it
counts a concealed frame. At a repeat, or in a frame that has it OFF, it counts nothing. -/
def Obligations.SlotsPresentedOrConcealed : Prop :=
  (∀ s : State,
    let t := s.presentFrame
    let c := (s.count + 3145728 - s.present.delay) % 3145728
    t.present = (s.presentSlots s.count).present
    ∧ ScheduleApplied s t (fun x => decide
        ((t.present.lastCapture + 3145728 - x.apply * 48 % 3145728) % 3145728 < 1572864))
    ∧ (s.isStage = true → TalkLaw s → ∀ r i sl, r < 4 → InRow t r i → (t.talkSource i).audio = .ring sl →
        (t.present.slots.get sl.val).state ≠ .stale)
    ∧ CountersOutside [.patternMismatches, .patternConcealed] s t
    ∧ (s.checker.watch = none ∨ s.repeats s.count = true → t.counters = s.counters)
    ∧ (∀ i, s.checker.watch = some i → s.repeats s.count = false →
        let q := t.present.slots.get i
        (q.state ≠ .good → t.counter .patternMismatches = s.counter .patternMismatches
          ∧ t.counter .patternConcealed = min (s.counter .patternConcealed + 1) 65535)
        ∧ (q.state = .good → t.counter .patternConcealed = s.counter .patternConcealed
          ∧ t.counter .patternMismatches = (if q.last.toInt = (c * 5 % 16777216 : Nat) - 8388608
              then s.counter .patternMismatches else min (s.counter .patternMismatches + 1) 65535))))
  ∧ (∀ (s : State) (h : Nat) (samples : Tab Sample 128),
    let t := s.fileRing h samples
    let prev := (h + 3145727) % 3145728
    let front : Nat → Prop := fun i => ∃ n, s.inserterAt h i = some n
      ∧ if s.id = 0 then n ≠ 0 else before s.members.ringMap n s.id = true
    let back : Nat → Prop := fun i => s.id ≠ 0 ∧ ∃ n, s.inserterAt prev i = some n ∧ n ≠ s.id
      ∧ before s.members.ringMap n s.id = false
    let files : Nat → Nat → Prop := fun i c => (front i ∧ c = h ∨ ¬ front i ∧ back i ∧ c = prev)
      ∧ ∀ n, s.inserterAt c i = some n → s.isUnreachable n = false
    let inWindow : Nat → Prop := fun c =>
      (c + 3145728 - (s.count + 3145729 - s.present.delay) % 3145728) % 3145728 < 1572864
      ∧ (s.count + 23 + 3145728 - c % 3145728) % 3145728 < 1572864
    OnlyIn [.present, .counters] s t ∧ CountersOutside [.lateFrames] s t
    ∧ t.present = { s.present with slots := t.present.slots }
    ∧ (∀ i c, i < 128 → files i c → inWindow c →
        let old := s.present.slots.get i
        let new := t.present.slots.get i
        new = { old with filed := new.filed }
        ∧ new.filed.find? (fun y => y.capture == c) = some ⟨c, samples.get i⟩
        ∧ (FiledLaw s → ∀ y, y ∈ new.filed ↔ y = ⟨c, samples.get i⟩ ∨ y ∈ old.filed ∧ y.capture % 64 ≠ c % 64))
    ∧ (∀ i, i < 128 → (∀ c, files i c → ¬ inWindow c) → t.present.slots.get i = s.present.slots.get i)
    ∧ ((∃ i c, i < 128 ∧ files i c ∧ ¬ inWindow c) →
        t.counter .lateFrames = min (s.counter .lateFrames + 1) 65535)
    ∧ ((∀ i c, i < 128 → files i c → inWindow c) → t.counters = s.counters))
  ∧ ∀ (s : State) (f slot : Nat), slot < 128 → s.repeats f = false →
    let c := s.captureFor f
    let old := s.present.slots.get slot
    let new := (s.presentSlots f).present.slots.get slot
    ((∀ n x, s.inserterAt c slot = some n → s.isUnreachable n = false →
        old.filed.find? (fun y => y.capture == c) = some x → new.state = .good ∧ new.last = x.value)
    ∧ (∀ n, s.inserterAt c slot = some n → s.isUnreachable n = false → (∀ x ∈ old.filed, x.capture ≠ c) →
        new.last.toInt = Int.tdiv (old.last.toInt * 7) 8 ∧ new.last.toInt.natAbs ≤ old.last.toInt.natAbs
        ∧ new.state = (if old.state = .stale then .stale else .conceal))
    ∧ ((∀ n, s.inserterAt c slot = some n → s.isUnreachable n = true) →
        new.last.toInt = Int.tdiv (old.last.toInt * 7) 8 ∧ new.state = .stale))

/-- With the master-absence count at 8, no master frame in the period under way, and the ring state neither DARK nor already
ISOLATED, the expiry makes the ring state ISOLATED, moves a LOCKED clock to HOLDOVER and leaves any other clock state, and
asserts every FAULT line. A master-origin frame at another node than node 0 loads the counters and leaves the clock LOCKED:
with the local numbers and a LOCKED clock it changes nothing, and other numbers are a jump, which clears every stored sample
while states and last values stay. The expiry is a command that acts when it stands due (log entry 6), and which frames load
the counters is the model's reading of alignment (log entry 12). -/
def Obligations.MasterAbsenceEndsTheRing : Prop :=
  (∀ (s : State) (h : Header),
    let t := s.clockLock h
    t.timing.superframe = h.superframe ∧ t.timing.frame = h.frame ∧ t.timing.clock = .locked
    ∧ (s.timing.superframe = h.superframe → s.timing.frame = h.frame → s.timing.clock = .locked → t = s)
    ∧ (s.timing.superframe ≠ h.superframe ∨ s.timing.frame ≠ h.frame → ∀ i, i < 128 →
        t.present.slots.get i = { s.present.slots.get i with filed := [] }))
  ∧ ∀ s : State, s.timing.masterAbsence = 8 → s.timing.masterInPeriod = false → s.ring.state ≠ .dark →
    s.ring.state ≠ .isolated →
    ∃ t, exec .masterAbsenceExpiry s = .next t
      ∧ OnlyIn [.timing, .ring, .present, .lines, .notices, .counters] s t
      ∧ t.ring.state = .isolated ∧ t.timing.clock = (if s.timing.clock = .locked then .holdover else s.timing.clock)
      ∧ (∀ p, t.span p = s.span p)
      ∧ ∀ n, n < 8 → (t.line n).function = .fault → (t.line n).output = some true

/-- Once the isolation count has reached 8 the expiry makes every other node's record UNREACHABLE, keeping its role and the
own record. At a STAGE node, each entry HELD by a node lost in this way, or by a roster, enters GRACE with SETS.orphan_grace
on its timer, or ORPHANED where that is 0; its owner stays. A roster taken moves the record of each other node: a mark counts
up to 2, where the record becomes REACHABLE, and gives the role; an ABSENT counts up to 8, where it becomes UNREACHABLE. The
own record stays. An entry in GRACE whose owner a roster makes REACHABLE again returns to HELD with timer 0, one of an owner
that stays REACHABLE and turns from DESK to STAGE goes to NONE, and every other owned entry keeps its owner, state and timer.
The expiry is a command that acts once, when it stands due (log entry 6). -/
def Obligations.IsolationLosesTheOthers : Prop :=
  (∀ (s : State) (roster : Byte),
    let t := s.takeRoster roster
    OnlyIn [.members, .service, .preamp, .talk, .lines, .notices, .counters, .image] s t
    ∧ t.reachOf s.id = s.reachOf s.id
    ∧ ∀ n : NodeId, n ≠ s.id →
        let old := s.reachOf n
        (∀ role, markRole roster n.val = some role → t.reachOf n = {
            state := if old.present + 1 < 2 then old.state else .reachable
            role := some role, present := min (old.present + 1) 2, absent := 0 })
        ∧ (markRole roster n.val = none → t.reachOf n = {
            state := if old.absent + 1 < 8 then old.state else .unreachable
            role := old.role, present := 0, absent := min (old.absent + 1) 8 })
        ∧ (s.isStage = true → ∀ i, i < 64 → (s.entry i).owner = some n →
            let e := s.entry i
            let e' := t.entry i
            let new := t.reachOf n
            let lost := old.state ≠ .unreachable ∧ new.state = .unreachable
            let back := old.state ≠ .reachable ∧ new.state = .reachable
            let demoted := old.state = .reachable ∧ new.state = .reachable ∧ old.role = some .desk ∧ new.role = some .stage
            (lost → e.ownerState = .held → e'.owner = some n
                ∧ (s.sets.orphanGrace = 0 → e'.ownerState = .orphaned ∧ e'.grace = 0)
                ∧ (s.sets.orphanGrace ≠ 0 → e'.ownerState = .grace ∧ e'.grace = s.sets.orphanGrace))
            ∧ (back → e.ownerState = .grace → e'.owner = some n ∧ e'.ownerState = .held ∧ e'.grace = 0)
            ∧ (demoted → e'.owner = none ∧ e'.grace = 0)
            ∧ (¬ demoted → ¬ (lost ∧ e.ownerState = .held) → ¬ (back ∧ e.ownerState = .grace) →
                e'.owner = e.owner ∧ e'.ownerState = e.ownerState ∧ e'.grace = e.grace)))
  ∧ ∀ s : State, s.members.isolationOwed = true →
    ∃ t, exec .isolationCountExpiry s = .next t ∧ t.members.isolationOwed = false
      ∧ OnlyIn [.members, .service, .preamp, .talk, .lines, .notices, .counters, .image] s t
      ∧ t.reachOf s.id = s.reachOf s.id
      ∧ (∀ n, n ≠ s.id → (t.reachOf n).state = .unreachable ∧ (t.reachOf n).role = (s.reachOf n).role)
      ∧ (s.isStage = true → ∀ i n, i < 64 → n ≠ s.id → s.isUnreachable n = false → (s.entry i).owner = some n →
          (s.entry i).ownerState = .held →
          (t.entry i).owner = some n
          ∧ (s.sets.orphanGrace = 0 → (t.entry i).ownerState = .orphaned)
          ∧ (s.sets.orphanGrace ≠ 0 → (t.entry i).ownerState = .grace ∧ (t.entry i).grace = s.sets.orphanGrace))

/-- A span in DEFECT with its hold-off at 0 and a local defect enters FAILED, and the ring state becomes the wrap of that
side, or ISOLATED without the other span or without a master. A RESTORING span whose restore count stands at 0 becomes
ready; where its partner is known, ready and of higher id, the node names an unwrap four superframes ahead. The other span
is as before. A ready RESTORING span at the higher-id end adopts the unwrap that a frame 2 names for the opposite side, one
to four superframes ahead of the frame's own number, as that many ahead of the local one; any other field leaves the node as
it is. The expiries are commands that act when they stand due (log entry 6). -/
def Obligations.SpanHoldsExpire : Prop :=
  ∀ (p : Side) (s : State),
    ((s.span p).state = .defect → (s.span p).holdoff = 0 → s.localDefect p = true → s.ring.state ≠ .dark →
      ∃ t, exec (.wrapHoldoffExpiry p) s = .next t ∧ OnlyIn [.ring, .present, .lines, .notices, .counters] s t
        ∧ (t.span p).state = .failed ∧ (t.span p).ready = false ∧ (t.span p).unwrap = none
        ∧ t.span (oppositeSide p) = s.span (oppositeSide p)
        ∧ t.ring.state = (if s.inService (oppositeSide p) = true ∧ s.timing.masterAbsence ≠ 8 then
            (if p = .e then .wrappedE else .wrappedW) else .isolated))
    ∧ ((s.span p).state = .restoring → (s.span p).ready = false → (s.span p).restore = 0 →
      ∃ t, exec (.restoreHoldExpiry p) s = .next t ∧ OnlyIn [.ring] s t ∧ t.ring.state = s.ring.state
        ∧ t.span (oppositeSide p) = s.span (oppositeSide p) ∧ (t.span p).ready = true
        ∧ ((∃ q, (s.span p).partner = some q ∧ (s.span p).partnerReady = true ∧ s.id < q) →
            (t.span p).state = .unwrapPending ∧ (t.span p).namer = true
            ∧ (t.span p).unwrap = some ((s.timing.superframe + 4) % 65536))
        ∧ ((¬ ∃ q, (s.span p).partner = some q ∧ (s.span p).partnerReady = true ∧ s.id < q) →
            (t.span p).state = .restoring))
    ∧ ∀ h : Header,
      (∀ q n, (s.span p).state = .restoring → (s.span p).ready = true → (s.span p).partner = some q → h.frame = 2 →
        h.unwrap = some (oppositeSide p, n) → q < s.id →
        let d := (n + 65536 - h.superframe % 65536) % 65536
        (1 ≤ d → d ≤ 4 → s.adoptUnwrap p h = s.setSpan p { s.span p with
            state := .unwrapPending, unwrap := some ((s.timing.superframe + d) % 65536), namer := false })
        ∧ (d = 0 ∨ 4 < d → s.adoptUnwrap p h = s))
      ∧ ((s.span p).state ≠ .restoring ∨ (s.span p).ready = false ∨ h.frame ≠ 2 ∨ (∀ n, h.unwrap ≠ some (oppositeSide p, n))
          ∨ (∀ q, (s.span p).partner = some q → s.id ≤ q) → s.adoptUnwrap p h = s)

/-- A span in UNWRAP_PENDING that stands at frame 0 of its unwrap superframe, without a defect of its side, becomes GOOD
with counts 0, ready, namer and partner ready clear and no unwrap superframe; the ring state follows the spans, the
master-absence count and whether a master frame has been taken. Anywhere else nothing happens. That a command not due does
nothing is the model's reading (log entries 6 and 9). -/
def Obligations.UnwrapRestoresTheSpan : Prop :=
  ∀ (p : Side) (s : State),
    ((s.span p).state = .unwrapPending → (s.span p).unwrap = some s.timing.superframe → s.timing.frame = 0 →
      s.localDefect p = false → (s.port p).flags.farFault = false → s.ring.state ≠ .dark →
      ∃ t, exec (.unwrapApply p) s = .next t ∧ OnlyIn [.ring, .present, .lines, .notices, .counters] s t
        ∧ t.span p = { s.span p with state := .good, holdoff := 0, restore := 0, ready := false, unwrap := none
                                     namer := false, partnerReady := false }
        ∧ t.span (oppositeSide p) = s.span (oppositeSide p)
        ∧ t.ring.state = (if s.timing.masterAbsence = 8 then .isolated
            else if s.inService (oppositeSide p) = false then (if p = .e then .wrappedW else .wrappedE)
            else if s.ring.masterTaken = true then .closed else .forming))
    ∧ ((s.span p).unwrap ≠ some s.timing.superframe ∨ s.timing.frame ≠ 0 → exec (.unwrapApply p) s = .next s)

/-- From ranks that form a permutation of 0 to 3 the arbiter fills six entries and leaves a permutation. Each node is
granted at most as many entries as its level, the list has a NONE entry only for want of levels, and each entry goes to
the requester of highest rank: its level falls by one, the ranks below its own rise by one and its own becomes 0. Without a
level left the entry is NONE and the ranks stay. A frame back at node 0 gives the return store its slots and count and the roster its marks. A
frame 0 gives the ring map its trail and, while the next frame 0 has not been originated, the arbiter its levels, for the
superframe after its own; a later one leaves ranks and list. A good frame of the accepted kind at node 0's primary input,
W with turned clear, or E with turned set where span W is out of service, does this, and its samples are filed as SlotsPresentedOrConcealed says. -/
def Obligations.ArbiterGrants : Prop :=
  (∀ (s : State) (h : Header) (slots : Tab Sample 128),
    let t := s.takeReturn h slots
    let r := Arbiter.fill 6 ⟨.ofFn 4 (pairAt h.request), s.members.ranks⟩
    OnlyIn [.members] s t ∧ t.members.reach = s.members.reach ∧ t.members.grants = s.members.grants
    ∧ t.members.returnStore = some ⟨(h.superframe * 48 + h.frame) % 3145728, slots⟩
    ∧ t.members.returnedMarks = some h.presence
    ∧ (h.frame = 0 → t.members.ringMap = h.trail
        ∧ (h.superframe = s.timing.superframe → t.members.ranks = r.2.ranks
            ∧ t.members.nextGrants = some ⟨(h.superframe + 1) % 65536, .ofList 6 none r.1⟩)
        ∧ (h.superframe ≠ s.timing.superframe → s.timing.frameOwed = false →
            t.members.ranks = s.members.ranks ∧ t.members.nextGrants = s.members.nextGrants))
    ∧ (h.frame ≠ 0 → t.members.ringMap = s.members.ringMap ∧ t.members.ranks = s.members.ranks
        ∧ t.members.nextGrants = s.members.nextGrants))
  ∧ (∀ (p : Side) (period : List Byte) (s : State) (h : Header) (slots : Tab Sample 128) (lane : Lane),
    s.id = 0 → (s.port p).listens → (s.port p).lock = .locked → (s.port p).loop = .off →
    (s.span p).state = .good → (s.span p).partner ≠ some s.id → (s.span p).partnerReady = false →
    p = .w ∨ (s.ring.spanW.state ≠ .good ∧ s.ring.spanW.state ≠ .defect) →
    judgeFrame ((s.port p).hears period) = some (.primary h slots lane) → h.turned = (p == .e) → h.farFault = false →
    ∃ t, exec (.receiveFrame p period) s = .next t ∧ t.members = (s.takeReturn h slots).members
      ∧ (let u := ((t.setPresent { t.present with slots := s.present.slots }).setCounters s.counters).fileRing
          ((h.superframe * 48 + h.frame) % 3145728) slots
        t.present.slots = u.present.slots ∧ t.counter .lateFrames = u.counter .lateFrames))
  ∧ (∀ (k : Nat) (levels ranks : Tab Nat 4), ranks.toList.Perm [0, 1, 2, 3] →
    let r := Arbiter.fill (k + 1) ⟨levels, ranks⟩
    (∀ w : NodeId, 0 < levels.get w.val → (∀ n : NodeId, 0 < levels.get n.val → ranks.get n.val ≤ ranks.get w.val) →
      let a : Arbiter := ⟨.ofFn 4 fun n => if n = w.val then levels.get n - 1 else levels.get n,
        .ofFn 4 fun n => if n = w.val then 0 else if ranks.get n < ranks.get w.val then ranks.get n + 1 else ranks.get n⟩
      r = (some w :: (Arbiter.fill k a).1, (Arbiter.fill k a).2))
    ∧ ((∀ n, n < 4 → levels.get n = 0) →
      r = (none :: (Arbiter.fill k ⟨levels, ranks⟩).1, (Arbiter.fill k ⟨levels, ranks⟩).2)))
  ∧ ∀ levels ranks : Tab Nat 4, ranks.toList.Perm [0, 1, 2, 3] →
    let r := Arbiter.fill 6 ⟨levels, ranks⟩
    r.1.length = 6 ∧ r.2.ranks.toList.Perm [0, 1, 2, 3]
    ∧ (∀ n : NodeId, r.1.count (some n) ≤ levels.get n.val)
    ∧ r.1.count none = 6 - levels.toList.sum
    ∧ ∀ w : NodeId, r.1.head? = some (some w) →
        0 < levels.get w.val ∧ ∀ n : NodeId, 0 < levels.get n.val → ranks.get n.val ≤ ranks.get w.val

/-- Where the node stands at frame 0 of the pending apply superframe, the active bank becomes the other one, the pending
record empties, the old active slot bank is kept as the outgoing plan, the entries of both banks stay, and a BANK notice is
raised. Anywhere else nothing happens. A load of the counters that lands on that frame 0 swaps the banks in the same way;
one that passes it empties the pending record, keeps the banks and raises a BANK notice; one that leaves it ahead changes
nothing. A load that finds the node at that frame 0 with the swap still untaken takes it first, and as a later jump ends its
outgoing plan. That a command not due does nothing, and that a load takes first what is due, is the model's reading (log
entries 6 and 9), and so is that the outgoing plan of a swap at the load that lands on its frame 0 stays after that load (log
entry 40). -/
def Obligations.BankSwapApplies : Prop :=
  (∀ (s : State) (old apply : Nat), s.plan.swap = some apply →
    let ahead := (apply + 65536 - s.timing.superframe % 65536) % 65536
    let was := (apply + 65536 - (old + 1) % 65536) % 65536
    let t := s.swapJump old
    OnlyIn [.plan, .notices, .counters] s t
    ∧ (apply = s.timing.superframe → s.timing.frame = 0 → t.plan = { s.plan with
          active := (if s.plan.active = .a then .b else .a), swap := none, outgoing := some ⟨apply, s.activeSlots⟩ })
    ∧ (was < 32768 → (32768 ≤ ahead ∨ (apply = s.timing.superframe ∧ 0 < s.timing.frame)) →
        t.plan = { s.plan with swap := none } ∧ ∃ d, t.raised = s.raised ++ [⟨.bank, s.id.val, d⟩])
    ∧ (apply ≠ s.timing.superframe → ahead < 32768 → t = s))
  ∧ (∀ (s : State) (superframe frame : Nat), s.plan.swap = some s.timing.superframe → s.timing.frame = 0 →
      (s.jump superframe frame).plan = { s.plan with
        active := (if s.plan.active = .a then .b else .a), swap := none, outgoing := none })
  ∧ ∀ s : State,
    (s.plan.swap = some s.timing.superframe → s.timing.frame = 0 →
      ∃ t, exec .bankSwapApply s = .next t ∧ OnlyIn [.plan, .notices, .counters] s t
        ∧ t.plan = { s.plan with active := (if s.plan.active = .a then .b else .a), swap := none
                                 outgoing := some ⟨s.timing.superframe, s.activeSlots⟩ }
        ∧ ∃ d, t.notices = (s.intake ⟨.bank, s.id.val, d⟩).notices ∧ t.counters = (s.intake ⟨.bank, s.id.val, d⟩).counters)
    ∧ (s.plan.swap ≠ some s.timing.superframe ∨ s.timing.frame ≠ 0 → exec .bankSwapApply s = .next s)

/-- Where a pending change stands due and its entry holds no next target, steps, pad and phantom take the target and the
change is cleared. The stage trim falls by four times the change unless the party is exempt or the change is 0; a trim that
leaves its range is clamped and sets the trim-limit flag. Gains and trims of the other inputs stay. At a jump a change for
the next four superframes stays pending; any other applies in the same way, and unless the load landed on its frame 0 its
converter status is UNCONFIRMED. A load that finds the node at frame 0 of a change's superframe with the change still untaken
takes it first, so it applies in full and its converter status stays. An examined next target of another owner or of an ORPHANED entry is discarded; where both
queues have room it becomes a pending change four superframes ahead with its step records and its converter command;
otherwise it stays. The change is a command that acts when it stands due, and a load takes first what is due (log entry
6). -/
def Obligations.PreampChangeApplies : Prop :=
  (∀ (s : State) (n : Nat) (c : PendingChange), n < 64 → s.isStage = true → (s.entry n).pending = some c →
    (s.entry n).next = none →
    let d := (c.apply + 65536 - s.timing.superframe % 65536) % 65536
    let x := s.tracking.strim.get n - 4 * c.delta
    let t := s.preampJump
    (1 ≤ d → d ≤ 4 → t.entry n = s.entry n ∧ t.tracking.strim.get n = s.tracking.strim.get n)
    ∧ (d = 0 ∨ 4 < d → (t.entry n).gain = c.target ∧ (t.entry n).pending = none
        ∧ (¬ (c.apply = s.timing.superframe ∧ s.timing.frame = 0) → (t.entry n).confirmed = false)
        ∧ t.tracking.strim.get n = (if s.party = c.exempt.val ∨ c.delta = 0 then s.tracking.strim.get n
            else max (-128) (min x 127))))
  ∧ (∀ (s : State) (n superframe frame : Nat) (c : PendingChange), n < 64 → (s.entry n).pending = some c →
      (s.entry n).next = none → s.timing.frame = 0 → c.apply = s.timing.superframe →
      let x := s.tracking.strim.get n - 4 * c.delta
      let t := s.jump superframe frame
      (t.entry n).gain = c.target ∧ (t.entry n).pending = none ∧ (t.entry n).confirmed = (s.entry n).confirmed
      ∧ t.tracking.strim.get n = (if s.party = c.exempt.val ∨ c.delta = 0 then s.tracking.strim.get n
          else max (-128) (min x 127)))
  ∧ (∀ (s : State) (n : Nat) (w : NextTarget), n < 64 → (s.entry n).next = some w → (s.entry n).pending = none →
    let e := s.entry n
    let delta := w.target.effective - e.gain.effective
    let apply := (s.timing.superframe + 4) % 65536
    let dests := (List.finRange 4).filter fun d => s.isReachable d && d != s.id && d != w.requester && delta != 0
    let t := State.promoteOne n s
    (∀ m, m ≠ n → t.entry m = s.entry m)
    ∧ (e.owner ≠ some w.requester ∨ e.ownerState = .orphaned → OnlyIn [.preamp, .notices] s t
        ∧ t.entry n = { e with next := none } ∧ ∃ d, t.raised = s.raised ++ [⟨.owner, n, d⟩])
    ∧ (e.owner = some w.requester → e.ownerState ≠ .orphaned →
        (s.service.stepQueue.length + dests.length ≤ 32 → s.preamp.queue.length < 16 →
          OnlyIn [.preamp, .service] s t
          ∧ t.entry n = { e with next := none, pending := some ⟨w.target, delta, apply, w.requester⟩ }
          ∧ t.service = { s.service with
              stepQueue := s.service.stepQueue ++ dests.map fun d => ⟨d, n, delta, apply, w.requester⟩ }
          ∧ t.preamp.queue = s.preamp.queue ++ [⟨n / 16, n % 16, w.target, apply⟩])
        ∧ (32 < s.service.stepQueue.length + dests.length ∨ 16 ≤ s.preamp.queue.length → t = s)))
  ∧ ∀ (n : Fin 64) (s : State) (c : PendingChange), (s.entry n.val).pending = some c → (s.entry n.val).next = none →
    s.timing.frame = 0 → c.apply = s.timing.superframe →
    ∃ t, exec (.preampChangeApply n) s = .next t ∧ OnlyIn [.preamp, .service, .tracking, .notices, .counters] s t
      ∧ (t.entry n.val).gain = c.target ∧ (t.entry n.val).pending = none
      ∧ (s.party = c.exempt.val ∨ c.delta = 0 →
          t.tracking.strim.get n.val = s.tracking.strim.get n.val ∧ (t.entry n.val).trimLimit = (s.entry n.val).trimLimit)
      ∧ (s.party ≠ c.exempt.val → c.delta ≠ 0 →
          let x := s.tracking.strim.get n.val - 4 * c.delta
          t.tracking.strim.get n.val = max (-128) (min x 127)
          ∧ (t.entry n.val).trimLimit = ((s.entry n.val).trimLimit || decide (x < -128 ∨ 127 < x)))
      ∧ ∀ m, m < 64 → m ≠ n.val →
          (t.entry m).gain = (s.entry m).gain ∧ t.tracking.strim.get m = s.tracking.strim.get m

/-- An entry in GRACE whose timer stands at 0 becomes ORPHANED; its owner and every other field of it stay, the other
entries stay, and an OWNER notice of the input is raised. An entry without an owner, in another state or with time left is
not touched. That a command not due does nothing is the model's reading (log entries 6 and 9). -/
def Obligations.GraceExpires : Prop :=
  ∀ (n : Fin 64) (s : State),
    ((s.entry n.val).owner.isSome = true → (s.entry n.val).ownerState = .grace → (s.entry n.val).grace = 0 →
      ∃ t, exec (.graceExpiry n) s = .next t ∧ OnlyIn [.preamp, .notices, .counters] s t
        ∧ t.entry n.val = { s.entry n.val with ownerState := .orphaned }
        ∧ (∀ m, m ≠ n.val → t.entry m = s.entry m)
        ∧ ∃ d, t.notices = (s.intake ⟨.owner, n.val, d⟩).notices)
    ∧ ((s.entry n.val).owner = none ∨ (s.entry n.val).ownerState ≠ .grace ∨ (s.entry n.val).grace ≠ 0 →
        exec (.graceExpiry n) s = .next s)

/-- While the local frame timer runs, every schedule entry whose apply capture frame is at or before the capture frame the
coming boundary presents leaves the schedule, the others staying in order. A table entry that none of them names is
unchanged, and one that a single entry names takes the amount, clamped to -128 to +127. At a jump the entries whose capture
frame does not lie within 232 frames from the one the next boundary presents do the same. Taking the event ahead of its
boundary is the model's choice (log entry 11). -/
def Obligations.TrackingApplies : Prop :=
  (∀ s : State, s.timing.running = true →
    ∃ t, exec .trackingApply s = .next t ∧ OnlyIn [.tracking] s t
      ∧ ScheduleApplied s t fun x => decide ((s.comingCapture + 3145728 - x.apply * 48 % 3145728) % 3145728 < 1572864))
  ∧ ∀ s : State, OnlyIn [.tracking] s s.trackJump
      ∧ ScheduleApplied s s.trackJump fun x =>
          decide (232 < (x.apply * 48 % 3145728 + 3145728 - s.comingCapture % 3145728) % 3145728)

/-- With a bus's ramp counter at 0 and its expiry not yet taken, the counter reloads from the prescaler, the master and every
send step one code toward their targets, the duck releases one code where the bus has no talker (the one BusesMixed spells),
and draining sends at 0 leave; the other buses stay. Taking the expiry ahead of its boundary is the model's choice (log entry
11): the talker at that boundary decides, so the duck moves there once, from its value before the expiry, one code toward its
depth under a talker and one toward 0 without. -/
def Obligations.RampsExpire : Prop :=
  ∀ (b : Fin 16) (s : State), s.isStage = true → s.timing.running = true → (s.bus b.val).ramp = 0 →
    (s.bus b.val).rampTaken = false →
    let toward := fun x target : Nat => if x < target then x + 1 else if target < x then x - 1 else x
    let old := s.bus b.val
    ∃ t, exec (.rampExpiry b) s = .next t ∧ OnlyIn [.buses] s t
      ∧ t.bus b.val = { old with
          ramp := old.prescaler
          masterApplied := toward old.masterApplied old.masterTarget
          duckApplied := if (s.talker b.val).isSome then old.duckApplied else old.duckApplied - 1
          sends := (old.sends.map fun x => { x with applied := toward x.applied x.target }).filter
            fun x => !(x.draining && x.applied == 0)
          rampTaken := true, duckBefore := some old.duckApplied }
      ∧ (∀ m, m ≠ b.val → t.bus m = s.bus m)
      ∧ ∀ talker, (t.bus b.val).boundary talker = { t.bus b.val with
          duckApplied := if talker then toward old.duckApplied old.duckDepth else old.duckApplied - 1
          rampTaken := false, duckBefore := none }

/-- Where a class's timer stands at 0, its in-service source leaves; a holding source is promoted with a timer of
SETS.talk_max_hold times 100, or none where that is 0, and without one the row is empty. The other rows and the source table
stay, and a TALK_ENDED notice of the released source is queued: reason TIMEOUT, the class, in service, and the source promoted
or 255. The expiry is a command that acts when it stands due (log entry 6), and the notice's byte for in service is the model's
reading (log entry 30). -/
def Obligations.MaxHoldTimesOut : Prop :=
  ∀ (c : Fin 4) (s : State) (i : Fin 8), (s.talkRow c.val).timer = some 0 → (s.talkRow c.val).inService = some i →
    (s.talkSource i).cls = c.val →
    ∃ t, exec (.maxHoldExpiry c) s = .next t ∧ OnlyIn [.talk, .lines, .notices, .counters] s t
      ∧ t.talk.sources = s.talk.sources
      ∧ t.talkRow c.val = (match (s.talkRow c.val).holding with
          | some j => ⟨some j, none, if s.sets.talkMaxHold = 0 then none else some (s.sets.talkMaxHold * 100)⟩
          | none => ⟨none, none, none⟩)
      ∧ (∀ d, d ≠ c.val → t.talkRow d = s.talkRow d) ∧ TalkReleased s t i 3

/-- A TALK_BUTTON line whose change count stands at 4 flips and its count becomes 0. Where the source's trigger names another
line or none, nothing else changes. Where it names this line, the flip to PRESSED is a press of the source, decided as one by
cell is: nothing where the source is disabled or its ring slot STALE, its timer afresh where it is in service, nothing where it
is holding, in service or holding where that entry is free, and refused with a count and a TALK_REFUSED notice where both are
taken. The flip back is its release with reason LINE: from service with a promotion, from holding, or nothing where it is in
neither. The flip is a command that acts when it stands due (log entry 6), and the byte of the TALK_ENDED notice for in service
or holding is the model's reading (log entry 30). -/
def Obligations.DebouncedLinesPress : Prop :=
  ∀ (n k : Fin 8) (s : State), (s.line n.val).changes = 4 → (s.line n.val).function = .talkButton k →
    ∃ t, exec (.debounceFlip n) s = .next t ∧ OnlyIn [.talk, .lines, .notices, .counters] s t
      ∧ (t.line n.val).pressed = (!(s.line n.val).pressed) ∧ (t.line n.val).changes = 0
      ∧ (t.line n.val).function = .talkButton k ∧ t.talk.sources = s.talk.sources
      ∧ ((s.talkSource k).trigger ≠ some n → OnlyIn [.lines] s t ∧ ∀ m, m ≠ n.val → t.line m = s.line m)
      ∧ ((s.talkSource k).trigger = some n → (s.talkSource k).cls < 4 →
          ((s.line n.val).pressed = false → TalkPressed s t k) ∧ ((s.line n.val).pressed = true → TalkReleased s t k 1))

/-- An acknowledgement takes the oldest outstanding command of its address and channel from the list and makes its entry
CONFIRMED; one that matches nothing is ignored. The oldest command at its deadline leaves, its entry UNCONFIRMED and one
converter fault counted. A STAGE node other than node 0 in HOLDOVER at superframe 64 without a pass starts it for superframe
68, one command for each fitted input as the table stands when the pass starts. That R179's table as loaded is the one of that
moment, kept in a list of the pass, is the model's reading (log entry 21). At the start of a frame the line transfers the next command of
the pass, or else of the queue, where its apply superframe is still to come: it shows on the line with the low four bits of
that number, and waits for its acknowledgement 48 frames. A late one leaves untransferred, its entry UNCONFIRMED and one
converter fault counted. A master-origin frame that finds the pass of superframe 64 due, with the local numbers or outside
frame 0, starts that one before it locks the clock, and no other. The expiries are commands that act when they stand due and otherwise do nothing, and a load takes first
what is due (log entries 6 and 9). That an acknowledgement or a deadline moves the status though a later command of the entry
has been sent, was late or was skipped is the model's choice (log entry 71). -/
def Obligations.ConverterAnswers : Prop :=
  (∀ (a : Fin 4) (ch : Fin 16) (s : State) (before after : List Outstanding) (o : Outstanding),
      s.preamp.outstanding = before ++ o :: after → o.command.address = a.val → o.command.channel = ch.val →
      (∀ x ∈ before, x.command.address ≠ a.val ∨ x.command.channel ≠ ch.val) →
      ∃ t, exec (.converterAck a ch) s = .next t ∧ OnlyIn [.preamp] s t ∧ t.preamp.outstanding = before ++ after
        ∧ t.entry (a.val * 16 + ch.val) = { s.entry (a.val * 16 + ch.val) with confirmed := true }
        ∧ ∀ m, m ≠ a.val * 16 + ch.val → t.entry m = s.entry m)
  ∧ (∀ (a : Fin 4) (ch : Fin 16) (s : State),
      (∀ x ∈ s.preamp.outstanding, x.command.address ≠ a.val ∨ x.command.channel ≠ ch.val) →
      exec (.converterAck a ch) s = .next s)
  ∧ (∀ (s : State) (o : Outstanding) (rest : List Outstanding), s.preamp.outstanding = o :: rest →
      (o.left = 0 → o.command.address < 4 → o.command.channel < 16 →
        ∃ t, exec .ackDeadlineExpiry s = .next t ∧ OnlyIn [.preamp, .notices, .counters] s t
          ∧ t.preamp.outstanding = rest ∧ (t.entry (o.command.address * 16 + o.command.channel)).confirmed = false
          ∧ t.counter .converterFaults = min (s.counter .converterFaults + 1) 65535
          ∧ CountersOutside [.converterFaults, .noticesLost] s t)
      ∧ (o.left ≠ 0 → exec .ackDeadlineExpiry s = .next s))
  ∧ (∀ (s : State) (c : ConvCommand) (l : List ConvCommand), s.isStage = true → s.preamp.outstanding.length < 48 →
      (∀ n, n < 64 → (s.entry n).next = none) →
      let ahead := (c.apply + 65536 - s.timing.superframe % 65536) % 65536
      let t := s.converterLine
      (1 ≤ ahead → ahead < 32768 →
        (s.preamp.reload = c :: l → t = s.setPreamp { s.preamp with
            reload := l, outstanding := s.preamp.outstanding ++ [⟨c, 48⟩]
            transfer := some ⟨c.address, c.channel, c.gain, c.apply % 16⟩ })
        ∧ (s.preamp.reload = [] → s.preamp.queue = c :: l → t = s.setPreamp { s.preamp with
            queue := l, outstanding := s.preamp.outstanding ++ [⟨c, 48⟩]
            transfer := some ⟨c.address, c.channel, c.gain, c.apply % 16⟩ }))
      ∧ (ahead = 0 ∨ 32768 ≤ ahead → s.preamp.reload = [] → s.preamp.queue = [c] → c.address < 4 → c.channel < 16 →
          OnlyIn [.preamp, .notices, .counters] s t ∧ t.preamp.queue = [] ∧ t.preamp.transfer = s.preamp.transfer
          ∧ t.preamp.outstanding = s.preamp.outstanding
          ∧ t.entry (c.address * 16 + c.channel) = { s.entry (c.address * 16 + c.channel) with confirmed := false }
          ∧ t.counter .converterFaults = min (s.counter .converterFaults + 1) 65535
          ∧ ∃ d, t.raised = s.raised ++ [⟨.converter, c.address * 16 + c.channel, 1 :: d⟩]))
  ∧ ∀ s : State, s.isStage = true → s.preamp.reloadStarted = false → s.timing.running = true → s.id ≠ 0 →
      s.timing.superframe = 64 → s.timing.clock = .holdover →
      ∃ t, exec .reloadPassTimeout s = .next t
        ∧ t.preamp = { s.preamp with
            reload := ((List.range 64).filter fun n => n / 16 < s.image.optn.converters).map fun n =>
              ⟨n / 16, n % 16, (s.entry n).gain, 68⟩
            reloadStarted := true }
        ∧ OnlyIn [.preamp] s t
        ∧ ∀ h : Header, (h.superframe = 64 ∧ h.frame = s.timing.frame) ∨ s.timing.frame ≠ 0 →
            (s.clockLock h).preamp.reload = t.preamp.reload ∧ (s.clockLock h).preamp.reloadStarted = true

/-- At the end of a cell time granted to another node, at a node other than node 0: missing lane bytes, and bytes whose CRC
does not match on a cell that is accepted, count one cell error and move no queue; empty bytes change nothing. A cell is
accepted unless it is a relayed copy whose From node does not lie after this node in path order, which is discarded without
counting. A checked and accepted cell is routed: a request for this node or ALL and a STEP cell for this node to the work queue,
any other kind for the host of a DESK node to the console queue. A full work queue answers a request BUSY with the intake mark;
what is discarded is counted; a cell for another node stays in the lane. Bytes already judged are not judged again. Node 0, once
the eighth frame has returned, also takes a checked cell of another node for relay where it is for ALL or for a node between
node 0 and its writer in path order, with the relayed flag set, a full relay queue counting a discard, and routes it in the same
way. That acceptance comes before the CRC check is the model's reading (log entry 18). That the command stands for the
end of the eighth frame's passage is the model's reading (log entries 15 and 48), and that payload bytes beyond the Length
stay as they came and a node the map holds twice lies at its first entry is its choice (log entries 57 and 68). -/
def Obligations.RingCellsJudged : Prop :=
  (∀ s : State, s.id ≠ 0 → s.service.laneIn.judged = true → exec .ringCellComplete s = .next s)
  ∧ (∀ (s : State) (w : NodeId) (parts : Tab Lane 8), s.id = 0 → s.timing.running = true → s.timing.frameOwed = false →
    s.timing.frame % 8 = 7 → s.service.laneIn.judged = false → s.service.laneLate = none → s.laneWriter = some w → w ≠ 0 →
    s.service.laneIn.parts = parts.map some →
    let bytes := parts.toList.flatMap Tab.toList
    let c := cellFields bytes
    let relays := c.dest = toAll ∨ ∃ d, c.dest = toNode d ∧ before s.members.ringMap 0 d = true ∧ before s.members.ringMap d w = true
    bytes.all (· == 0) = false →
    ∃ t, exec .ringCellComplete s = .next t ∧ OnlyIn [.service, .counters] s t ∧ t.service.laneIn.judged = true
      ∧ (cellCrcOk bytes = true → relays → s.service.relay.length < 16 →
          t.service.relay = s.service.relay ++ [{ c with relayed := true }])
      ∧ (cellCrcOk bytes = false ∨ ¬ relays ∨ 16 ≤ s.service.relay.length → t.service.relay = s.service.relay)
      ∧ (cellCrcOk bytes = true → c.relayed = false ∨ before s.members.ringMap 0 c.origin = true →
          (¬ relays ∨ s.service.relay.length < 16 → RingRouted s t c)
          ∧ (relays → 16 ≤ s.service.relay.length → RingRouted (s.bump .cellDiscards) t c))
      ∧ (cellCrcOk bytes = false → c.relayed = false → t.counter .cellErrors = min (s.counter .cellErrors + 1) 65535
          ∧ CountersOutside [.cellErrors] s t))
  ∧ ∀ (s : State) (w : NodeId), s.id ≠ 0 → s.timing.running = true → s.timing.frameOwed = false → s.timing.frame % 8 = 7 →
    s.service.laneIn.judged = false → s.laneWriter = some w → w ≠ s.id →
    ∃ t, exec .ringCellComplete s = .next t ∧ OnlyIn [.service, .counters] s t ∧ t.service.laneIn.judged = true
      ∧ ((∃ j, j < 8 ∧ s.service.laneIn.parts.get j = none) →
          t.counter .cellErrors = min (s.counter .cellErrors + 1) 65535
          ∧ t.service = { s.service with laneIn := { s.service.laneIn with judged := true } })
      ∧ (∀ parts : Tab Lane 8, s.service.laneIn.parts = parts.map some →
          let bytes := parts.toList.flatMap Tab.toList
          let c := cellFields bytes
          let judged := { s.service with laneIn := { s.service.laneIn with judged := true } }
          (bytes.all (· == 0) = true → t.counters = s.counters ∧ t.service = judged)
          ∧ (bytes.all (· == 0) = false → c.relayed = true → before s.members.ringMap s.id c.origin = false →
              t.counters = s.counters ∧ t.service = judged)
          ∧ (bytes.all (· == 0) = false → c.relayed = false ∨ before s.members.ringMap s.id c.origin = true →
              (cellCrcOk bytes = false → t.counter .cellErrors = min (s.counter .cellErrors + 1) 65535
                ∧ CountersOutside [.cellErrors] s t ∧ t.service = judged)
              ∧ (cellCrcOk bytes = true → RingRouted s t c ∧ t.service = { judged with
                  work := t.service.work, outbound := t.service.outbound, console := t.service.console })))

/-- At a DESK node out of DARK, at the end of a console cell time, a checked request from the host takes this node's id and
the console flag as its From field: one for this node enters the work queue, one for a REACHABLE node the outbound queue, and one
for ALL both together. While the node is ISOLATED one for ALL enters the work queue alone and is answered UNREACHABLE, and one for
another node, as at any time one for a node that is not REACHABLE, is only answered UNREACHABLE. A To field that names neither a
node nor ALL is answered BAD_INDEX, which counts no discard (log entry 62). A full queue refuses a request with BUSY and the intake
mark and counts a discard, a full console queue loses the answer and counts it, and a cell that is no request is discarded and
counted. An empty cell changes nothing, and a damaged one counts one cell error. In DARK a cell is discarded unexamined. The
bytes are taken once. The bytes of a frame that a counter load skipped are a free value (log entry 1), and the command stands for
the end of the eighth frame's passage (log entry 15). That payload bytes beyond the Length stay as they came is the model's
choice (log entry 68). -/
def Obligations.HostCellsTaken : Prop :=
  ∀ s : State, s.isDesk = true → s.timing.running = true → s.timing.frameOwed = false → s.timing.frame % 8 = 7 →
    (s.service.consoleIn.judged = true → exec .consoleCellReceived s = .next s)
    ∧ (s.service.consoleIn.judged = false →
      let bytes := s.consoleJoin
      let cell : Cell := { cellFields bytes with origin := s.id, originConsole := true }
      let judged := { s.service with consoleIn := { s.service.consoleIn with judged := true } }
      ∃ t, exec .consoleCellReceived s = .next t ∧ OnlyIn [.service, .counters] s t
        ∧ t.service = { judged with work := t.service.work, outbound := t.service.outbound, console := t.service.console }
        ∧ (s.ring.state = .dark ∨ bytes.all (· == 0) = true → t.service = judged ∧ t.counters = s.counters)
        ∧ (s.ring.state ≠ .dark → bytes.all (· == 0) = false →
            (cellCrcOk bytes = true → HostRouted s t cell)
            ∧ (cellCrcOk bytes = false → t.service = judged ∧ t.counter .cellErrors = min (s.counter .cellErrors + 1) 65535
                ∧ CountersOutside [.cellErrors] s t)))

/-- A WRITE or READ of an unknown table and an ACT of an unknown action are answered BAD_TABLE. At a DESK node a WRITE or READ
of PREAMP, STRIM, BUS, SEND, TALKSRC or TALKREG and an action of STAGE nodes alone are answered ROLE. A WRITE of NODE, PORTS,
REACH or COUNT, and at a STAGE node of TALKREG, is PROTECTED, and of PREAMP ROLE. A count of 0, entries beyond the table or the
payload, a Length that does not match the count, and a Length that does not cover an action's arguments are BAD_INDEX. Nothing
but the queues changes. That these answers carry no detail is the model's reading (log entry 28), and that the first payload
byte is read before the Length is looked at, so that a Length of 0 changes no answer before that check, is its choice (log
entry 35), and so is that a short Length is found before what the action's own rule tests, BUSY among it (log entry 73). -/
def Obligations.RefusedTablesAndActions : Prop :=
  ∀ (s : State) (c : Cell), s.request = some c →
    let refused : Instr → Status → Prop := fun i st =>
      ∃ t, exec i s = .next t ∧ OnlyIn [.service] s t ∧ Answered s t c (reply st [])
    let stageTables := [Table.preamp, .strim, .bus, .send, .talksrc, .talkreg]
    let written : List (Table × Instr) := [(.slotA, .writeSlotEntry), (.slotB, .writeSlotEntry), (.dropA, .writeDropEntry),
      (.dropB, .writeDropEntry), (.dtrim, .writeDtrim), (.strim, .writeStrim), (.track, .writeTrack), (.bus, .writeBus),
      (.send, .writeSend), (.talksrc, .writeTalksrc), (.lines, .writeLines), (.sets, .writeSets)]
    let stageActions : List (Nat × Nat × Instr) := [(0x10, 2, .claim), (0x11, 2, .release), (0x12, 4, .setPreamp),
      (0x20, 2, .removeSend), (0x30, 1, .talkPress), (0x31, 1, .talkRelease), (0x41, 0, .report)]
    let otherActions : List (Nat × Nat × Instr) := [(1, 0, .copyBank), (2, 2, .swapBank), (3, 2, .loop), (4, 2, .patternCheck),
      (5, 0, .clearCounters), (0x40, 4, .store), (0x42, 0, .restart)]
    (c.kind? = some .write →
      (c.table? = none → refused .writeTable .badTable)
      ∧ (∀ tb, c.table? = some tb → tb ∈ [Table.node, .ports, .reach, .count] ∨ (tb = .talkreg ∧ s.isStage = true) →
          refused .writeTable .isProtected)
      ∧ (c.table? = some .preamp ∨ (c.table? = some .talkreg ∧ s.isDesk = true) → refused .writeTable .role)
      ∧ ∀ tb i, (tb, i) ∈ written → c.table? = some tb →
          (tb ∈ stageTables → s.isDesk = true → refused i .role)
          ∧ (tb ∉ stageTables ∨ s.isStage = true →
              c.count = 0 ∨ tb.entries < c.first + c.count ∨ 12 < c.count * tb.size ∨ c.length ≠ 4 + c.count * tb.size →
              refused i .badIndex))
    ∧ (c.kind? = some .read →
      (c.table? = none → refused .readTable .badTable)
      ∧ ∀ tb, c.table? = some tb →
          (tb ∈ stageTables → s.isDesk = true → refused .readTable .role)
          ∧ (tb ∉ stageTables ∨ s.isStage = true →
              c.count = 0 ∨ tb.entries < c.first + c.count ∨ c.length ≠ 4 → refused .readTable .badIndex))
    ∧ (c.kind? = some .act →
      (c.arg 0 ∉ [1, 2, 3, 4, 5, 0x10, 0x11, 0x12, 0x20, 0x30, 0x31, 0x40, 0x41, 0x42] → refused .unknownAction .badTable)
      ∧ (∀ code args i, (code, args, i) ∈ stageActions → c.arg 0 = code →
          (s.isDesk = true → refused i .role) ∧ (s.isStage = true → c.length < 1 + args → refused i .badIndex))
      ∧ ∀ code args i, (code, args, i) ∈ otherActions → c.arg 0 = code → c.length < 1 + args → refused i .badIndex)

/-- A WRITE of one entry of the standby bank puts the entry whose bytes the payload spells in its place and is answered DONE;
no other entry of any bank changes. The same WRITE to the active bank is answered ACTIVE and changes nothing. A drop from a
bus at a DESK node is answered ROLE. A WRITE of several slot or drop entries takes each on its own. A slot entry is taken
where its inserter is 0 to 3 or 255 and its selector LOCAL of 0 to 63, BUS of 0 to 15, PATTERN or SILENT, a drop entry where
it is RING of 0 to 127, BUS of 0 to 15, LOCAL of 0 to 63 or SILENT; another is BAD_INDEX. The entries taken are put in their
places, the others keep their value, and the answer is that of R97 for what became of each. The number byte of a record
without a number is the model's choice (log entry 29). -/
def Obligations.SlotAndDropWrites : Prop :=
  (∀ (s : State) (c : Cell) (bank : Bank) (first count : Nat),
    WritesReady s c (if bank = .a then .dropA else .dropB) first count →
    let kind := fun k => c.arg (4 + 2 * k)
    let number := fun k => c.arg (5 + 2 * k)
    let fate : Nat → Taken := fun k =>
      if bank = s.plan.active then .refused .active
      else if kind k = 1 ∧ number k < 16 ∧ s.isDesk = true then .refused .role
      else if (kind k = 0 ∧ number k < 128) ∨ (kind k = 1 ∧ number k < 16) ∨ (kind k = 2 ∧ number k < 64) ∨ kind k = 3 then .taken
      else .refused .badIndex
    ∃ t, exec .writeDropEntry s = .next t ∧ OnlyIn [.service, .plan] s t ∧ t.plan = s.plan.setDrops bank (t.plan.drops bank)
      ∧ (∀ j, j < first ∨ first + count ≤ j → (t.plan.drops bank).get j = (s.plan.drops bank).get j)
      ∧ (∀ k, k < count → fate k ≠ .taken → (t.plan.drops bank).get (first + k) = (s.plan.drops bank).get (first + k))
      ∧ (∀ k, k < count → fate k = .taken → ((t.plan.drops bank).get (first + k)).record
          = [byte (kind k), if kind k = 3 then 0 else byte (number k)])
      ∧ Answered s t c (writeReply (if bank = .a then .dropA else .dropB) ((List.range count).map fun k => (first + k, fate k))))
  ∧ (∀ (s : State) (c : Cell) (bank : Bank) (first count : Nat),
    WritesReady s c (if bank = .a then .slotA else .slotB) first count →
    let inserter := fun k => c.arg (4 + 3 * k)
    let kind := fun k => c.arg (5 + 3 * k)
    let number := fun k => c.arg (6 + 3 * k)
    let fate : Nat → Taken := fun k =>
      if bank = s.plan.active then .refused .active
      else if (inserter k < 4 ∨ inserter k = 255)
          ∧ ((kind k = 0 ∧ number k < 64) ∨ (kind k = 1 ∧ number k < 16) ∨ kind k = 2 ∨ kind k = 3) then .taken
      else .refused .badIndex
    ∃ t, exec .writeSlotEntry s = .next t ∧ OnlyIn [.service, .plan] s t ∧ t.plan = s.plan.setSlots bank (t.plan.slots bank)
      ∧ (∀ j, j < first ∨ first + count ≤ j → (t.plan.slots bank).get j = (s.plan.slots bank).get j)
      ∧ (∀ k, k < count → fate k ≠ .taken → (t.plan.slots bank).get (first + k) = (s.plan.slots bank).get (first + k))
      ∧ (∀ k, k < count → fate k = .taken → ((t.plan.slots bank).get (first + k)).record
          = [byte (inserter k), byte (kind k), if kind k < 2 then byte (number k) else 0])
      ∧ Answered s t c (writeReply (if bank = .a then .slotA else .slotB) ((List.range count).map fun k => (first + k, fate k))))
  ∧ ∀ (s : State) (c : Cell) (bank : Bank) (i : Nat),
    (∀ e : SlotEntry, WriteReady s c (if bank = .a then .slotA else .slotB) i →
      c.entryWritten .slotA = e.record →
      ∃ t, exec .writeSlotEntry s = .next t
        ∧ (bank ≠ s.plan.active → t.plan = s.plan.setSlots bank ((s.plan.slots bank).put i e)
            ∧ OnlyIn [.service, .plan] s t ∧ Answered s t c (reply .done [1]))
        ∧ (bank = s.plan.active → OnlyIn [.service] s t ∧ Answered s t c (reply .active [byte i, 1])))
    ∧ (∀ e : DropSource, WriteReady s c (if bank = .a then .dropA else .dropB) i →
      c.entryWritten .dropA = e.record →
      ∃ t, exec .writeDropEntry s = .next t
        ∧ (bank ≠ s.plan.active → (s.isStage = true ∨ ∀ b, e ≠ .bus b) →
            t.plan = s.plan.setDrops bank ((s.plan.drops bank).put i e)
            ∧ OnlyIn [.service, .plan] s t ∧ Answered s t c (reply .done [1]))
        ∧ (bank ≠ s.plan.active → s.isDesk = true → (∃ b, e = .bus b) →
            OnlyIn [.service] s t ∧ Answered s t c (reply .role [byte i, 1]))
        ∧ (bank = s.plan.active → OnlyIn [.service] s t ∧ Answered s t c (reply .active [byte i, 1])))

/-- A WRITE of one DTRIM entry stores the signed byte brought to at most +63, answered DONE or CLAMPED. One of STRIM at a
STAGE node stores it and clears the input's trim-limit flag, and one of TRACK stores it. One of a BUS record sets its written
fields, duck values brought to at most 64 and CLAMPED exactly where one was above, and leaves the send list. Every other entry
stays. A WRITE of several DTRIM, STRIM or TRACK entries stores each, clears the trim-limit flag of each input it gives an
STRIM value, and leaves every entry outside its range. The answer to any WRITE is DONE with the entry count where every entry
is taken as written; CLAMPED with the first clamped index where none is refused; where all are refused the first one's code
with its index and their number; and else PARTIAL with the first refused index, its code and the number refused. That the duck
value written also ends an early expiry's hold on it is the model's choice (log entry 11). -/
def Obligations.TrimAndBusWrites : Prop :=
  (∀ (s : State) (c : Cell) (first count : Nat), WritesReady s c .dtrim first count →
    let x := fun k => (byteAt c.payload.toList (4 + k)).toInt
    ∃ t, exec .writeDtrim s = .next t ∧ OnlyIn [.service, .plan] s t ∧ t.plan = { s.plan with dtrim := t.plan.dtrim }
      ∧ (∀ j, j < first ∨ first + count ≤ j → t.plan.dtrim.get j = s.plan.dtrim.get j)
      ∧ (∀ k, k < count → t.plan.dtrim.get (first + k) = min (x k) 63)
      ∧ Answered s t c (writeReply .dtrim ((List.range count).map fun k =>
          (first + k, if x k ≤ 63 then Taken.taken else .clamped))))
  ∧ (∀ (s : State) (c : Cell) (first count : Nat),
    let x := fun k => (byteAt c.payload.toList (4 + k)).toInt
    let outside := fun j => j < first ∨ first + count ≤ j
    (WritesReady s c .strim first count → s.isStage = true →
      ∃ t, exec .writeStrim s = .next t ∧ OnlyIn [.service, .tracking, .preamp] s t
        ∧ t.tracking = { s.tracking with strim := t.tracking.strim }
        ∧ t.preamp = { s.preamp with entries := t.preamp.entries }
        ∧ (∀ j, outside j → t.tracking.strim.get j = s.tracking.strim.get j ∧ t.entry j = s.entry j)
        ∧ (∀ k, k < count → t.tracking.strim.get (first + k) = x k
            ∧ t.entry (first + k) = { s.entry (first + k) with trimLimit := false })
        ∧ Answered s t c (reply .done [byte count]))
    ∧ (WritesReady s c .track first count →
      ∃ t, exec .writeTrack s = .next t ∧ OnlyIn [.service, .tracking] s t
        ∧ t.tracking = { s.tracking with table := t.tracking.table }
        ∧ (∀ j, outside j → t.tracking.table.get j = s.tracking.table.get j)
        ∧ (∀ k, k < count → t.tracking.table.get (first + k) = x k)
        ∧ Answered s t c (reply .done [byte count])))
  ∧ (∀ (tb : Table) (l : List (Nat × Taken)), (∀ x ∈ l, x.2 = .taken) → writeReply tb l = reply .done [byte l.length])
  ∧ (∀ (tb : Table) (l after : List (Nat × Taken)) (i : Nat), (∀ x ∈ l, x.2 = .taken) →
      (∀ x ∈ after, x.2 = .taken ∨ x.2 = .clamped) →
      writeReply tb (l ++ (i, .clamped) :: after) = reply .clamped (tb.indexBytes i))
  ∧ (∀ (tb : Table) (l after : List (Nat × Taken)) (i : Nat) (st : Status), (∀ x ∈ l, x.2 = .taken ∨ x.2 = .clamped) →
      let n := 1 + after.countP fun x => decide (x.2 ≠ .taken ∧ x.2 ≠ .clamped)
      writeReply tb (l ++ (i, .refused st) :: after)
        = if n = l.length + 1 + after.length then reply st (tb.indexBytes i ++ [byte n])
          else reply .partly (tb.indexBytes i ++ [st.code, byte n]))
  ∧ ∀ (s : State) (c : Cell) (i : Nat),
    let x := (byteAt c.payload.toList 4).toInt
    (WriteReady s c .dtrim i → ∃ t, exec .writeDtrim s = .next t ∧ OnlyIn [.service, .plan] s t
      ∧ t.plan = { s.plan with dtrim := s.plan.dtrim.put i (min x 63) }
      ∧ Answered s t c (if x ≤ 63 then reply .done [1] else reply .clamped [byte i]))
    ∧ (WriteReady s c .strim i → s.isStage = true →
      ∃ t, exec .writeStrim s = .next t ∧ OnlyIn [.service, .tracking, .preamp] s t
        ∧ t.tracking = { s.tracking with strim := s.tracking.strim.put i x }
        ∧ t.preamp = { s.preamp with entries := s.preamp.entries.put i { s.entry i with trimLimit := false } }
        ∧ Answered s t c (reply .done [1]))
    ∧ (WriteReady s c .track i → ∃ t, exec .writeTrack s = .next t ∧ OnlyIn [.service, .tracking] s t
      ∧ t.tracking = { s.tracking with table := s.tracking.table.put i x } ∧ Answered s t c (reply .done [1]))
    ∧ (WriteReady s c .bus i → s.isStage = true →
      ∃ t, exec .writeBus s = .next t ∧ OnlyIn [.service, .buses] s t
        ∧ t.bus i = { s.bus i with
            masterTarget := c.arg 4, masterApplied := c.arg 5, talkLevel := c.arg 6, duckDepth := min (c.arg 7) 64
            duckApplied := min (c.arg 8) 64, prescaler := c.arg 9 % 16, ramp := c.arg 9 / 16
            clips := c.arg 11 + 256 * c.arg 12, duckBefore := none }
        ∧ (∀ m, m ≠ i → t.bus m = s.bus m)
        ∧ Answered s t c (if c.arg 7 ≤ 64 ∧ c.arg 8 ≤ 64 then reply .done [1] else reply .clamped [byte i]))

/-- A WRITE of one SEND entry whose bytes spell no source is BAD_INDEX. With a source, at position p of bus b: at the send's
own position with the same source it sets the target and ends a drain; another source there is SOURCE_FIXED, or FULL from a
full list that lacks it; at the send count an absent source is appended with applied code 0, a draining one is taken over in
place, and a present one that is not draining is DUPLICATE. A position above the count is BAD_INDEX. A WRITE of two entries that
begins at the send count judges the second by the list the first has left: two absent sources are both appended, and the same
source twice is appended once and answered PARTIAL with the second's index, DUPLICATE and 1. -/
def Obligations.SendWrites : Prop :=
  (∀ (s : State) (c : Cell) (b p : Nat) (x y : AudioSource), b < 16 → p + 1 < 32 → s.isStage = true →
    WritesReady s c .send (b * 32 + p) 2 → p = (s.bus b).sends.length → (∀ z ∈ (s.bus b).sends, z.source ≠ x ∧ z.source ≠ y) →
    (c.payload.toList.drop 4).take 2 = x.bytes → (c.payload.toList.drop 9).take 2 = y.bytes →
    ∃ t, exec .writeSend s = .next t ∧ OnlyIn [.service, .buses] s t
      ∧ (∀ m, m ≠ b → t.bus m = s.bus m) ∧ t.bus b = { s.bus b with sends := (t.bus b).sends }
      ∧ (x ≠ y → (t.bus b).sends = (s.bus b).sends ++ [⟨x, c.arg 6, 0, false⟩, ⟨y, c.arg 11, 0, false⟩]
          ∧ Answered s t c (reply .done [2]))
      ∧ (x = y → (t.bus b).sends = (s.bus b).sends ++ [⟨x, c.arg 6, 0, false⟩]
          ∧ Answered s t c (reply .partly (word16 (b * 32 + p + 1) ++ [0x40, 1]))))
  ∧ ∀ (s : State) (c : Cell) (b p : Nat), b < 16 → p < 32 → SendLaw s →
    WriteReady s c .send (b * 32 + p) → s.isStage = true →
    let old := (s.bus b).sends
    ((∀ a : AudioSource, (c.entryWritten .send).take 2 ≠ a.bytes) → ∃ t, exec .writeSend s = .next t
      ∧ OnlyIn [.service] s t ∧ Answered s t c (reply .badIndex (word16 (b * 32 + p) ++ [1])))
    ∧ ∀ a : AudioSource, (c.entryWritten .send).take 2 = a.bytes →
    ∃ t, exec .writeSend s = .next t ∧ OnlyIn [.service, .buses] s t
      ∧ (∀ m, m ≠ b → t.bus m = s.bus m) ∧ t.bus b = { s.bus b with sends := (t.bus b).sends }
      ∧ (∀ x, old[p]? = some x → x.source = a →
          (t.bus b).sends = old.set p { x with target := c.arg 6, draining := false } ∧ Answered s t c (reply .done [1]))
      ∧ (∀ x, old[p]? = some x → x.source ≠ a →
          (t.bus b).sends = old
          ∧ Answered s t c (reply (if old.length = 32 ∧ ∀ y ∈ old, y.source ≠ a then .full else .sourceFixed)
              (word16 (b * 32 + p) ++ [1])))
      ∧ (p = old.length → (∀ y ∈ old, y.source ≠ a) →
          (t.bus b).sends = old ++ [⟨a, c.arg 6, 0, false⟩] ∧ Answered s t c (reply .done [1]))
      ∧ (∀ q x, p = old.length → old[q]? = some x → x.source = a → x.draining = true →
          (t.bus b).sends = old.set q { x with target := c.arg 6, draining := false } ∧ Answered s t c (reply .done [1]))
      ∧ (∀ x, p = old.length → x ∈ old → x.source = a → x.draining = false →
          (t.bus b).sends = old ∧ Answered s t c (reply .duplicate (word16 (b * 32 + p) ++ [1])))
      ∧ (old.length < p → (t.bus b).sends = old ∧ Answered s t c (reply .badIndex (word16 (b * 32 + p) ++ [1])))

/-- A WRITE of one TALKSRC entry at a STAGE node that keeps the register's law takes the entry whose bytes the payload
spells. A registered source that becomes disabled, or whose class or audio changes, is in no row afterwards; otherwise the
register is unchanged. The other sources stay, and the answer is DONE. -/
def Obligations.TalkSourceWrites : Prop :=
  ∀ (s : State) (c : Cell) (i : Fin 8) (e : TalkSource), TalkLaw s → WriteReady s c .talksrc i.val → s.isStage = true →
    (s.talkSource i).cls < 4 → e.cls < 4 → c.entryWritten .talksrc = e.record →
    let old := s.talkSource i
    ∃ t, exec .writeTalksrc s = .next t ∧ OnlyIn [.service, .talk, .lines, .notices, .counters] s t
      ∧ t.talkSource i = e ∧ (∀ j, j ≠ i → t.talkSource j = s.talkSource j) ∧ Answered s t c (reply .done [1])
      ∧ (e.enabled = false ∨ e.cls ≠ old.cls ∨ e.audio ≠ old.audio → ∀ r, r < 4 → ¬ InRow t r i)
      ∧ (e.enabled = true → e.cls = old.cls → e.audio = old.audio → t.talk.register = s.talk.register)

/-- A WRITE of one LINES entry whose first two bytes spell a function: at a DESK node TALK_BUTTON and TALLY are answered
ROLE. Otherwise the function the line already has changes nothing, and a new one leaves the line RELEASED with change count
0, no sampled level, and the output driven for FAULT or TALLY only, once the ring is out of DARK. The other lines keep
function and debounced state. The k byte of OFF and FAULT as the model writes it is its choice (log entry 29), and so is that a FAULT line is not
driven in DARK (log entry 63). -/
def Obligations.LineWrites : Prop :=
  ∀ (s : State) (c : Cell) (n : Fin 8) (f : LineFunction), WriteReady s c .lines n.val →
    (c.entryWritten .lines).take 2 = f.bytes →
    ∃ t, exec .writeLines s = .next t
      ∧ (s.isDesk = true → (∃ k, f = .talkButton k ∨ f = .tally k) →
          OnlyIn [.service] s t ∧ Answered s t c (reply .role [byte n.val, 1]))
      ∧ (s.isStage = true ∨ f = .off ∨ f = .fault →
          OnlyIn [.service, .talk, .lines, .notices, .counters] s t ∧ Answered s t c (reply .done [1])
          ∧ (f = (s.line n.val).function → OnlyIn [.service] s t)
          ∧ (f ≠ (s.line n.val).function →
              (t.line n.val).function = f ∧ (t.line n.val).pressed = false ∧ (t.line n.val).changes = 0
              ∧ (t.line n.val).sampled = none
              ∧ (f = .off ∨ (∃ k, f = .talkButton k) ∨ s.ring.state = .dark → (t.line n.val).output = none)
              ∧ (f = .fault → s.ring.state ≠ .dark → (t.line n.val).output =
                  some (decide (s.ring.state = .wrappedE ∨ s.ring.state = .wrappedW ∨ s.ring.state = .isolated)))
              ∧ (∀ k, f = .tally k → s.ring.state ≠ .dark → (t.line n.val).output = some (t.talk.serves k))
              ∧ ∀ m, m ≠ n.val → (t.line m).function = (s.line m).function ∧ (t.line m).pressed = (s.line m).pressed
                  ∧ (t.line m).changes = (s.line m).changes))

/-- A WRITE of one of the first seven SETS fields sets it to the written number clamped to its range and is answered DONE or
CLAMPED; one of the enable mask keeps its thirteen bits. The other fields stay. The working presentation delay follows field
0 from the next local frame on, once it has left its start value, and does not change otherwise. -/
def Obligations.SettingsWrites : Prop :=
  ∀ (s : State) (c : Cell) (i : Nat), WriteReady s c .sets i →
    let v := c.arg 4 + 256 * c.arg 5
    ∃ t, exec .writeSets s = .next t ∧ OnlyIn [.service, .sets, .present] s t
      ∧ (∀ j, j < 8 → j ≠ i → t.sets.field j = s.sets.field j)
      ∧ (∀ lo hi, [(16, 40), (0, 15), (10, 10000), (0, 60000), (0, 600), (0, 3), (0, 3)][i]? = some (lo, hi) →
          t.sets.field i = max lo (min v hi)
          ∧ Answered s t c (if lo ≤ v ∧ v ≤ hi then reply .done [1] else reply .clamped [byte i]))
      ∧ (i = 7 → t.sets.noticeMask = v % 8192 ∧ Answered s t c (reply .done [1]))
      ∧ t.present = { s.present with
          delayNext := if i = 0 ∧ s.present.delayStarted = true then max 16 (min v 40) else s.present.delayNext }

/-- A READ that passes its checks stays at the head, and the answer queue takes one DATA cell that names the table, the first
index and as many whole entries as twelve bytes hold, with their bytes as they stand. Taking a PORTS record clears that
record's deltas; any other read changes nothing but the queues. NODE and COUNT begin as the first of three segments of the
record as it stands. That the segments of a record are numbered from 0 is the model's choice (log entry 78). -/
def Obligations.ReadsBegin : Prop :=
  ∀ (s : State) (c : Cell) (tb : Table), s.request = some c → c.kind? = some .read → c.table? = some tb →
    (tb.stageOnly = true → s.isStage = true) → 1 ≤ c.count → c.first + c.count ≤ tb.entries → c.length = 4 →
    let n := min (12 / tb.size) c.count
    ∃ t, exec .readTable s = .next t
      ∧ (tb ≠ .node → tb ≠ .count →
          DataPlaced s t c ([byteAt c.payload.toList 0] ++ word16 c.first ++ [byte n]
            ++ (List.range n).flatMap fun k => s.entryBytes tb (c.first + k))
          ∧ t.service.reading = some ⟨c.first + n, c.count - n, 1, []⟩)
      ∧ (tb = .node ∨ tb = .count →
          let record := if tb = .node then s.nodeRecord else s.countRecord
          DataPlaced s t c ([byteAt c.payload.toList 0, 0, 0, 128] ++ record.take 12)
          ∧ t.service.reading = some ⟨1, 2, 1, record⟩)
      ∧ (tb ≠ .ports → OnlyIn [.service] s t)
      ∧ (tb = .ports → OnlyIn [.service, .portE, .portW] s t
          ∧ ∀ p, t.port p = (if c.first ≤ sideCode p ∧ sideCode p < c.first + c.count then
              { s.port p with deltas := .clear } else s.port p))

/-- With a READ in progress at the head and room in its answer queue: where entries are left, the next DATA cell of a table
without segments carries them from the next unread index, of PORTS clearing the deltas of the records it carries, and one of
NODE or COUNT carries the next segment of the record as it was taken; the READ stays. Where none is left, the READ leaves the
queue and is answered DONE with the number of DATA cells. Each of the two events does nothing in the other's case. That the
next cell and the ANSWER are commands of their own is the model's reading (log entry 8), and so is that one not due does
nothing (log entry 9). That the segments of a record are numbered from 0 is its choice (log entry 78). -/
def Obligations.ReadsGoOnAndEnd : Prop :=
  ∀ (s : State) (c : Cell) (rest : List Cell) (tb : Table) (r : Reading), s.service.work = c :: rest →
    s.service.reading = some r → c.table? = some tb → s.answerRoom c = true →
    (0 < r.left → tb = .node ∨ tb = .count →
      exec .readDoneAnswer s = .next s
      ∧ ∃ t, exec .dataCellNext s = .next t ∧ OnlyIn [.service] s t
        ∧ DataPlaced s t c ([byteAt c.payload.toList 0, 0, 0, byte (128 + r.next)] ++ (r.record.drop (12 * r.next)).take 12)
        ∧ t.service.reading = some ⟨r.next + 1, r.left - 1, r.cells + 1, r.record⟩)
    ∧ (0 < r.left → tb ≠ .node → tb ≠ .count →
      let n := min (12 / tb.size) r.left
      let payload := [byteAt c.payload.toList 0] ++ word16 r.next ++ [byte n]
        ++ (List.range n).flatMap fun k => s.entryBytes tb (r.next + k)
      exec .readDoneAnswer s = .next s
      ∧ ∃ t, exec .dataCellNext s = .next t ∧ DataPlaced s t c payload
        ∧ t.service.reading = some ⟨r.next + n, r.left - n, r.cells + 1, r.record⟩
        ∧ (tb ≠ .ports → OnlyIn [.service] s t)
        ∧ (tb = .ports → OnlyIn [.service, .portE, .portW] s t
            ∧ ∀ p, t.port p = (if r.next ≤ sideCode p ∧ sideCode p < r.next + n then
                { s.port p with deltas := .clear } else s.port p)))
    ∧ (r.left = 0 →
      let a := answerTo s c (reply .done [byte r.cells])
      exec .dataCellNext s = .next s
      ∧ ∃ t, exec .readDoneAnswer s = .next t ∧ OnlyIn [.service] s t
        ∧ t.service = { s.service with
            work := rest, reading := none
            console := if s.fromOwnHost c then s.service.console ++ [a] else s.service.console
            outbound := if s.fromOwnHost c then s.service.outbound else s.service.outbound ++ [a] })

/-- COPY_BANK copies every entry of the active slot and drop banks into the standby banks, leaves the active banks, the
selector, a pending swap and the outgoing plan, and is answered DONE. SWAP_BANK is refused with BUSY while a swap is
pending; otherwise it records an apply superframe 1 to 32767 superframes ahead, answered DONE, and refuses any other with
LATE: the current one, one behind it, and one 32768 or more ahead. That exactly 32768 ahead is LATE is the model's choice
between the table of R71 and its sentence (log entry 49). -/
def Obligations.BanksCopiedAndSwapped : Prop :=
  ∀ (s : State) (c : Cell),
    (ActReady s c 0x01 0 → ∃ t, exec .copyBank s = .next t ∧ OnlyIn [.service, .plan] s t
      ∧ Answered s t c (reply .done [])
      ∧ t.plan.slots .a = s.activeSlots ∧ t.plan.slots .b = s.activeSlots
      ∧ t.plan.drops .a = s.activeDrops ∧ t.plan.drops .b = s.activeDrops
      ∧ t.plan.active = s.plan.active ∧ t.plan.swap = s.plan.swap ∧ t.plan.outgoing = s.plan.outgoing
      ∧ t.plan.dtrim = s.plan.dtrim)
    ∧ (ActReady s c 0x02 2 →
      let ahead := (c.arg16 1 + 65536 - s.timing.superframe % 65536) % 65536
      ∃ t, exec .swapBank s = .next t
        ∧ (s.plan.swap ≠ none → OnlyIn [.service] s t ∧ Answered s t c (reply .busy []))
        ∧ (s.plan.swap = none → 1 ≤ ahead → ahead < 32768 → OnlyIn [.service, .plan] s t
            ∧ t.plan = { s.plan with swap := some (c.arg16 1) } ∧ Answered s t c (reply .done []))
        ∧ (s.plan.swap = none → ahead = 0 ∨ 32768 ≤ ahead → OnlyIn [.service] s t ∧ Answered s t c (reply .late [])))

/-- A port or mode outside its set is BAD_INDEX; a loop on a side whose span is not FAILED at a node that is not ISOLATED is
IN_SERVICE; the current mode again is DONE; none of these changes anything. Otherwise the mode is taken and answered DONE: a
looped side's span is FAILED, and a change to or from INTERNAL puts the port in HUNT without a lock loss, LIGHT following
the new source. The other port stays. -/
def Obligations.LoopsTaken : Prop :=
  ∀ (s : State) (c : Cell), ActReady s c 0x03 2 → ∃ t, exec .loop s = .next t
    ∧ (1 < c.arg 1 ∨ 2 < c.arg 2 → OnlyIn [.service] s t ∧ Answered s t c (reply .badIndex []))
    ∧ ∀ (p : Side) (m : LoopMode), c.arg 1 = sideCode p → c.arg 2 = m.code →
        (m ≠ .off → (s.span p).state ≠ .failed → s.ring.state ≠ .isolated →
          OnlyIn [.service] s t ∧ Answered s t c (reply .inService []))
        ∧ (m = .off ∨ (s.span p).state = .failed ∨ s.ring.state = .isolated →
          Answered s t c (reply .done []) ∧ t.port (oppositeSide p) = s.port (oppositeSide p)
          ∧ CountersOutside [.noticesLost] s t
          ∧ ((s.port p).loop = m → OnlyIn [.service] s t)
          ∧ ((s.port p).loop ≠ m →
              (t.port p).loop = m ∧ (m ≠ .off → (t.span p).state = .failed)
              ∧ ((s.port p).loop ≠ .internal → m ≠ .internal →
                  (t.port p).lock = (s.port p).lock ∧ (t.port p).flags = (s.port p).flags)
              ∧ ((s.port p).loop = .internal ∨ m = .internal →
                  (t.port p).lock = .hunt ∧ (t.port p).badRun = 0
                  ∧ (t.port p).flags = ⟨m == .internal || (s.port p).fibreLight, false, false, false⟩)))

/-- PATTERN_CHECK with on sets the checker ON for the named slot, or refuses one above 127 with BAD_INDEX; with off it sets it
OFF whatever slot is named. What the current local frame watches stays: the boundary that begins the next local frame takes
the mode and the slot over, be it a local frame boundary or the superframe boundary from frame 47, and a local frame boundary
whose frame has already begun keeps what that frame watches, and so does a local frame timer that does not run. That the
superframe boundary may begin a frame is the model's split of one boundary in two (log entry 5). CLEAR_COUNTERS sets every
counter of the COUNT table to 0, and at a STAGE node every clip count, and leaves notices, ports and the rest of every bus.
Both are answered DONE. -/
def Obligations.CheckerAndCountersCommanded : Prop :=
  ∀ (s : State) (c : Cell),
    (ActReady s c 0x04 2 → ∃ t, exec .patternCheck s = .next t
      ∧ (c.arg 2 = 1 → c.arg 1 ≤ 127 → t.checker = { s.checker with on := true, slot := c.arg 1 }
          ∧ OnlyIn [.service, .checker] s t ∧ Answered s t c (reply .done []))
      ∧ (c.arg 2 = 1 → 127 < c.arg 1 → OnlyIn [.service] s t ∧ Answered s t c (reply .badIndex []))
      ∧ (c.arg 2 = 0 → t.checker = { s.checker with on := false } ∧ OnlyIn [.service, .checker] s t
          ∧ Answered s t c (reply .done [])))
    ∧ (let taken := { s.checker with watch := if s.checker.on = true then some s.checker.slot else none }
      (∀ inputs, ∃ t, exec (.localFrameBoundary inputs) s = .next t
        ∧ t.checker = (if s.timing.running = true ∧ s.timing.frameOwed = false then taken else s.checker))
      ∧ ∀ levels, ∃ t, exec (.superframeBoundary levels) s = .next t
        ∧ t.checker = (if s.timing.running = true ∧ s.timing.frameOwed = false ∧ s.timing.frame = 47 then taken else s.checker))
    ∧ (ActReady s c 0x05 0 → ∃ t, exec .clearCounters s = .next t ∧ OnlyIn [.service, .counters, .buses] s t
      ∧ Answered s t c (reply .done []) ∧ (∀ x, t.counter x = 0)
      ∧ (s.isStage = true → ∀ b, b < 16 → t.bus b = { s.bus b with clips := 0 })
      ∧ (s.isDesk = true → t.buses = s.buses))

/-- From a REACHABLE DESK requester, each entry of the range without an owner or in ORPHANED becomes HELD by it with grace
timer 0, and every other entry is unchanged. The answer is DONE with the number of entries where none is refused, CLAIMED
where all are, else PARTIAL, these two with a mask of the entries another node owns. A bad range is BAD_INDEX, and any other
requester ROLE. An entry in GRACE that the requester owns stays as it is and counts as granted, which is the model's choice
(log entry 27). -/
def Obligations.ClaimsGranted : Prop :=
  ∀ (s : State) (c : Cell), ActReady s c 0x10 2 → s.isStage = true →
    let refused := fun n => ∃ o, (s.entry n).owner = some o ∧ o ≠ c.origin ∧ (s.entry n).ownerState ≠ .orphaned
    let inRange := fun n => c.arg 1 ≤ n ∧ n ≤ c.arg 2
    ∃ t, exec .claim s = .next t
      ∧ (c.arg 2 < c.arg 1 ∨ 63 < c.arg 1 ∨ 63 < c.arg 2 → OnlyIn [.service] s t ∧ Answered s t c (reply .badIndex []))
      ∧ (c.arg 1 ≤ c.arg 2 → c.arg 2 ≤ 63 → s.isReachableDesk c.origin = false →
          OnlyIn [.service] s t ∧ ∃ d, Answered s t c (reply .role d))
      ∧ (c.arg 1 ≤ c.arg 2 → c.arg 2 ≤ 63 → s.isReachableDesk c.origin = true →
          OnlyIn [.service, .preamp, .notices, .counters] s t
          ∧ (∀ n, n < 64 → inRange n → ((s.entry n).owner = none ∨ (s.entry n).ownerState = .orphaned) →
              t.entry n = { s.entry n with owner := some c.origin, ownerState := .held, grace := 0 })
          ∧ (∀ n, ¬ inRange n ∨ ((s.entry n).owner ≠ none ∧ (s.entry n).ownerState ≠ .orphaned) → t.entry n = s.entry n)
          ∧ ((∀ n, inRange n → ¬ refused n) → Answered s t c (reply .done [byte (c.arg 2 + 1 - c.arg 1)]))
          ∧ ((∃ n, inRange n ∧ refused n) → ∃ (st : Status) (mask : List Byte), Answered s t c (reply st mask)
              ∧ ((∀ n, inRange n → refused n) → st = .claimed) ∧ ((∃ n, inRange n ∧ ¬ refused n) → st = .partly)
              ∧ mask.length = 8
              ∧ ∀ n, n < 64 → (bitAt (byteAt mask (n / 8)) (n % 8) = true ↔ inRange n ∧ refused n)))

/-- From a REACHABLE DESK requester with a valid range, each entry of the range that the requester owns, in whatever owner
state, takes owner NONE and grace timer 0, keeping its gain, pending change and next target. The other entries are
unchanged. The answer is DONE with the number released, which may be 0. -/
def Obligations.ReleasesGiveUpOwnership : Prop :=
  ∀ (s : State) (c : Cell), ActReady s c 0x11 2 → s.isStage = true → s.isReachableDesk c.origin = true →
    c.arg 1 ≤ c.arg 2 → c.arg 2 ≤ 63 →
    let mine := fun n => decide (c.arg 1 ≤ n ∧ n ≤ c.arg 2) && ((s.entry n).owner == some c.origin)
    ∃ t, exec .release s = .next t ∧ OnlyIn [.service, .preamp, .notices, .counters] s t
      ∧ (∀ n, mine n = true → (t.entry n).owner = none ∧ (t.entry n).grace = 0
          ∧ (t.entry n).pending = (s.entry n).pending ∧ (t.entry n).next = (s.entry n).next
          ∧ (t.entry n).gain = (s.entry n).gain ∧ (t.entry n).trimLimit = (s.entry n).trimLimit
          ∧ (t.entry n).confirmed = (s.entry n).confirmed)
      ∧ (∀ n, mine n = false → t.entry n = s.entry n)
      ∧ Answered s t c (reply .done [byte ((List.range 64).countP mine)])

/-- From the owner in HELD of a fitted input: with no pending change and room in both queues the entry takes a pending
change with its difference in effective steps, for four superframes ahead and exempting the requester; one step record goes
to each other REACHABLE node but the requester where the difference is not 0, and one converter command is queued. Otherwise
the request becomes the next target. Steps above 40 are clamped. The answer is DONE, or CLAMPED where they were, with 0, the
apply superframe and the difference for a pending change, or 1 and whether a next target was replaced. Any other requester
is NOT_OWNER. The flag byte of a replaced next target follows log entry 28, and that a next target waiting for room stays
beside a newer request that fits is the model's choice (log entry 70). -/
def Obligations.GainRequestsTaken : Prop :=
  ∀ (s : State) (c : Cell), ActReady s c 0x12 4 → s.isStage = true →
    let n := c.arg 1
    let e := s.entry n
    let target : Gain := ⟨min (c.arg 2) 40, c.arg 3 == 1, c.arg 4 == 1⟩
    let delta := target.effective - e.gain.effective
    let apply := (s.timing.superframe + 4) % 65536
    let dests := (List.finRange 4).filter fun d => s.isReachable d && d != s.id && d != c.origin && delta != 0
    let status := if 40 < c.arg 2 then Status.clamped else .done
    let pendingAnswer := answerTo s c (reply status ([0] ++ word16 apply ++ signed16 delta))
    n ≤ 63 → n / 16 < s.image.optn.converters → c.arg 3 ≤ 1 → c.arg 4 ≤ 1 →
    ∃ t, exec .setPreamp s = .next t
      ∧ (e.owner ≠ some c.origin ∨ e.ownerState ≠ .held → OnlyIn [.service] s t ∧ Answered s t c (reply .notOwner []))
      ∧ (e.owner = some c.origin → e.ownerState = .held →
          OnlyIn [.service, .preamp] s t ∧ (∀ m, m ≠ n → t.entry m = s.entry m)
          ∧ (e.pending = none → s.service.stepQueue.length + dests.length ≤ 32 → s.preamp.queue.length < 16 →
              t.entry n = { e with pending := some ⟨target, delta, apply, c.origin⟩ }
              ∧ t.preamp.queue = s.preamp.queue ++ [⟨n / 16, n % 16, target, apply⟩]
              ∧ t.service = { s.service with
                  work := s.service.work.tail
                  stepQueue := s.service.stepQueue ++ dests.map (fun d => ⟨d, n, delta, apply, c.origin⟩)
                  console := if s.fromOwnHost c then s.service.console ++ [pendingAnswer] else s.service.console
                  outbound := if s.fromOwnHost c then s.service.outbound else s.service.outbound ++ [pendingAnswer] })
          ∧ (e.pending ≠ none ∨ 32 < s.service.stepQueue.length + dests.length ∨ 16 ≤ s.preamp.queue.length →
              t.entry n = { e with next := some ⟨target, c.origin⟩ } ∧ t.preamp.queue = s.preamp.queue
              ∧ Answered s t c (reply status [1, flagByte e.next.isSome])))

/-- A bus above 15 or a position at or beyond the send count is BAD_INDEX. A send of applied code 0 leaves the list at once,
answered DONE with detail 1. Any other takes target 0 and the draining flag and stays, answered DONE with detail 0. The rest
of the bus and the other buses are unchanged. The detail's two values are the model's coding (log entry 28). -/
def Obligations.SendsRemoved : Prop :=
  ∀ (s : State) (c : Cell), ActReady s c 0x20 2 → s.isStage = true →
    let old := (s.bus (c.arg 1)).sends
    ∃ t, exec .removeSend s = .next t
      ∧ (15 < c.arg 1 ∨ old.length ≤ c.arg 2 → OnlyIn [.service] s t ∧ Answered s t c (reply .badIndex []))
      ∧ ∀ x, c.arg 1 ≤ 15 → old[c.arg 2]? = some x →
          OnlyIn [.service, .buses] s t ∧ (∀ b, b ≠ c.arg 1 → t.bus b = s.bus b)
          ∧ (x.applied = 0 → t.bus (c.arg 1) = { s.bus (c.arg 1) with sends := old.eraseIdx (c.arg 2) }
              ∧ Answered s t c (reply .done [1]))
          ∧ (x.applied ≠ 0 → t.bus (c.arg 1) =
                { s.bus (c.arg 1) with sends := old.set (c.arg 2) { x with target := 0, draining := true } }
              ∧ Answered s t c (reply .done [0]))

/-- A press of a source that is disabled, or whose audio is a ring slot presented STALE, is NOT_ACTIVE and changes nothing. Any
other, of a local or a ring source, is answered DONE where it is in service, with its timer loaded afresh, where it is holding,
with nothing changed, where the in-service entry of its class is free, which it takes, and where only the holding entry is.
Where both are taken by others it is refused with FULL, the class and the two sources, counted, and a TALK_REFUSED notice is
queued. A release of a registered source takes it out, promotes the holding source with a fresh timer and queues a TALK_ENDED
notice with reason CELL; an unregistered one is NOT_ACTIVE. Other rows and the source table stay. A source above 7 is
BAD_INDEX. The detail of a press answered DONE, a byte 0 for in service or 1 for holding and then a flag byte that is 1 only
where the timer was restarted, the flag standing there as 0 where R158 names nothing of the timer, is the model's reading (log
entry 28), and so is the byte of the TALK_ENDED notice for in service or holding (log entry 30). -/
def Obligations.TalkPressesAndReleases : Prop :=
  (∀ (s : State) (c : Cell) (i : Fin 8), s.isStage = true → c.arg 1 = i.val → (s.talkSource i).cls < 4 →
    let row := s.rowOf i
    let able := (s.talkSource i).enabled = true ∧ ¬ LostAudio s i
    (ActReady s c 0x30 1 →
      ∃ t, exec .talkPress s = .next t ∧ OnlyIn [.service, .talk, .lines, .notices, .counters] s t ∧ TalkPressed s t i
        ∧ (¬ able → OnlyIn [.service] s t ∧ Answered s t c (reply .notActive []))
        ∧ (able → row.inService = some i → Answered s t c (reply .done [0, 1]))
        ∧ (able → row.inService ≠ some i → row.holding = some i → OnlyIn [.service] s t ∧ Answered s t c (reply .done [1, 0]))
        ∧ (able → row.inService = none → row.holding ≠ some i → Answered s t c (reply .done [0, 0]))
        ∧ (∀ j, able → row.inService = some j → j ≠ i → row.holding = none → Answered s t c (reply .done [1, 0]))
        ∧ ∀ j k, able → row.inService = some j → row.holding = some k → j ≠ i → k ≠ i →
            Answered s t c (reply .full [byte (s.talkSource i).cls, byte j.val, byte k.val]))
    ∧ (ActReady s c 0x31 1 →
      ∃ t, exec .talkRelease s = .next t ∧ OnlyIn [.service, .talk, .lines, .notices, .counters] s t ∧ TalkReleased s t i 0
        ∧ (row.inService = some i → Answered s t c (reply .done [byte (row.holding.elim 255 Fin.val)]))
        ∧ (row.inService ≠ some i → row.holding = some i → Answered s t c (reply .done [0xFF]))
        ∧ (row.inService ≠ some i → row.holding ≠ some i →
            OnlyIn [.service] s t ∧ Answered s t c (reply .notActive []))))
  ∧ ∀ (s : State) (c : Cell), s.isStage = true → 7 < c.arg 1 →
    (ActReady s c 0x30 1 → ∃ t, exec .talkPress s = .next t ∧ OnlyIn [.service] s t ∧ Answered s t c (reply .badIndex []))
    ∧ (ActReady s c 0x31 1 → ∃ t, exec .talkRelease s = .next t ∧ OnlyIn [.service] s t ∧ Answered s t c (reply .badIndex []))

/-- A STEP cell of one record from a node shown as a STAGE leaves the work queue without an answer. A record with an input
up to 63, a difference of at most 56 steps that is not 0, and an exempt party other than this node's own, whose capture
frame lies 1 to 232 frames ahead of the one last presented, is scheduled with minus four times the difference where the
schedule has room. One whose capture frame is already presented (cause 0), lies farther ahead (1) or finds the schedule full
(2) goes into its table entry at once, clamped to -128 to +127, is counted as a late compensation and raises a STEP_LATE
notice of stage and input with its cause. A record exempting this party, and one that the Length cuts off, changes nothing
more. How the count byte and the Length limit the records is the model's reading (log entry 35). -/
def Obligations.StepCellsTaken : Prop :=
  ∀ (s : State) (c : Cell) (rest : List Cell), s.service.work = c :: rest → c.kind? = some .step →
    (s.reachOf c.origin).role = some .stage → (s.reachOf c.origin).state ≠ .unknown → c.arg 0 = 1 →
    let late := (s.present.lastCapture + 3145728 - c.arg16 3 * 48 % 3145728) % 3145728 < 1572864
    let delta := (byteAt c.payload.toList 2).toInt
    let ahead := gfDistance s.present.lastCapture (c.arg16 3 * 48)
    ∃ t, exec .step s = .next t ∧ OnlyIn [.service, .tracking, .notices, .counters] s t
      ∧ t.service = { s.service with work := rest }
      ∧ (c.arg 5 = s.party ∨ c.length < 6 → OnlyIn [.service] s t)
      ∧ (6 ≤ c.length → c.arg 1 ≤ 63 → delta ≠ 0 → -56 ≤ delta → delta ≤ 56 → c.arg 5 ≠ s.party → 1 ≤ ahead → ahead ≤ 232 →
          s.tracking.schedule.length < 32 →
          OnlyIn [.service, .tracking] s t ∧ t.tracking.table = s.tracking.table
          ∧ t.tracking.strim = s.tracking.strim
          ∧ t.tracking.schedule.Perm (⟨c.origin, c.arg 1, -4 * delta, c.arg16 3⟩ :: s.tracking.schedule))
      ∧ (6 ≤ c.length → c.arg 1 ≤ 63 → delta ≠ 0 → -56 ≤ delta → delta ≤ 56 → c.arg 5 ≠ s.party →
          late ∨ 232 < ahead ∨ 32 ≤ s.tracking.schedule.length →
          let k := c.origin.val * 64 + c.arg 1
          let cause : Byte := if late then 0 else if 232 < ahead then 1 else 2
          t.tracking.schedule = s.tracking.schedule ∧ t.tracking.strim = s.tracking.strim
          ∧ t.tracking.table.get k = max (-128) (min (s.tracking.table.get k - 4 * delta) 127)
          ∧ (∀ j, j ≠ k → t.tracking.table.get j = s.tracking.table.get j)
          ∧ t.counter .lateCompensations = min (s.counter .lateCompensations + 1) 65535
          ∧ CountersOutside [.lateCompensations, .noticesLost] s t
          ∧ ∃ d, t.notices = (s.intake ⟨.stepLate, k, cause :: d⟩).notices)

/-- STORE is BUSY unless the loader is IDLE. Without OPTN values, or with values and no protect strap, it enters STORING with
the image in the buffer: OLTI, version 1, the length and the CRC-32 of the chunk area, and the area of the tables as they
stand, the values brought within 1 to 4 converters and a delay of 16 to 40 and answered CLAMPED where that changes one. Under
the protect strap the OPTN bytes are the retained image's as they are, or where it has none the values read at the last hard
reset, and the answer has the protected flag. At the end of a STORE the buffer is freed and the loader IDLE. The retained image
takes the buffer's chunk area exactly where the image read back has the CRC-32 of the one written, and stays where the memory
fails or the read-back differs. An IMAGE notice gives the outcome: STORE_DONE for the first, else STORE_FAILED, with no chunk.
The order of the refusals and the DONE under protect are the model's reading (log entry 37), and so is the second IMAGE detail
byte, 0xFF for an absent cause (log entry 31). That the retained image's OPTN chunk is copied whole, whatever its length, and
past the size of the buffer where the image needs it, is the model's choice (log entry 67), the order of the chunks, the number
byte of an entry without a number and the start delay of a STORE without OPTN values are its choices (log entries 72, 29 and
74), that a draining send is stored with its target 0 is its reading (log entry 33), over which bytes the read-back is compared
is its choice (log entry 43), and so is that STORE_COMPLETE does nothing outside STORING (log entry 9). -/
def Obligations.ImagesStored : Prop :=
  (∀ (s : State) (c : Cell), ActReady s c 0x40 4 → c.arg 1 ≤ 1 → c.arg 2 ≤ 1 →
    let o : Optn := ⟨c.arg 2 == 1, max 1 (min (c.arg 3) 4), max 16 (min (c.arg 4) 40)⟩
    let written := fun area : List Byte =>
      [0x4F#8, 0x4C#8, 0x54#8, 0x49#8, 1#8] ++ word16 area.length ++ crc32Bytes area ++ area
    ∃ t, exec .store s = .next t
      ∧ (s.image.loader ≠ .idle → OnlyIn [.service] s t ∧ Answered s t c (reply .busy []))
      ∧ (s.image.loader = .idle → s.straps.protect = false →
          OnlyIn [.service, .image] s t
          ∧ (c.arg 1 = 0 → t.image = { s.image with loader := .storing, buffer := written (s.storeArea s.image.optn.bytes) }
              ∧ Answered s t c (reply .done []))
          ∧ (c.arg 1 = 1 → t.image = { s.image with loader := .storing, buffer := written (s.storeArea o.bytes) }
              ∧ Answered s t c (reply (if o.converters = c.arg 3 ∧ o.startDelay = c.arg 4 then .done else .clamped) [])))
      ∧ (s.image.loader = .idle → s.straps.protect = true → OnlyIn [.service, .image] s t
          ∧ Answered s t c ⟨.done, 2, []⟩
          ∧ ∃ optn, t.image = { s.image with loader := .storing, buffer := written (s.storeArea optn) }
            ∧ (∀ area kept, s.image.retained = some area → chunk (chunksOf area) .optn = some kept → optn = kept)
            ∧ ((∀ area, s.image.retained = some area → chunk (chunksOf area) .optn = none) →
                optn = [if s.image.optn.applyPhantom = true then 1 else 0, byte s.image.optn.converters
                  , byte s.image.optn.startDelay])))
  ∧ (∀ (s : State) (header area memory : List Byte), s.image.loader = .storing → s.image.buffer = header ++ area →
      header.length = 11 → header.drop 7 = crc32Bytes area → area.length + 11 ≤ memory.length →
      let sound := crc32Bytes ((memory.drop 11).take area.length) = crc32Bytes area
      ∃ t, exec (.storeComplete (some memory)) s = .next t ∧ OnlyIn [.image, .notices, .counters] s t
        ∧ t.image = { s.image with loader := .idle, buffer := [], retained := if sound then some area else s.image.retained }
        ∧ t.notices = (s.intake ⟨.image, s.id.val, [if sound then 3 else 4, 0xFF]⟩).notices)
  ∧ ∀ s : State,
      (s.image.loader = .storing → ∃ t, exec (.storeComplete none) s = .next t
        ∧ OnlyIn [.image, .notices, .counters] s t
        ∧ t.image = { s.image with loader := .idle, buffer := [] }
        ∧ t.notices = (s.intake ⟨.image, s.id.val, [4, 0xFF]⟩).notices)
      ∧ ∀ m, s.image.loader ≠ .storing → exec (.storeComplete m) s = .next s

/-- At a STAGE node with the loader IDLE a REPORT leaves the work queue unanswered and the loader begins to stream the
record to its requester: 912 bytes of the chunks NODE, PAMP, STRM, TREG and CNTR, each its name, its length and its data, of
the state at that moment. Otherwise it is BUSY. While reporting with room in the outbound queue, a fragment carries up to 13
bytes from the offset reached; at the end of the record the ANSWER DONE gives its length and the number of cells, and the
loader is IDLE. The fragments and the end are commands of their own (log entry 8), which do nothing when not due (log entry
9). -/
def Obligations.ReportsStreamed : Prop :=
  (∀ (s : State) (c : Cell), s.request = some c → c.acts 0x41 = true → 1 ≤ c.length → s.isStage = true →
    let chunk := fun name data : List Byte => name ++ word16 data.length ++ data
    ∃ t, exec .report s = .next t
      ∧ (s.image.loader = .idle → OnlyIn [.service, .image] s t
          ∧ t.service = { s.service with work := s.service.work.tail }
          ∧ t.image.loader = .reporting ⟨0, 0, c.origin, c.originConsole, c.tag⟩
          ∧ t.image.buffer.length = 912
          ∧ t.image.buffer =
            chunk [0x4E, 0x4F, 0x44, 0x45] ([byte s.id.val, 0, byte s.ring.state.code, byte s.timing.clock.code]
              ++ word16 s.timing.superframe)
            ++ chunk [0x50, 0x41, 0x4D, 0x50] ((List.range 64).flatMap fun n => (s.entry n).record)
            ++ chunk [0x53, 0x54, 0x52, 0x4D] ((List.range 64).map fun n => signedByte (s.tracking.strim.get n))
            ++ chunk [0x54, 0x52, 0x45, 0x47] ((List.range 4).flatMap fun c => (s.talkRow c).record)
            ++ chunk [0x43, 0x4E, 0x54, 0x52] ((List.range 14).flatMap fun n => word16 (s.counters.get n)))
      ∧ (s.image.loader ≠ .idle → OnlyIn [.service] s t ∧ Answered s t c (reply .busy [])))
  ∧ ∀ (s : State) (r : ReportStream), s.image.loader = .reporting r → s.service.outbound.length < 16 →
      let cell := fun (kind : CellKind) (payload : List Byte) =>
        ({ dest := toNode r.dest, destConsole := r.destConsole, origin := s.id, originConsole := false, kind := kind.code
           tag := r.tag, length := payload.length, relayed := false, payload := .ofList 16 0 payload } : Cell)
      (r.offset < s.image.buffer.length →
        let data := (s.image.buffer.drop r.offset).take 13
        exec .reportDone s = .next s
        ∧ ∃ t, exec .reportFragment s = .next t ∧ OnlyIn [.service, .image] s t
          ∧ t.service = { s.service with
              outbound := s.service.outbound ++ [cell .report (word16 r.offset ++ [byte data.length] ++ data)] }
          ∧ t.image = { s.image with
              loader := .reporting { r with offset := r.offset + data.length, cells := r.cells + 1 } })
      ∧ (s.image.buffer.length ≤ r.offset →
        exec .reportFragment s = .next s
        ∧ ∃ t, exec .reportDone s = .next t ∧ OnlyIn [.service, .image] s t
          ∧ t.service = { s.service with
              outbound := s.service.outbound
                ++ [cell .answer ([0, 0] ++ word16 s.image.buffer.length ++ [byte r.cells])] }
          ∧ t.image = { s.image with loader := .idle, buffer := [] })

/-- RESTART while the loader is STORING is BUSY and changes nothing. Otherwise it empties every queue, the talk register, the
schedule and tracking table, ownership, pending changes and next targets and the counters, keeps ports, ring, clock and
counters, reachability, ranks and slot states, has bank A active without a pending swap or outgoing plan, gives every entry of
SLOT and DROP A and B, DTRIM, SETS and LINES, and at a STAGE node of PREAMP, STRIM, BUS, SEND and TALKSRC, the value the
retained image holds for it (phantom OFF under the policy BLOCK read at the last hard reset), and its reset value where the
image is empty, lacks it, or its bytes spell none, drives every tally output inactive, takes SETS.presentation_delay as the
next delay where presentation has started, starts the reload pass at a STAGE node, queues the RESTARTED notice alone where its
kind is enabled, and places its DONE in the emptied answer queue. That phantom follows that policy at a RESTART as at a hard
reset (log entry 36), that the lines are driven at once and the RESTARTED notice is raised under the reloaded enable mask (log
entry 46), that the commands of the reload pass are formed as it starts (log entry 21) and that the computed next grant list is
kept (log entry 24) are the model's readings, and that only an absent image is an empty one (log entry 64) and that the checker
is OFF in the current local frame too (log entry 75) are its choices. -/
def Obligations.RestartKeepsTheRing : Prop :=
  ∀ (s : State) (c : Cell), ActReady s c 0x42 0 → ∃ t, exec .restart s = .next t
    ∧ (s.image.loader = .storing → OnlyIn [.service] s t ∧ Answered s t c (reply .busy []))
    ∧ (s.image.loader ≠ .storing →
        OnlyIn [.members, .service, .plan, .present, .checker, .preamp, .tracking, .buses, .talk, .lines, .sets, .notices,
          .counters, .image] s t
        ∧ t.members = { s.members with grants := .fill 6 none } ∧ t.present.slots = s.present.slots
        ∧ t.service.work = [] ∧ t.service.stepQueue = [] ∧ t.service.relay = [] ∧ t.service.reading = none
        ∧ t.service.console = (if s.fromOwnHost c then [answerTo s c (reply .done [])] else [])
        ∧ t.service.outbound = (if s.fromOwnHost c then [] else [answerTo s c (reply .done [])])
        ∧ t.service.laneOut = s.service.laneOut ∧ t.service.consoleOut = s.service.consoleOut
        ∧ TablesReloaded s t ∧ (s.isStage = true → StageTablesReloaded s t)
        ∧ (∀ n k, n < 8 → s.ring.state ≠ .dark → (t.line n).function = .tally k → (t.line n).output = some false)
        ∧ t.present = { s.present with
            delayNext := if s.present.delayStarted = true then t.sets.presentationDelay else s.present.delayNext }
        ∧ t.checker = ⟨false, 0, none⟩ ∧ t.tracking.schedule = [] ∧ (∀ k, k < 256 → t.tracking.table.get k = 0)
        ∧ (∀ r, r < 4 → t.talkRow r = ⟨none, none, none⟩) ∧ (∀ x, t.counter x = 0)
        ∧ t.image.loader = .idle ∧ t.image.buffer = [] ∧ t.image.retained = s.image.retained
        ∧ t.notices = (if t.sets.noticeMask.testBit 5 then
            [⟨.restarted, s.id.val, [flagByte s.image.retained.isNone], 1⟩] else [])
        ∧ (s.isStage = true → t.preamp.queue = [] ∧ t.preamp.outstanding = []
            ∧ t.preamp.reload = ((List.range 64).filter fun n => n / 16 < s.image.optn.converters).map (fun n =>
                ⟨n / 16, n % 16, (t.entry n).gain, (s.timing.superframe + 4) % 65536⟩)
            ∧ ∀ n, n < 64 → (t.entry n).owner = none ∧ (t.entry n).pending = none ∧ (t.entry n).next = none
                ∧ (t.entry n).trimLimit = false ∧ (t.entry n).confirmed = false))

/-- The notices that one event raises are taken after it in ascending order of subject, those of one subject as they were
raised. One of a disabled kind is not taken. One of a waiting kind and subject adds no entry, raises that notice's merged
count and gives it the new detail, where a PORT notice keeps the deltas it holds. Otherwise a new notice joins as the newest
while the queue holds fewer than 16; in a full queue it enters in the place of a notice of a lower class, or is discarded
where there is none, and one notice is counted lost. Each kind has its code and class. The notice sent is the oldest of the
highest class, where its target is deliverable and the queue has room: a NOTE cell to the target's host from this node, tag 0,
with kind, class, subject, merged count and detail, into the console queue of a DESK that is its own target, else into the
outbound queue. When a notice is sent is the sender's choice (log entry 8), and which doings are one event is the model's
reading (log entry 47). -/
def Obligations.NoticesRaisedAndSent : Prop :=
  ([NoticeKind.port, .ring, .reach, .clock, .image, .restarted, .bank, .owner, .converter, .stepLate, .clip, .talkRefused
      , .talkEnded].map fun k => (k.code, k.cls))
    = [(1, 3), (2, 3), (3, 2), (4, 2), (5, 2), (6, 2), (7, 2), (8, 1), (9, 1), (10, 1), (11, 0), (12, 0), (13, 0)]
  ∧ (∀ (f : State → State) (s : State),
    let t := f (s.setRaised [])
    ∃ q : List Raised, q.Perm t.raised ∧ q.Pairwise (fun a b => a.subject ≤ b.subject)
      ∧ (∀ subject, q.filter (fun a => a.subject == subject) = t.raised.filter (fun a => a.subject == subject))
      ∧ (s.event f).notices = (q.foldl State.intake t).notices ∧ (s.event f).counters = (q.foldl State.intake t).counters
      ∧ (s.event f).raised = s.raised)
  ∧ (∀ (s : State) (k : NoticeKind) (subject : Nat) (d : List Byte),
    let t := s.intake ⟨k, subject, d⟩
    let known := ∃ n ∈ s.notices, n.kind = k ∧ n.subject = subject
    OnlyIn [.notices, .counters] s t ∧ CountersOutside [.noticesLost] s t
    ∧ (s.noticeEnabled k = false → t = s)
    ∧ (s.noticeEnabled k = true → known → t.counters = s.counters ∧ t.notices.length = s.notices.length
        ∧ ∀ (j : Nat) (n : Notice), s.notices[j]? = some n → ∃ n' : Notice, t.notices[j]? = some n' ∧ n'.kind = n.kind ∧ n'.subject = n.subject
            ∧ n'.detail = (if ¬ (n.kind = k ∧ n.subject = subject) then n.detail
                else if k = .port then [byteAt d 0 ||| (byteAt n.detail 0 &&& 0xF0#8)] else d)
            ∧ n'.merged = (if n.kind = k ∧ n.subject = subject then min (n.merged + 1) 255 else n.merged))
    ∧ (s.noticeEnabled k = true → ¬ known → s.notices.length < 16 →
        t.notices = s.notices ++ [⟨k, subject, d, 1⟩] ∧ t.counters = s.counters)
    ∧ (s.noticeEnabled k = true → ¬ known → 16 ≤ s.notices.length →
        t.counter .noticesLost = min (s.counter .noticesLost + 1) 65535
        ∧ ((∀ n ∈ s.notices, k.cls ≤ n.kind.cls) → t.notices = s.notices)
        ∧ ((∃ n ∈ s.notices, n.kind.cls < k.cls) → ∃ l₁ n l₂, s.notices = l₁ ++ n :: l₂
            ∧ (∀ m ∈ s.notices, n.kind.cls ≤ m.kind.cls) ∧ (∀ m ∈ l₂, n.kind.cls < m.kind.cls)
            ∧ t.notices = l₁ ++ l₂ ++ [⟨k, subject, d, 1⟩])))
  ∧ ∀ (s : State) (l₁ l₂ : List Notice) (n : Notice), s.notices = l₁ ++ n :: l₂ →
      (∀ m ∈ l₁, m.kind.cls < n.kind.cls) → (∀ m ∈ l₂, m.kind.cls ≤ n.kind.cls) →
      let own := s.isDesk = true ∧ s.sets.noticeTarget = s.id.val
      let payload := [byte n.kind.code, byte n.kind.cls, byte n.subject, byte n.merged] ++ n.detail
      let note : NodeId → Cell := fun d =>
        { dest := toNode d, destConsole := true, origin := s.id, originConsole := false, kind := 6, tag := 0
          length := payload.length, relayed := false, payload := .ofList 16 0 payload }
      (own → s.ring.state ≠ .dark → s.service.console.length < 16 →
        ∃ t, exec .noticeSend s = .next t ∧ OnlyIn [.service, .notices] s t ∧ t.notices = l₁ ++ l₂
          ∧ t.service = { s.service with console := s.service.console ++ [note s.id] })
      ∧ (∀ d : NodeId, ¬ own → s.sets.noticeTarget = d.val → s.isReachableDesk d = true → s.service.outbound.length < 16 →
        ∃ t, exec .noticeSend s = .next t ∧ OnlyIn [.service, .notices] s t ∧ t.notices = l₁ ++ l₂
          ∧ t.service = { s.service with outbound := s.service.outbound ++ [note d] })
      ∧ (own → 16 ≤ s.service.console.length → exec .noticeSend s = .next s)

/-- scale(x, c) is the floor of (x times M(c) plus 2^26) over 2^27. Scale by 192 returns x, by 0 returns 0, 5 by 176 gives 3
and -5 by 176 gives -2. Twice the distance of the result from x times M(c) over 2^27 is at most one, a half going up. For
codes at or below 192 the magnitude does not grow. The mix engine applies it to send samples, to the program sum for the
duck, to the talker's sample and to the sum before the master. -/
def Obligations.ScalingRoundsToNearest : Prop :=
  (∀ (s : State) (b : Bus) (x : Send) (i : Fin 8) (talker : Option (Fin 8)) (sum : Int) (duck : Nat),
    let sample : AudioSource → Int := fun a => match a with
      | .localIn m => (s.audio.localIn.get m.val).toInt
      | .ring sl => (s.present.slots.get sl.val).last.toInt
    (x.applied ≠ 0 → ∃ e, e ≤ 255 ∧ s.sendTerm x = scale (sample x.source) e)
    ∧ (duck ≠ 0 → ducked sum duck = scale sum (192 - duck))
    ∧ s.talkTerm b (some i) = scale (sample (s.talkSource i).audio) b.talkLevel
    ∧ s.masterResult b talker = scale (ducked (s.program b) b.duckApplied + s.talkTerm b talker) b.masterApplied)
  ∧ ∀ (x : Int) (c : Nat), c ≤ 255 →
    scale x c = (x * multiplier c + 2 ^ 26) / 2 ^ 27
    ∧ scale x 192 = x ∧ scale x 0 = 0 ∧ scale 5 176 = 3 ∧ scale (-5) 176 = -2
    ∧ -(2 ^ 26) < scale x c * 2 ^ 27 - x * multiplier c ∧ scale x c * 2 ^ 27 - x * multiplier c ≤ 2 ^ 26
    ∧ (c ≤ 192 → (scale x c).natAbs ≤ x.natAbs)

/-- At a STAGE node's boundary a bus whose ramp counter is above 0 counts it down. One whose counter is 0 has its expiry: the
counter reloads, the master and every send step one code toward their targets, draining sends at 0 leave, and without a talker
the duck moves one code toward 0. A talker moves the duck one code toward its depth at every boundary. Where the expiry has
been taken ahead, only the duck moves, from its value before that expiry, or from the value written since; that is the model's
choice (log entry 11). Its output is then the master's scaling of the ducked sum of its send terms, each scaled by the applied
code with its trim brought within 1 to 255 and 0 at code 0, plus the talker scaled by the talk level, clamped to 24 bits. The
clip count rises by one exactly where the clamp changed the result. The talker is the in-service source of the highest class
whose target set holds the bus, and none where no in-service source's does. Levels otherwise, the other buses and outputs
stay. A local output is scaled by 192 plus its drop trim and the tracking term of its ring slot, clamped to 1 to 255, and
clamped to 24 bits: the slot presented, the bus output, which is 0 at a DESK node, or the local input, where channel 15 of a
DESK node gives 0. A silent output is 0, and local output 15 of a DESK node carries the console lane. -/
def Obligations.BusesMixed : Prop :=
  (∀ (s : State) (n : Nat), n < 64 →
    let t := s.outputs
    let term : Fin 128 → Int := fun sl =>
      let e := (s.planAt s.present.lastCapture).get sl.val
      match e.inserter, e.source with
      | some m, .localIn k => if (s.reachOf m).role = some .stage then s.tracking.table.get (m.val * 64 + k.val) else 0
      | _, _ => 0
    let gain := fun x : Int => (max 1 (min (192 + s.plan.dtrim.get n + x) 255)).toNat
    let clamped := fun x : Int => max (-8388608) (min x 8388607)
    OnlyIn [.audio] s t ∧ t.audio.localIn = s.audio.localIn ∧ t.audio.busOut = s.audio.busOut
    ∧ (s.isDesk = true → n = 15 → t.audio.localOut.get n = s.consoleSample)
    ∧ (s.isDesk = false ∨ n ≠ 15 →
        (∀ sl, s.activeDrops.get n = .ring sl → (t.audio.localOut.get n).toInt
          = clamped (scale (s.present.slots.get sl.val).last.toInt (gain (term sl))))
        ∧ (∀ b, s.activeDrops.get n = .bus b → (t.audio.localOut.get n).toInt
          = if s.isDesk = true then 0 else clamped (scale (s.audio.busOut.get b.val).toInt (gain 0)))
        ∧ (∀ k, s.activeDrops.get n = .localIn k → (t.audio.localOut.get n).toInt
          = if s.isDesk = true ∧ k = 15 then 0 else clamped (scale (s.audio.localIn.get k.val).toInt (gain 0)))
        ∧ (s.activeDrops.get n = .silent → (t.audio.localOut.get n).toInt = 0)))
  ∧ ∀ (s : State) (n : Nat), n < 16 →
    let old := s.bus n
    let toward := fun x target : Nat => if x < target then x + 1 else if target < x then x - 1 else x
    let moved := fun duck still : Nat => if (s.talker n).isSome then toward duck old.duckDepth else still
    let b : Bus :=
      if old.rampTaken then { old with
        duckApplied := (match old.duckBefore with
          | some d => moved d (d - 1)
          | none => moved old.duckApplied old.duckApplied)
        rampTaken := false, duckBefore := none }
      else if old.ramp = 0 then { old with
        ramp := old.prescaler
        masterApplied := toward old.masterApplied old.masterTarget
        duckApplied := moved old.duckApplied (old.duckApplied - 1)
        sends := (old.sends.map fun x => { x with applied := toward x.applied x.target }).filter
          fun x => !(x.draining && x.applied == 0) }
      else { old with ramp := old.ramp - 1, duckApplied := moved old.duckApplied old.duckApplied }
    let sample : AudioSource → Int := fun a => match a with
      | .localIn m => (s.audio.localIn.get m.val).toInt
      | .ring sl => (s.present.slots.get sl.val).last.toInt
    let trim : AudioSource → Int := fun a => match a with
      | .localIn m => s.tracking.strim.get m.val
      | .ring sl => s.trackingTerm sl.val
    let term : Send → Int := fun x => if x.applied = 0 then 0
      else scale (sample x.source) (max 1 (min ((x.applied : Int) + trim x.source) 255)).toNat
    let program := (b.sends.map term).sum
    let talk := (s.talker n).elim 0 fun i => scale (sample (s.talkSource i).audio) old.talkLevel
    let y := scale ((if b.duckApplied = 0 then program else scale program (192 - b.duckApplied)) + talk) b.masterApplied
    let t := State.mixBus n s
    OnlyIn [.buses, .audio, .notices, .counters] s t
    ∧ (t.audio.busOut.get n).toInt = max (-8388608) (min y 8388607)
    ∧ (∀ m, m ≠ n → t.audio.busOut.get m = s.audio.busOut.get m ∧ t.bus m = s.bus m)
    ∧ t.audio.localIn = s.audio.localIn
    ∧ t.bus n = { b with clips := if -8388608 ≤ y ∧ y ≤ 8388607 then old.clips else min (old.clips + 1) 65535 }
    ∧ (let speaks := fun (c : Nat) (i : Fin 8) =>
        c < 4 ∧ (s.talkRow c).inService = some i ∧ (s.talkSource i).targets.getLsbD n = true
      (∀ i, s.talker n = some i ↔ ∃ c, speaks c i ∧ ∀ d j, c < d → ¬ speaks d j)
      ∧ (s.talker n = none ↔ ∀ c i, ¬ speaks c i))

/-- Right after a hard reset, whatever the straps and the waiting commands, the notice queue's law, the talk register's, the
send lists', the arbiter's, the queues' capacities, the stored samples' law, the ranges of the local numbers, the ports' and the spans' laws and the
law of the pending changes hold. The laws speak of the model's start values too (log entry 3). -/
def Obligations.LawsHoldAtReset : Prop :=
  ∀ (id : NodeId) (role : Role) (protect : Bool) (q : List Instr),
    let s := State.ofStraps id role protect q
    NoticeLaw s ∧ TalkLaw s ∧ SendLaw s ∧ RankLaw s ∧ QueueLaw s ∧ FiledLaw s ∧ NumberLaw s ∧ PortLaw s ∧ SpanLaw s ∧ DeltaLaw s

/-- From every state whose notice queue holds at most 16 notices, no two with the same kind and subject, every step answers
a state whose notice queue does too. -/
def Obligations.NoticeLawKept : Prop :=
  ∀ s t : State, NoticeLaw s → step s = .next t → NoticeLaw t

/-- From every state in which each class's holding entry is occupied only while the in-service entry is, and each source
stands in the row of its own class alone and in one entry of it, every step answers a state in which that holds. -/
def Obligations.TalkLawKept : Prop :=
  ∀ s t : State, TalkLaw s → step s = .next t → TalkLaw t

/-- Every step keeps each bus's send list at 32 sends at most with no source twice, the arbitration ranks a permutation of 0
to 3, every queue within its capacity, and the stored samples of each slot in rising positions of the presentation buffer. -/
def Obligations.ListsAndQueuesKept : Prop :=
  ∀ s t : State, step s = .next t →
    (SendLaw s → SendLaw t) ∧ (RankLaw s → RankLaw t) ∧ (QueueLaw s → QueueLaw t) ∧ (FiledLaw s → FiledLaw t)

/-- Every step keeps the frame number below 48, the superframe number below 65536 and the two counts at 8 or less; LOCKED
set exactly in the lock state LOCKED with FAR_FAULT and TURNED clear outside it; and ready, unwrap superframe and namer of
each span to the states that have them. -/
def Obligations.NumbersPortsAndSpansKept : Prop :=
  ∀ s t : State, step s = .next t →
    (NumberLaw s → NumberLaw t) ∧ (PortLaw s → PortLaw t) ∧ (SpanLaw s → SpanLaw t)

/-- The law of the pending changes is kept by every step. From a state that has it, under any command but a hard reset, an
image load, a RESTART or a STRIM write, an input whose trim-limit flag is clear afterwards keeps four times its effective
steps plus its stage trim, unless a change of it was pending whose exempt party is the node's party, or a frame is received
in frame 0 while a next target of that party waits: a load of the counters takes first what is due, and a next target that
follows it may be skipped by that same load (log entry 6). -/
def Obligations.LevelsHeldAcrossGainChanges : Prop :=
  ∀ s t : State, DeltaLaw s →
    (step s = .next t → DeltaLaw t)
    ∧ ∀ c : Instr, exec c s = .next t → c ≠ .restart → c ≠ .writeStrim → (∀ id r p, c ≠ .hardReset id r p) →
        (∀ m, c ≠ .imageLoadComplete m) → ∀ n, n < 64 → (t.entry n).trimLimit = false →
        t.level n = s.level n ∨ (∃ x, (s.entry n).pending = some x ∧ s.party = x.exempt.val)
        ∨ ((∃ p period, c = .receiveFrame p period) ∧ s.timing.frame = 0
            ∧ ∃ y, (s.entry n).next = some y ∧ s.party = y.requester.val)
end

