-- ==== Sys2Proof/Laws/State.lean ====
section
/-! SUPPORT. What each update of the state leaves: one lemma per field and update, so that no proof unfolds one. -/

namespace Sys2Proof.Machine

@[simp] theorem State.setStraps_straps (s : State) (x : Straps) : (s.setStraps x).straps = x := rfl
@[simp] theorem State.setStraps_portE (s : State) (x : Straps) : (s.setStraps x).portE = s.portE := rfl
@[simp] theorem State.setStraps_portW (s : State) (x : Straps) : (s.setStraps x).portW = s.portW := rfl
@[simp] theorem State.setStraps_timing (s : State) (x : Straps) : (s.setStraps x).timing = s.timing := rfl
@[simp] theorem State.setStraps_ring (s : State) (x : Straps) : (s.setStraps x).ring = s.ring := rfl
@[simp] theorem State.setStraps_members (s : State) (x : Straps) : (s.setStraps x).members = s.members := rfl
@[simp] theorem State.setStraps_service (s : State) (x : Straps) : (s.setStraps x).service = s.service := rfl
@[simp] theorem State.setStraps_plan (s : State) (x : Straps) : (s.setStraps x).plan = s.plan := rfl
@[simp] theorem State.setStraps_present (s : State) (x : Straps) : (s.setStraps x).present = s.present := rfl
@[simp] theorem State.setStraps_checker (s : State) (x : Straps) : (s.setStraps x).checker = s.checker := rfl
@[simp] theorem State.setStraps_audio (s : State) (x : Straps) : (s.setStraps x).audio = s.audio := rfl
@[simp] theorem State.setStraps_preamp (s : State) (x : Straps) : (s.setStraps x).preamp = s.preamp := rfl
@[simp] theorem State.setStraps_tracking (s : State) (x : Straps) : (s.setStraps x).tracking = s.tracking := rfl
@[simp] theorem State.setStraps_buses (s : State) (x : Straps) : (s.setStraps x).buses = s.buses := rfl
@[simp] theorem State.setStraps_talk (s : State) (x : Straps) : (s.setStraps x).talk = s.talk := rfl
@[simp] theorem State.setStraps_lines (s : State) (x : Straps) : (s.setStraps x).lines = s.lines := rfl
@[simp] theorem State.setStraps_sets (s : State) (x : Straps) : (s.setStraps x).sets = s.sets := rfl
@[simp] theorem State.setStraps_notices (s : State) (x : Straps) : (s.setStraps x).notices = s.notices := rfl
@[simp] theorem State.setStraps_raised (s : State) (x : Straps) : (s.setStraps x).raised = s.raised := rfl
@[simp] theorem State.setStraps_counters (s : State) (x : Straps) : (s.setStraps x).counters = s.counters := rfl
@[simp] theorem State.setStraps_image (s : State) (x : Straps) : (s.setStraps x).image = s.image := rfl
@[simp] theorem State.setStraps_pending (s : State) (x : Straps) : (s.setStraps x).pending = s.pending := rfl

@[simp] theorem State.setPortE_straps (s : State) (x : Port) : (s.setPortE x).straps = s.straps := rfl
@[simp] theorem State.setPortE_portE (s : State) (x : Port) : (s.setPortE x).portE = x := rfl
@[simp] theorem State.setPortE_portW (s : State) (x : Port) : (s.setPortE x).portW = s.portW := rfl
@[simp] theorem State.setPortE_timing (s : State) (x : Port) : (s.setPortE x).timing = s.timing := rfl
@[simp] theorem State.setPortE_ring (s : State) (x : Port) : (s.setPortE x).ring = s.ring := rfl
@[simp] theorem State.setPortE_members (s : State) (x : Port) : (s.setPortE x).members = s.members := rfl
@[simp] theorem State.setPortE_service (s : State) (x : Port) : (s.setPortE x).service = s.service := rfl
@[simp] theorem State.setPortE_plan (s : State) (x : Port) : (s.setPortE x).plan = s.plan := rfl
@[simp] theorem State.setPortE_present (s : State) (x : Port) : (s.setPortE x).present = s.present := rfl
@[simp] theorem State.setPortE_checker (s : State) (x : Port) : (s.setPortE x).checker = s.checker := rfl
@[simp] theorem State.setPortE_audio (s : State) (x : Port) : (s.setPortE x).audio = s.audio := rfl
@[simp] theorem State.setPortE_preamp (s : State) (x : Port) : (s.setPortE x).preamp = s.preamp := rfl
@[simp] theorem State.setPortE_tracking (s : State) (x : Port) : (s.setPortE x).tracking = s.tracking := rfl
@[simp] theorem State.setPortE_buses (s : State) (x : Port) : (s.setPortE x).buses = s.buses := rfl
@[simp] theorem State.setPortE_talk (s : State) (x : Port) : (s.setPortE x).talk = s.talk := rfl
@[simp] theorem State.setPortE_lines (s : State) (x : Port) : (s.setPortE x).lines = s.lines := rfl
@[simp] theorem State.setPortE_sets (s : State) (x : Port) : (s.setPortE x).sets = s.sets := rfl
@[simp] theorem State.setPortE_notices (s : State) (x : Port) : (s.setPortE x).notices = s.notices := rfl
@[simp] theorem State.setPortE_raised (s : State) (x : Port) : (s.setPortE x).raised = s.raised := rfl
@[simp] theorem State.setPortE_counters (s : State) (x : Port) : (s.setPortE x).counters = s.counters := rfl
@[simp] theorem State.setPortE_image (s : State) (x : Port) : (s.setPortE x).image = s.image := rfl
@[simp] theorem State.setPortE_pending (s : State) (x : Port) : (s.setPortE x).pending = s.pending := rfl

@[simp] theorem State.setPortW_straps (s : State) (x : Port) : (s.setPortW x).straps = s.straps := rfl
@[simp] theorem State.setPortW_portE (s : State) (x : Port) : (s.setPortW x).portE = s.portE := rfl
@[simp] theorem State.setPortW_portW (s : State) (x : Port) : (s.setPortW x).portW = x := rfl
@[simp] theorem State.setPortW_timing (s : State) (x : Port) : (s.setPortW x).timing = s.timing := rfl
@[simp] theorem State.setPortW_ring (s : State) (x : Port) : (s.setPortW x).ring = s.ring := rfl
@[simp] theorem State.setPortW_members (s : State) (x : Port) : (s.setPortW x).members = s.members := rfl
@[simp] theorem State.setPortW_service (s : State) (x : Port) : (s.setPortW x).service = s.service := rfl
@[simp] theorem State.setPortW_plan (s : State) (x : Port) : (s.setPortW x).plan = s.plan := rfl
@[simp] theorem State.setPortW_present (s : State) (x : Port) : (s.setPortW x).present = s.present := rfl
@[simp] theorem State.setPortW_checker (s : State) (x : Port) : (s.setPortW x).checker = s.checker := rfl
@[simp] theorem State.setPortW_audio (s : State) (x : Port) : (s.setPortW x).audio = s.audio := rfl
@[simp] theorem State.setPortW_preamp (s : State) (x : Port) : (s.setPortW x).preamp = s.preamp := rfl
@[simp] theorem State.setPortW_tracking (s : State) (x : Port) : (s.setPortW x).tracking = s.tracking := rfl
@[simp] theorem State.setPortW_buses (s : State) (x : Port) : (s.setPortW x).buses = s.buses := rfl
@[simp] theorem State.setPortW_talk (s : State) (x : Port) : (s.setPortW x).talk = s.talk := rfl
@[simp] theorem State.setPortW_lines (s : State) (x : Port) : (s.setPortW x).lines = s.lines := rfl
@[simp] theorem State.setPortW_sets (s : State) (x : Port) : (s.setPortW x).sets = s.sets := rfl
@[simp] theorem State.setPortW_notices (s : State) (x : Port) : (s.setPortW x).notices = s.notices := rfl
@[simp] theorem State.setPortW_raised (s : State) (x : Port) : (s.setPortW x).raised = s.raised := rfl
@[simp] theorem State.setPortW_counters (s : State) (x : Port) : (s.setPortW x).counters = s.counters := rfl
@[simp] theorem State.setPortW_image (s : State) (x : Port) : (s.setPortW x).image = s.image := rfl
@[simp] theorem State.setPortW_pending (s : State) (x : Port) : (s.setPortW x).pending = s.pending := rfl

@[simp] theorem State.setTiming_straps (s : State) (x : Timing) : (s.setTiming x).straps = s.straps := rfl
@[simp] theorem State.setTiming_portE (s : State) (x : Timing) : (s.setTiming x).portE = s.portE := rfl
@[simp] theorem State.setTiming_portW (s : State) (x : Timing) : (s.setTiming x).portW = s.portW := rfl
@[simp] theorem State.setTiming_timing (s : State) (x : Timing) : (s.setTiming x).timing = x := rfl
@[simp] theorem State.setTiming_ring (s : State) (x : Timing) : (s.setTiming x).ring = s.ring := rfl
@[simp] theorem State.setTiming_members (s : State) (x : Timing) : (s.setTiming x).members = s.members := rfl
@[simp] theorem State.setTiming_service (s : State) (x : Timing) : (s.setTiming x).service = s.service := rfl
@[simp] theorem State.setTiming_plan (s : State) (x : Timing) : (s.setTiming x).plan = s.plan := rfl
@[simp] theorem State.setTiming_present (s : State) (x : Timing) : (s.setTiming x).present = s.present := rfl
@[simp] theorem State.setTiming_checker (s : State) (x : Timing) : (s.setTiming x).checker = s.checker := rfl
@[simp] theorem State.setTiming_audio (s : State) (x : Timing) : (s.setTiming x).audio = s.audio := rfl
@[simp] theorem State.setTiming_preamp (s : State) (x : Timing) : (s.setTiming x).preamp = s.preamp := rfl
@[simp] theorem State.setTiming_tracking (s : State) (x : Timing) : (s.setTiming x).tracking = s.tracking := rfl
@[simp] theorem State.setTiming_buses (s : State) (x : Timing) : (s.setTiming x).buses = s.buses := rfl
@[simp] theorem State.setTiming_talk (s : State) (x : Timing) : (s.setTiming x).talk = s.talk := rfl
@[simp] theorem State.setTiming_lines (s : State) (x : Timing) : (s.setTiming x).lines = s.lines := rfl
@[simp] theorem State.setTiming_sets (s : State) (x : Timing) : (s.setTiming x).sets = s.sets := rfl
@[simp] theorem State.setTiming_notices (s : State) (x : Timing) : (s.setTiming x).notices = s.notices := rfl
@[simp] theorem State.setTiming_raised (s : State) (x : Timing) : (s.setTiming x).raised = s.raised := rfl
@[simp] theorem State.setTiming_counters (s : State) (x : Timing) : (s.setTiming x).counters = s.counters := rfl
@[simp] theorem State.setTiming_image (s : State) (x : Timing) : (s.setTiming x).image = s.image := rfl
@[simp] theorem State.setTiming_pending (s : State) (x : Timing) : (s.setTiming x).pending = s.pending := rfl

@[simp] theorem State.setRing_straps (s : State) (x : Ring) : (s.setRing x).straps = s.straps := rfl
@[simp] theorem State.setRing_portE (s : State) (x : Ring) : (s.setRing x).portE = s.portE := rfl
@[simp] theorem State.setRing_portW (s : State) (x : Ring) : (s.setRing x).portW = s.portW := rfl
@[simp] theorem State.setRing_timing (s : State) (x : Ring) : (s.setRing x).timing = s.timing := rfl
@[simp] theorem State.setRing_ring (s : State) (x : Ring) : (s.setRing x).ring = x := rfl
@[simp] theorem State.setRing_members (s : State) (x : Ring) : (s.setRing x).members = s.members := rfl
@[simp] theorem State.setRing_service (s : State) (x : Ring) : (s.setRing x).service = s.service := rfl
@[simp] theorem State.setRing_plan (s : State) (x : Ring) : (s.setRing x).plan = s.plan := rfl
@[simp] theorem State.setRing_present (s : State) (x : Ring) : (s.setRing x).present = s.present := rfl
@[simp] theorem State.setRing_checker (s : State) (x : Ring) : (s.setRing x).checker = s.checker := rfl
@[simp] theorem State.setRing_audio (s : State) (x : Ring) : (s.setRing x).audio = s.audio := rfl
@[simp] theorem State.setRing_preamp (s : State) (x : Ring) : (s.setRing x).preamp = s.preamp := rfl
@[simp] theorem State.setRing_tracking (s : State) (x : Ring) : (s.setRing x).tracking = s.tracking := rfl
@[simp] theorem State.setRing_buses (s : State) (x : Ring) : (s.setRing x).buses = s.buses := rfl
@[simp] theorem State.setRing_talk (s : State) (x : Ring) : (s.setRing x).talk = s.talk := rfl
@[simp] theorem State.setRing_lines (s : State) (x : Ring) : (s.setRing x).lines = s.lines := rfl
@[simp] theorem State.setRing_sets (s : State) (x : Ring) : (s.setRing x).sets = s.sets := rfl
@[simp] theorem State.setRing_notices (s : State) (x : Ring) : (s.setRing x).notices = s.notices := rfl
@[simp] theorem State.setRing_raised (s : State) (x : Ring) : (s.setRing x).raised = s.raised := rfl
@[simp] theorem State.setRing_counters (s : State) (x : Ring) : (s.setRing x).counters = s.counters := rfl
@[simp] theorem State.setRing_image (s : State) (x : Ring) : (s.setRing x).image = s.image := rfl
@[simp] theorem State.setRing_pending (s : State) (x : Ring) : (s.setRing x).pending = s.pending := rfl

@[simp] theorem State.setMembers_straps (s : State) (x : Members) : (s.setMembers x).straps = s.straps := rfl
@[simp] theorem State.setMembers_portE (s : State) (x : Members) : (s.setMembers x).portE = s.portE := rfl
@[simp] theorem State.setMembers_portW (s : State) (x : Members) : (s.setMembers x).portW = s.portW := rfl
@[simp] theorem State.setMembers_timing (s : State) (x : Members) : (s.setMembers x).timing = s.timing := rfl
@[simp] theorem State.setMembers_ring (s : State) (x : Members) : (s.setMembers x).ring = s.ring := rfl
@[simp] theorem State.setMembers_members (s : State) (x : Members) : (s.setMembers x).members = x := rfl
@[simp] theorem State.setMembers_service (s : State) (x : Members) : (s.setMembers x).service = s.service := rfl
@[simp] theorem State.setMembers_plan (s : State) (x : Members) : (s.setMembers x).plan = s.plan := rfl
@[simp] theorem State.setMembers_present (s : State) (x : Members) : (s.setMembers x).present = s.present := rfl
@[simp] theorem State.setMembers_checker (s : State) (x : Members) : (s.setMembers x).checker = s.checker := rfl
@[simp] theorem State.setMembers_audio (s : State) (x : Members) : (s.setMembers x).audio = s.audio := rfl
@[simp] theorem State.setMembers_preamp (s : State) (x : Members) : (s.setMembers x).preamp = s.preamp := rfl
@[simp] theorem State.setMembers_tracking (s : State) (x : Members) : (s.setMembers x).tracking = s.tracking := rfl
@[simp] theorem State.setMembers_buses (s : State) (x : Members) : (s.setMembers x).buses = s.buses := rfl
@[simp] theorem State.setMembers_talk (s : State) (x : Members) : (s.setMembers x).talk = s.talk := rfl
@[simp] theorem State.setMembers_lines (s : State) (x : Members) : (s.setMembers x).lines = s.lines := rfl
@[simp] theorem State.setMembers_sets (s : State) (x : Members) : (s.setMembers x).sets = s.sets := rfl
@[simp] theorem State.setMembers_notices (s : State) (x : Members) : (s.setMembers x).notices = s.notices := rfl
@[simp] theorem State.setMembers_raised (s : State) (x : Members) : (s.setMembers x).raised = s.raised := rfl
@[simp] theorem State.setMembers_counters (s : State) (x : Members) : (s.setMembers x).counters = s.counters := rfl
@[simp] theorem State.setMembers_image (s : State) (x : Members) : (s.setMembers x).image = s.image := rfl
@[simp] theorem State.setMembers_pending (s : State) (x : Members) : (s.setMembers x).pending = s.pending := rfl

@[simp] theorem State.setService_straps (s : State) (x : Service) : (s.setService x).straps = s.straps := rfl
@[simp] theorem State.setService_portE (s : State) (x : Service) : (s.setService x).portE = s.portE := rfl
@[simp] theorem State.setService_portW (s : State) (x : Service) : (s.setService x).portW = s.portW := rfl
@[simp] theorem State.setService_timing (s : State) (x : Service) : (s.setService x).timing = s.timing := rfl
@[simp] theorem State.setService_ring (s : State) (x : Service) : (s.setService x).ring = s.ring := rfl
@[simp] theorem State.setService_members (s : State) (x : Service) : (s.setService x).members = s.members := rfl
@[simp] theorem State.setService_service (s : State) (x : Service) : (s.setService x).service = x := rfl
@[simp] theorem State.setService_plan (s : State) (x : Service) : (s.setService x).plan = s.plan := rfl
@[simp] theorem State.setService_present (s : State) (x : Service) : (s.setService x).present = s.present := rfl
@[simp] theorem State.setService_checker (s : State) (x : Service) : (s.setService x).checker = s.checker := rfl
@[simp] theorem State.setService_audio (s : State) (x : Service) : (s.setService x).audio = s.audio := rfl
@[simp] theorem State.setService_preamp (s : State) (x : Service) : (s.setService x).preamp = s.preamp := rfl
@[simp] theorem State.setService_tracking (s : State) (x : Service) : (s.setService x).tracking = s.tracking := rfl
@[simp] theorem State.setService_buses (s : State) (x : Service) : (s.setService x).buses = s.buses := rfl
@[simp] theorem State.setService_talk (s : State) (x : Service) : (s.setService x).talk = s.talk := rfl
@[simp] theorem State.setService_lines (s : State) (x : Service) : (s.setService x).lines = s.lines := rfl
@[simp] theorem State.setService_sets (s : State) (x : Service) : (s.setService x).sets = s.sets := rfl
@[simp] theorem State.setService_notices (s : State) (x : Service) : (s.setService x).notices = s.notices := rfl
@[simp] theorem State.setService_raised (s : State) (x : Service) : (s.setService x).raised = s.raised := rfl
@[simp] theorem State.setService_counters (s : State) (x : Service) : (s.setService x).counters = s.counters := rfl
@[simp] theorem State.setService_image (s : State) (x : Service) : (s.setService x).image = s.image := rfl
@[simp] theorem State.setService_pending (s : State) (x : Service) : (s.setService x).pending = s.pending := rfl

@[simp] theorem State.setPlan_straps (s : State) (x : Plan) : (s.setPlan x).straps = s.straps := rfl
@[simp] theorem State.setPlan_portE (s : State) (x : Plan) : (s.setPlan x).portE = s.portE := rfl
@[simp] theorem State.setPlan_portW (s : State) (x : Plan) : (s.setPlan x).portW = s.portW := rfl
@[simp] theorem State.setPlan_timing (s : State) (x : Plan) : (s.setPlan x).timing = s.timing := rfl
@[simp] theorem State.setPlan_ring (s : State) (x : Plan) : (s.setPlan x).ring = s.ring := rfl
@[simp] theorem State.setPlan_members (s : State) (x : Plan) : (s.setPlan x).members = s.members := rfl
@[simp] theorem State.setPlan_service (s : State) (x : Plan) : (s.setPlan x).service = s.service := rfl
@[simp] theorem State.setPlan_plan (s : State) (x : Plan) : (s.setPlan x).plan = x := rfl
@[simp] theorem State.setPlan_present (s : State) (x : Plan) : (s.setPlan x).present = s.present := rfl
@[simp] theorem State.setPlan_checker (s : State) (x : Plan) : (s.setPlan x).checker = s.checker := rfl
@[simp] theorem State.setPlan_audio (s : State) (x : Plan) : (s.setPlan x).audio = s.audio := rfl
@[simp] theorem State.setPlan_preamp (s : State) (x : Plan) : (s.setPlan x).preamp = s.preamp := rfl
@[simp] theorem State.setPlan_tracking (s : State) (x : Plan) : (s.setPlan x).tracking = s.tracking := rfl
@[simp] theorem State.setPlan_buses (s : State) (x : Plan) : (s.setPlan x).buses = s.buses := rfl
@[simp] theorem State.setPlan_talk (s : State) (x : Plan) : (s.setPlan x).talk = s.talk := rfl
@[simp] theorem State.setPlan_lines (s : State) (x : Plan) : (s.setPlan x).lines = s.lines := rfl
@[simp] theorem State.setPlan_sets (s : State) (x : Plan) : (s.setPlan x).sets = s.sets := rfl
@[simp] theorem State.setPlan_notices (s : State) (x : Plan) : (s.setPlan x).notices = s.notices := rfl
@[simp] theorem State.setPlan_raised (s : State) (x : Plan) : (s.setPlan x).raised = s.raised := rfl
@[simp] theorem State.setPlan_counters (s : State) (x : Plan) : (s.setPlan x).counters = s.counters := rfl
@[simp] theorem State.setPlan_image (s : State) (x : Plan) : (s.setPlan x).image = s.image := rfl
@[simp] theorem State.setPlan_pending (s : State) (x : Plan) : (s.setPlan x).pending = s.pending := rfl

@[simp] theorem State.setPresent_straps (s : State) (x : Present) : (s.setPresent x).straps = s.straps := rfl
@[simp] theorem State.setPresent_portE (s : State) (x : Present) : (s.setPresent x).portE = s.portE := rfl
@[simp] theorem State.setPresent_portW (s : State) (x : Present) : (s.setPresent x).portW = s.portW := rfl
@[simp] theorem State.setPresent_timing (s : State) (x : Present) : (s.setPresent x).timing = s.timing := rfl
@[simp] theorem State.setPresent_ring (s : State) (x : Present) : (s.setPresent x).ring = s.ring := rfl
@[simp] theorem State.setPresent_members (s : State) (x : Present) : (s.setPresent x).members = s.members := rfl
@[simp] theorem State.setPresent_service (s : State) (x : Present) : (s.setPresent x).service = s.service := rfl
@[simp] theorem State.setPresent_plan (s : State) (x : Present) : (s.setPresent x).plan = s.plan := rfl
@[simp] theorem State.setPresent_present (s : State) (x : Present) : (s.setPresent x).present = x := rfl
@[simp] theorem State.setPresent_checker (s : State) (x : Present) : (s.setPresent x).checker = s.checker := rfl
@[simp] theorem State.setPresent_audio (s : State) (x : Present) : (s.setPresent x).audio = s.audio := rfl
@[simp] theorem State.setPresent_preamp (s : State) (x : Present) : (s.setPresent x).preamp = s.preamp := rfl
@[simp] theorem State.setPresent_tracking (s : State) (x : Present) : (s.setPresent x).tracking = s.tracking := rfl
@[simp] theorem State.setPresent_buses (s : State) (x : Present) : (s.setPresent x).buses = s.buses := rfl
@[simp] theorem State.setPresent_talk (s : State) (x : Present) : (s.setPresent x).talk = s.talk := rfl
@[simp] theorem State.setPresent_lines (s : State) (x : Present) : (s.setPresent x).lines = s.lines := rfl
@[simp] theorem State.setPresent_sets (s : State) (x : Present) : (s.setPresent x).sets = s.sets := rfl
@[simp] theorem State.setPresent_notices (s : State) (x : Present) : (s.setPresent x).notices = s.notices := rfl
@[simp] theorem State.setPresent_raised (s : State) (x : Present) : (s.setPresent x).raised = s.raised := rfl
@[simp] theorem State.setPresent_counters (s : State) (x : Present) : (s.setPresent x).counters = s.counters := rfl
@[simp] theorem State.setPresent_image (s : State) (x : Present) : (s.setPresent x).image = s.image := rfl
@[simp] theorem State.setPresent_pending (s : State) (x : Present) : (s.setPresent x).pending = s.pending := rfl

@[simp] theorem State.setChecker_straps (s : State) (x : Checker) : (s.setChecker x).straps = s.straps := rfl
@[simp] theorem State.setChecker_portE (s : State) (x : Checker) : (s.setChecker x).portE = s.portE := rfl
@[simp] theorem State.setChecker_portW (s : State) (x : Checker) : (s.setChecker x).portW = s.portW := rfl
@[simp] theorem State.setChecker_timing (s : State) (x : Checker) : (s.setChecker x).timing = s.timing := rfl
@[simp] theorem State.setChecker_ring (s : State) (x : Checker) : (s.setChecker x).ring = s.ring := rfl
@[simp] theorem State.setChecker_members (s : State) (x : Checker) : (s.setChecker x).members = s.members := rfl
@[simp] theorem State.setChecker_service (s : State) (x : Checker) : (s.setChecker x).service = s.service := rfl
@[simp] theorem State.setChecker_plan (s : State) (x : Checker) : (s.setChecker x).plan = s.plan := rfl
@[simp] theorem State.setChecker_present (s : State) (x : Checker) : (s.setChecker x).present = s.present := rfl
@[simp] theorem State.setChecker_checker (s : State) (x : Checker) : (s.setChecker x).checker = x := rfl
@[simp] theorem State.setChecker_audio (s : State) (x : Checker) : (s.setChecker x).audio = s.audio := rfl
@[simp] theorem State.setChecker_preamp (s : State) (x : Checker) : (s.setChecker x).preamp = s.preamp := rfl
@[simp] theorem State.setChecker_tracking (s : State) (x : Checker) : (s.setChecker x).tracking = s.tracking := rfl
@[simp] theorem State.setChecker_buses (s : State) (x : Checker) : (s.setChecker x).buses = s.buses := rfl
@[simp] theorem State.setChecker_talk (s : State) (x : Checker) : (s.setChecker x).talk = s.talk := rfl
@[simp] theorem State.setChecker_lines (s : State) (x : Checker) : (s.setChecker x).lines = s.lines := rfl
@[simp] theorem State.setChecker_sets (s : State) (x : Checker) : (s.setChecker x).sets = s.sets := rfl
@[simp] theorem State.setChecker_notices (s : State) (x : Checker) : (s.setChecker x).notices = s.notices := rfl
@[simp] theorem State.setChecker_raised (s : State) (x : Checker) : (s.setChecker x).raised = s.raised := rfl
@[simp] theorem State.setChecker_counters (s : State) (x : Checker) : (s.setChecker x).counters = s.counters := rfl
@[simp] theorem State.setChecker_image (s : State) (x : Checker) : (s.setChecker x).image = s.image := rfl
@[simp] theorem State.setChecker_pending (s : State) (x : Checker) : (s.setChecker x).pending = s.pending := rfl

@[simp] theorem State.setAudio_straps (s : State) (x : Audio) : (s.setAudio x).straps = s.straps := rfl
@[simp] theorem State.setAudio_portE (s : State) (x : Audio) : (s.setAudio x).portE = s.portE := rfl
@[simp] theorem State.setAudio_portW (s : State) (x : Audio) : (s.setAudio x).portW = s.portW := rfl
@[simp] theorem State.setAudio_timing (s : State) (x : Audio) : (s.setAudio x).timing = s.timing := rfl
@[simp] theorem State.setAudio_ring (s : State) (x : Audio) : (s.setAudio x).ring = s.ring := rfl
@[simp] theorem State.setAudio_members (s : State) (x : Audio) : (s.setAudio x).members = s.members := rfl
@[simp] theorem State.setAudio_service (s : State) (x : Audio) : (s.setAudio x).service = s.service := rfl
@[simp] theorem State.setAudio_plan (s : State) (x : Audio) : (s.setAudio x).plan = s.plan := rfl
@[simp] theorem State.setAudio_present (s : State) (x : Audio) : (s.setAudio x).present = s.present := rfl
@[simp] theorem State.setAudio_checker (s : State) (x : Audio) : (s.setAudio x).checker = s.checker := rfl
@[simp] theorem State.setAudio_audio (s : State) (x : Audio) : (s.setAudio x).audio = x := rfl
@[simp] theorem State.setAudio_preamp (s : State) (x : Audio) : (s.setAudio x).preamp = s.preamp := rfl
@[simp] theorem State.setAudio_tracking (s : State) (x : Audio) : (s.setAudio x).tracking = s.tracking := rfl
@[simp] theorem State.setAudio_buses (s : State) (x : Audio) : (s.setAudio x).buses = s.buses := rfl
@[simp] theorem State.setAudio_talk (s : State) (x : Audio) : (s.setAudio x).talk = s.talk := rfl
@[simp] theorem State.setAudio_lines (s : State) (x : Audio) : (s.setAudio x).lines = s.lines := rfl
@[simp] theorem State.setAudio_sets (s : State) (x : Audio) : (s.setAudio x).sets = s.sets := rfl
@[simp] theorem State.setAudio_notices (s : State) (x : Audio) : (s.setAudio x).notices = s.notices := rfl
@[simp] theorem State.setAudio_raised (s : State) (x : Audio) : (s.setAudio x).raised = s.raised := rfl
@[simp] theorem State.setAudio_counters (s : State) (x : Audio) : (s.setAudio x).counters = s.counters := rfl
@[simp] theorem State.setAudio_image (s : State) (x : Audio) : (s.setAudio x).image = s.image := rfl
@[simp] theorem State.setAudio_pending (s : State) (x : Audio) : (s.setAudio x).pending = s.pending := rfl

@[simp] theorem State.setPreamp_straps (s : State) (x : Preamp) : (s.setPreamp x).straps = s.straps := rfl
@[simp] theorem State.setPreamp_portE (s : State) (x : Preamp) : (s.setPreamp x).portE = s.portE := rfl
@[simp] theorem State.setPreamp_portW (s : State) (x : Preamp) : (s.setPreamp x).portW = s.portW := rfl
@[simp] theorem State.setPreamp_timing (s : State) (x : Preamp) : (s.setPreamp x).timing = s.timing := rfl
@[simp] theorem State.setPreamp_ring (s : State) (x : Preamp) : (s.setPreamp x).ring = s.ring := rfl
@[simp] theorem State.setPreamp_members (s : State) (x : Preamp) : (s.setPreamp x).members = s.members := rfl
@[simp] theorem State.setPreamp_service (s : State) (x : Preamp) : (s.setPreamp x).service = s.service := rfl
@[simp] theorem State.setPreamp_plan (s : State) (x : Preamp) : (s.setPreamp x).plan = s.plan := rfl
@[simp] theorem State.setPreamp_present (s : State) (x : Preamp) : (s.setPreamp x).present = s.present := rfl
@[simp] theorem State.setPreamp_checker (s : State) (x : Preamp) : (s.setPreamp x).checker = s.checker := rfl
@[simp] theorem State.setPreamp_audio (s : State) (x : Preamp) : (s.setPreamp x).audio = s.audio := rfl
@[simp] theorem State.setPreamp_preamp (s : State) (x : Preamp) : (s.setPreamp x).preamp = x := rfl
@[simp] theorem State.setPreamp_tracking (s : State) (x : Preamp) : (s.setPreamp x).tracking = s.tracking := rfl
@[simp] theorem State.setPreamp_buses (s : State) (x : Preamp) : (s.setPreamp x).buses = s.buses := rfl
@[simp] theorem State.setPreamp_talk (s : State) (x : Preamp) : (s.setPreamp x).talk = s.talk := rfl
@[simp] theorem State.setPreamp_lines (s : State) (x : Preamp) : (s.setPreamp x).lines = s.lines := rfl
@[simp] theorem State.setPreamp_sets (s : State) (x : Preamp) : (s.setPreamp x).sets = s.sets := rfl
@[simp] theorem State.setPreamp_notices (s : State) (x : Preamp) : (s.setPreamp x).notices = s.notices := rfl
@[simp] theorem State.setPreamp_raised (s : State) (x : Preamp) : (s.setPreamp x).raised = s.raised := rfl
@[simp] theorem State.setPreamp_counters (s : State) (x : Preamp) : (s.setPreamp x).counters = s.counters := rfl
@[simp] theorem State.setPreamp_image (s : State) (x : Preamp) : (s.setPreamp x).image = s.image := rfl
@[simp] theorem State.setPreamp_pending (s : State) (x : Preamp) : (s.setPreamp x).pending = s.pending := rfl

@[simp] theorem State.setTracking_straps (s : State) (x : Tracking) : (s.setTracking x).straps = s.straps := rfl
@[simp] theorem State.setTracking_portE (s : State) (x : Tracking) : (s.setTracking x).portE = s.portE := rfl
@[simp] theorem State.setTracking_portW (s : State) (x : Tracking) : (s.setTracking x).portW = s.portW := rfl
@[simp] theorem State.setTracking_timing (s : State) (x : Tracking) : (s.setTracking x).timing = s.timing := rfl
@[simp] theorem State.setTracking_ring (s : State) (x : Tracking) : (s.setTracking x).ring = s.ring := rfl
@[simp] theorem State.setTracking_members (s : State) (x : Tracking) : (s.setTracking x).members = s.members := rfl
@[simp] theorem State.setTracking_service (s : State) (x : Tracking) : (s.setTracking x).service = s.service := rfl
@[simp] theorem State.setTracking_plan (s : State) (x : Tracking) : (s.setTracking x).plan = s.plan := rfl
@[simp] theorem State.setTracking_present (s : State) (x : Tracking) : (s.setTracking x).present = s.present := rfl
@[simp] theorem State.setTracking_checker (s : State) (x : Tracking) : (s.setTracking x).checker = s.checker := rfl
@[simp] theorem State.setTracking_audio (s : State) (x : Tracking) : (s.setTracking x).audio = s.audio := rfl
@[simp] theorem State.setTracking_preamp (s : State) (x : Tracking) : (s.setTracking x).preamp = s.preamp := rfl
@[simp] theorem State.setTracking_tracking (s : State) (x : Tracking) : (s.setTracking x).tracking = x := rfl
@[simp] theorem State.setTracking_buses (s : State) (x : Tracking) : (s.setTracking x).buses = s.buses := rfl
@[simp] theorem State.setTracking_talk (s : State) (x : Tracking) : (s.setTracking x).talk = s.talk := rfl
@[simp] theorem State.setTracking_lines (s : State) (x : Tracking) : (s.setTracking x).lines = s.lines := rfl
@[simp] theorem State.setTracking_sets (s : State) (x : Tracking) : (s.setTracking x).sets = s.sets := rfl
@[simp] theorem State.setTracking_notices (s : State) (x : Tracking) : (s.setTracking x).notices = s.notices := rfl
@[simp] theorem State.setTracking_raised (s : State) (x : Tracking) : (s.setTracking x).raised = s.raised := rfl
@[simp] theorem State.setTracking_counters (s : State) (x : Tracking) : (s.setTracking x).counters = s.counters := rfl
@[simp] theorem State.setTracking_image (s : State) (x : Tracking) : (s.setTracking x).image = s.image := rfl
@[simp] theorem State.setTracking_pending (s : State) (x : Tracking) : (s.setTracking x).pending = s.pending := rfl

@[simp] theorem State.setBuses_straps (s : State) (x : Tab Bus 16) : (s.setBuses x).straps = s.straps := rfl
@[simp] theorem State.setBuses_portE (s : State) (x : Tab Bus 16) : (s.setBuses x).portE = s.portE := rfl
@[simp] theorem State.setBuses_portW (s : State) (x : Tab Bus 16) : (s.setBuses x).portW = s.portW := rfl
@[simp] theorem State.setBuses_timing (s : State) (x : Tab Bus 16) : (s.setBuses x).timing = s.timing := rfl
@[simp] theorem State.setBuses_ring (s : State) (x : Tab Bus 16) : (s.setBuses x).ring = s.ring := rfl
@[simp] theorem State.setBuses_members (s : State) (x : Tab Bus 16) : (s.setBuses x).members = s.members := rfl
@[simp] theorem State.setBuses_service (s : State) (x : Tab Bus 16) : (s.setBuses x).service = s.service := rfl
@[simp] theorem State.setBuses_plan (s : State) (x : Tab Bus 16) : (s.setBuses x).plan = s.plan := rfl
@[simp] theorem State.setBuses_present (s : State) (x : Tab Bus 16) : (s.setBuses x).present = s.present := rfl
@[simp] theorem State.setBuses_checker (s : State) (x : Tab Bus 16) : (s.setBuses x).checker = s.checker := rfl
@[simp] theorem State.setBuses_audio (s : State) (x : Tab Bus 16) : (s.setBuses x).audio = s.audio := rfl
@[simp] theorem State.setBuses_preamp (s : State) (x : Tab Bus 16) : (s.setBuses x).preamp = s.preamp := rfl
@[simp] theorem State.setBuses_tracking (s : State) (x : Tab Bus 16) : (s.setBuses x).tracking = s.tracking := rfl
@[simp] theorem State.setBuses_buses (s : State) (x : Tab Bus 16) : (s.setBuses x).buses = x := rfl
@[simp] theorem State.setBuses_talk (s : State) (x : Tab Bus 16) : (s.setBuses x).talk = s.talk := rfl
@[simp] theorem State.setBuses_lines (s : State) (x : Tab Bus 16) : (s.setBuses x).lines = s.lines := rfl
@[simp] theorem State.setBuses_sets (s : State) (x : Tab Bus 16) : (s.setBuses x).sets = s.sets := rfl
@[simp] theorem State.setBuses_notices (s : State) (x : Tab Bus 16) : (s.setBuses x).notices = s.notices := rfl
@[simp] theorem State.setBuses_raised (s : State) (x : Tab Bus 16) : (s.setBuses x).raised = s.raised := rfl
@[simp] theorem State.setBuses_counters (s : State) (x : Tab Bus 16) : (s.setBuses x).counters = s.counters := rfl
@[simp] theorem State.setBuses_image (s : State) (x : Tab Bus 16) : (s.setBuses x).image = s.image := rfl
@[simp] theorem State.setBuses_pending (s : State) (x : Tab Bus 16) : (s.setBuses x).pending = s.pending := rfl

@[simp] theorem State.setTalk_straps (s : State) (x : Talk) : (s.setTalk x).straps = s.straps := rfl
@[simp] theorem State.setTalk_portE (s : State) (x : Talk) : (s.setTalk x).portE = s.portE := rfl
@[simp] theorem State.setTalk_portW (s : State) (x : Talk) : (s.setTalk x).portW = s.portW := rfl
@[simp] theorem State.setTalk_timing (s : State) (x : Talk) : (s.setTalk x).timing = s.timing := rfl
@[simp] theorem State.setTalk_ring (s : State) (x : Talk) : (s.setTalk x).ring = s.ring := rfl
@[simp] theorem State.setTalk_members (s : State) (x : Talk) : (s.setTalk x).members = s.members := rfl
@[simp] theorem State.setTalk_service (s : State) (x : Talk) : (s.setTalk x).service = s.service := rfl
@[simp] theorem State.setTalk_plan (s : State) (x : Talk) : (s.setTalk x).plan = s.plan := rfl
@[simp] theorem State.setTalk_present (s : State) (x : Talk) : (s.setTalk x).present = s.present := rfl
@[simp] theorem State.setTalk_checker (s : State) (x : Talk) : (s.setTalk x).checker = s.checker := rfl
@[simp] theorem State.setTalk_audio (s : State) (x : Talk) : (s.setTalk x).audio = s.audio := rfl
@[simp] theorem State.setTalk_preamp (s : State) (x : Talk) : (s.setTalk x).preamp = s.preamp := rfl
@[simp] theorem State.setTalk_tracking (s : State) (x : Talk) : (s.setTalk x).tracking = s.tracking := rfl
@[simp] theorem State.setTalk_buses (s : State) (x : Talk) : (s.setTalk x).buses = s.buses := rfl
@[simp] theorem State.setTalk_talk (s : State) (x : Talk) : (s.setTalk x).talk = x := rfl
@[simp] theorem State.setTalk_lines (s : State) (x : Talk) : (s.setTalk x).lines = s.lines := rfl
@[simp] theorem State.setTalk_sets (s : State) (x : Talk) : (s.setTalk x).sets = s.sets := rfl
@[simp] theorem State.setTalk_notices (s : State) (x : Talk) : (s.setTalk x).notices = s.notices := rfl
@[simp] theorem State.setTalk_raised (s : State) (x : Talk) : (s.setTalk x).raised = s.raised := rfl
@[simp] theorem State.setTalk_counters (s : State) (x : Talk) : (s.setTalk x).counters = s.counters := rfl
@[simp] theorem State.setTalk_image (s : State) (x : Talk) : (s.setTalk x).image = s.image := rfl
@[simp] theorem State.setTalk_pending (s : State) (x : Talk) : (s.setTalk x).pending = s.pending := rfl

@[simp] theorem State.setLines_straps (s : State) (x : Lines) : (s.setLines x).straps = s.straps := rfl
@[simp] theorem State.setLines_portE (s : State) (x : Lines) : (s.setLines x).portE = s.portE := rfl
@[simp] theorem State.setLines_portW (s : State) (x : Lines) : (s.setLines x).portW = s.portW := rfl
@[simp] theorem State.setLines_timing (s : State) (x : Lines) : (s.setLines x).timing = s.timing := rfl
@[simp] theorem State.setLines_ring (s : State) (x : Lines) : (s.setLines x).ring = s.ring := rfl
@[simp] theorem State.setLines_members (s : State) (x : Lines) : (s.setLines x).members = s.members := rfl
@[simp] theorem State.setLines_service (s : State) (x : Lines) : (s.setLines x).service = s.service := rfl
@[simp] theorem State.setLines_plan (s : State) (x : Lines) : (s.setLines x).plan = s.plan := rfl
@[simp] theorem State.setLines_present (s : State) (x : Lines) : (s.setLines x).present = s.present := rfl
@[simp] theorem State.setLines_checker (s : State) (x : Lines) : (s.setLines x).checker = s.checker := rfl
@[simp] theorem State.setLines_audio (s : State) (x : Lines) : (s.setLines x).audio = s.audio := rfl
@[simp] theorem State.setLines_preamp (s : State) (x : Lines) : (s.setLines x).preamp = s.preamp := rfl
@[simp] theorem State.setLines_tracking (s : State) (x : Lines) : (s.setLines x).tracking = s.tracking := rfl
@[simp] theorem State.setLines_buses (s : State) (x : Lines) : (s.setLines x).buses = s.buses := rfl
@[simp] theorem State.setLines_talk (s : State) (x : Lines) : (s.setLines x).talk = s.talk := rfl
@[simp] theorem State.setLines_lines (s : State) (x : Lines) : (s.setLines x).lines = x := rfl
@[simp] theorem State.setLines_sets (s : State) (x : Lines) : (s.setLines x).sets = s.sets := rfl
@[simp] theorem State.setLines_notices (s : State) (x : Lines) : (s.setLines x).notices = s.notices := rfl
@[simp] theorem State.setLines_raised (s : State) (x : Lines) : (s.setLines x).raised = s.raised := rfl
@[simp] theorem State.setLines_counters (s : State) (x : Lines) : (s.setLines x).counters = s.counters := rfl
@[simp] theorem State.setLines_image (s : State) (x : Lines) : (s.setLines x).image = s.image := rfl
@[simp] theorem State.setLines_pending (s : State) (x : Lines) : (s.setLines x).pending = s.pending := rfl

@[simp] theorem State.setSets_straps (s : State) (x : Sets) : (s.setSets x).straps = s.straps := rfl
@[simp] theorem State.setSets_portE (s : State) (x : Sets) : (s.setSets x).portE = s.portE := rfl
@[simp] theorem State.setSets_portW (s : State) (x : Sets) : (s.setSets x).portW = s.portW := rfl
@[simp] theorem State.setSets_timing (s : State) (x : Sets) : (s.setSets x).timing = s.timing := rfl
@[simp] theorem State.setSets_ring (s : State) (x : Sets) : (s.setSets x).ring = s.ring := rfl
@[simp] theorem State.setSets_members (s : State) (x : Sets) : (s.setSets x).members = s.members := rfl
@[simp] theorem State.setSets_service (s : State) (x : Sets) : (s.setSets x).service = s.service := rfl
@[simp] theorem State.setSets_plan (s : State) (x : Sets) : (s.setSets x).plan = s.plan := rfl
@[simp] theorem State.setSets_present (s : State) (x : Sets) : (s.setSets x).present = s.present := rfl
@[simp] theorem State.setSets_checker (s : State) (x : Sets) : (s.setSets x).checker = s.checker := rfl
@[simp] theorem State.setSets_audio (s : State) (x : Sets) : (s.setSets x).audio = s.audio := rfl
@[simp] theorem State.setSets_preamp (s : State) (x : Sets) : (s.setSets x).preamp = s.preamp := rfl
@[simp] theorem State.setSets_tracking (s : State) (x : Sets) : (s.setSets x).tracking = s.tracking := rfl
@[simp] theorem State.setSets_buses (s : State) (x : Sets) : (s.setSets x).buses = s.buses := rfl
@[simp] theorem State.setSets_talk (s : State) (x : Sets) : (s.setSets x).talk = s.talk := rfl
@[simp] theorem State.setSets_lines (s : State) (x : Sets) : (s.setSets x).lines = s.lines := rfl
@[simp] theorem State.setSets_sets (s : State) (x : Sets) : (s.setSets x).sets = x := rfl
@[simp] theorem State.setSets_notices (s : State) (x : Sets) : (s.setSets x).notices = s.notices := rfl
@[simp] theorem State.setSets_raised (s : State) (x : Sets) : (s.setSets x).raised = s.raised := rfl
@[simp] theorem State.setSets_counters (s : State) (x : Sets) : (s.setSets x).counters = s.counters := rfl
@[simp] theorem State.setSets_image (s : State) (x : Sets) : (s.setSets x).image = s.image := rfl
@[simp] theorem State.setSets_pending (s : State) (x : Sets) : (s.setSets x).pending = s.pending := rfl

@[simp] theorem State.setNotices_straps (s : State) (x : List Notice) : (s.setNotices x).straps = s.straps := rfl
@[simp] theorem State.setNotices_portE (s : State) (x : List Notice) : (s.setNotices x).portE = s.portE := rfl
@[simp] theorem State.setNotices_portW (s : State) (x : List Notice) : (s.setNotices x).portW = s.portW := rfl
@[simp] theorem State.setNotices_timing (s : State) (x : List Notice) : (s.setNotices x).timing = s.timing := rfl
@[simp] theorem State.setNotices_ring (s : State) (x : List Notice) : (s.setNotices x).ring = s.ring := rfl
@[simp] theorem State.setNotices_members (s : State) (x : List Notice) : (s.setNotices x).members = s.members := rfl
@[simp] theorem State.setNotices_service (s : State) (x : List Notice) : (s.setNotices x).service = s.service := rfl
@[simp] theorem State.setNotices_plan (s : State) (x : List Notice) : (s.setNotices x).plan = s.plan := rfl
@[simp] theorem State.setNotices_present (s : State) (x : List Notice) : (s.setNotices x).present = s.present := rfl
@[simp] theorem State.setNotices_checker (s : State) (x : List Notice) : (s.setNotices x).checker = s.checker := rfl
@[simp] theorem State.setNotices_audio (s : State) (x : List Notice) : (s.setNotices x).audio = s.audio := rfl
@[simp] theorem State.setNotices_preamp (s : State) (x : List Notice) : (s.setNotices x).preamp = s.preamp := rfl
@[simp] theorem State.setNotices_tracking (s : State) (x : List Notice) : (s.setNotices x).tracking = s.tracking := rfl
@[simp] theorem State.setNotices_buses (s : State) (x : List Notice) : (s.setNotices x).buses = s.buses := rfl
@[simp] theorem State.setNotices_talk (s : State) (x : List Notice) : (s.setNotices x).talk = s.talk := rfl
@[simp] theorem State.setNotices_lines (s : State) (x : List Notice) : (s.setNotices x).lines = s.lines := rfl
@[simp] theorem State.setNotices_sets (s : State) (x : List Notice) : (s.setNotices x).sets = s.sets := rfl
@[simp] theorem State.setNotices_notices (s : State) (x : List Notice) : (s.setNotices x).notices = x := rfl
@[simp] theorem State.setNotices_raised (s : State) (x : List Notice) : (s.setNotices x).raised = s.raised := rfl
@[simp] theorem State.setNotices_counters (s : State) (x : List Notice) : (s.setNotices x).counters = s.counters := rfl
@[simp] theorem State.setNotices_image (s : State) (x : List Notice) : (s.setNotices x).image = s.image := rfl
@[simp] theorem State.setNotices_pending (s : State) (x : List Notice) : (s.setNotices x).pending = s.pending := rfl

@[simp] theorem State.setRaised_straps (s : State) (x : List Raised) : (s.setRaised x).straps = s.straps := rfl
@[simp] theorem State.setRaised_portE (s : State) (x : List Raised) : (s.setRaised x).portE = s.portE := rfl
@[simp] theorem State.setRaised_portW (s : State) (x : List Raised) : (s.setRaised x).portW = s.portW := rfl
@[simp] theorem State.setRaised_timing (s : State) (x : List Raised) : (s.setRaised x).timing = s.timing := rfl
@[simp] theorem State.setRaised_ring (s : State) (x : List Raised) : (s.setRaised x).ring = s.ring := rfl
@[simp] theorem State.setRaised_members (s : State) (x : List Raised) : (s.setRaised x).members = s.members := rfl
@[simp] theorem State.setRaised_service (s : State) (x : List Raised) : (s.setRaised x).service = s.service := rfl
@[simp] theorem State.setRaised_plan (s : State) (x : List Raised) : (s.setRaised x).plan = s.plan := rfl
@[simp] theorem State.setRaised_present (s : State) (x : List Raised) : (s.setRaised x).present = s.present := rfl
@[simp] theorem State.setRaised_checker (s : State) (x : List Raised) : (s.setRaised x).checker = s.checker := rfl
@[simp] theorem State.setRaised_audio (s : State) (x : List Raised) : (s.setRaised x).audio = s.audio := rfl
@[simp] theorem State.setRaised_preamp (s : State) (x : List Raised) : (s.setRaised x).preamp = s.preamp := rfl
@[simp] theorem State.setRaised_tracking (s : State) (x : List Raised) : (s.setRaised x).tracking = s.tracking := rfl
@[simp] theorem State.setRaised_buses (s : State) (x : List Raised) : (s.setRaised x).buses = s.buses := rfl
@[simp] theorem State.setRaised_talk (s : State) (x : List Raised) : (s.setRaised x).talk = s.talk := rfl
@[simp] theorem State.setRaised_lines (s : State) (x : List Raised) : (s.setRaised x).lines = s.lines := rfl
@[simp] theorem State.setRaised_sets (s : State) (x : List Raised) : (s.setRaised x).sets = s.sets := rfl
@[simp] theorem State.setRaised_notices (s : State) (x : List Raised) : (s.setRaised x).notices = s.notices := rfl
@[simp] theorem State.setRaised_raised (s : State) (x : List Raised) : (s.setRaised x).raised = x := rfl
@[simp] theorem State.setRaised_counters (s : State) (x : List Raised) : (s.setRaised x).counters = s.counters := rfl
@[simp] theorem State.setRaised_image (s : State) (x : List Raised) : (s.setRaised x).image = s.image := rfl
@[simp] theorem State.setRaised_pending (s : State) (x : List Raised) : (s.setRaised x).pending = s.pending := rfl

@[simp] theorem State.setCounters_straps (s : State) (x : Tab Nat 14) : (s.setCounters x).straps = s.straps := rfl
@[simp] theorem State.setCounters_portE (s : State) (x : Tab Nat 14) : (s.setCounters x).portE = s.portE := rfl
@[simp] theorem State.setCounters_portW (s : State) (x : Tab Nat 14) : (s.setCounters x).portW = s.portW := rfl
@[simp] theorem State.setCounters_timing (s : State) (x : Tab Nat 14) : (s.setCounters x).timing = s.timing := rfl
@[simp] theorem State.setCounters_ring (s : State) (x : Tab Nat 14) : (s.setCounters x).ring = s.ring := rfl
@[simp] theorem State.setCounters_members (s : State) (x : Tab Nat 14) : (s.setCounters x).members = s.members := rfl
@[simp] theorem State.setCounters_service (s : State) (x : Tab Nat 14) : (s.setCounters x).service = s.service := rfl
@[simp] theorem State.setCounters_plan (s : State) (x : Tab Nat 14) : (s.setCounters x).plan = s.plan := rfl
@[simp] theorem State.setCounters_present (s : State) (x : Tab Nat 14) : (s.setCounters x).present = s.present := rfl
@[simp] theorem State.setCounters_checker (s : State) (x : Tab Nat 14) : (s.setCounters x).checker = s.checker := rfl
@[simp] theorem State.setCounters_audio (s : State) (x : Tab Nat 14) : (s.setCounters x).audio = s.audio := rfl
@[simp] theorem State.setCounters_preamp (s : State) (x : Tab Nat 14) : (s.setCounters x).preamp = s.preamp := rfl
@[simp] theorem State.setCounters_tracking (s : State) (x : Tab Nat 14) : (s.setCounters x).tracking = s.tracking := rfl
@[simp] theorem State.setCounters_buses (s : State) (x : Tab Nat 14) : (s.setCounters x).buses = s.buses := rfl
@[simp] theorem State.setCounters_talk (s : State) (x : Tab Nat 14) : (s.setCounters x).talk = s.talk := rfl
@[simp] theorem State.setCounters_lines (s : State) (x : Tab Nat 14) : (s.setCounters x).lines = s.lines := rfl
@[simp] theorem State.setCounters_sets (s : State) (x : Tab Nat 14) : (s.setCounters x).sets = s.sets := rfl
@[simp] theorem State.setCounters_notices (s : State) (x : Tab Nat 14) : (s.setCounters x).notices = s.notices := rfl
@[simp] theorem State.setCounters_raised (s : State) (x : Tab Nat 14) : (s.setCounters x).raised = s.raised := rfl
@[simp] theorem State.setCounters_counters (s : State) (x : Tab Nat 14) : (s.setCounters x).counters = x := rfl
@[simp] theorem State.setCounters_image (s : State) (x : Tab Nat 14) : (s.setCounters x).image = s.image := rfl
@[simp] theorem State.setCounters_pending (s : State) (x : Tab Nat 14) : (s.setCounters x).pending = s.pending := rfl

@[simp] theorem State.setImage_straps (s : State) (x : Image) : (s.setImage x).straps = s.straps := rfl
@[simp] theorem State.setImage_portE (s : State) (x : Image) : (s.setImage x).portE = s.portE := rfl
@[simp] theorem State.setImage_portW (s : State) (x : Image) : (s.setImage x).portW = s.portW := rfl
@[simp] theorem State.setImage_timing (s : State) (x : Image) : (s.setImage x).timing = s.timing := rfl
@[simp] theorem State.setImage_ring (s : State) (x : Image) : (s.setImage x).ring = s.ring := rfl
@[simp] theorem State.setImage_members (s : State) (x : Image) : (s.setImage x).members = s.members := rfl
@[simp] theorem State.setImage_service (s : State) (x : Image) : (s.setImage x).service = s.service := rfl
@[simp] theorem State.setImage_plan (s : State) (x : Image) : (s.setImage x).plan = s.plan := rfl
@[simp] theorem State.setImage_present (s : State) (x : Image) : (s.setImage x).present = s.present := rfl
@[simp] theorem State.setImage_checker (s : State) (x : Image) : (s.setImage x).checker = s.checker := rfl
@[simp] theorem State.setImage_audio (s : State) (x : Image) : (s.setImage x).audio = s.audio := rfl
@[simp] theorem State.setImage_preamp (s : State) (x : Image) : (s.setImage x).preamp = s.preamp := rfl
@[simp] theorem State.setImage_tracking (s : State) (x : Image) : (s.setImage x).tracking = s.tracking := rfl
@[simp] theorem State.setImage_buses (s : State) (x : Image) : (s.setImage x).buses = s.buses := rfl
@[simp] theorem State.setImage_talk (s : State) (x : Image) : (s.setImage x).talk = s.talk := rfl
@[simp] theorem State.setImage_lines (s : State) (x : Image) : (s.setImage x).lines = s.lines := rfl
@[simp] theorem State.setImage_sets (s : State) (x : Image) : (s.setImage x).sets = s.sets := rfl
@[simp] theorem State.setImage_notices (s : State) (x : Image) : (s.setImage x).notices = s.notices := rfl
@[simp] theorem State.setImage_raised (s : State) (x : Image) : (s.setImage x).raised = s.raised := rfl
@[simp] theorem State.setImage_counters (s : State) (x : Image) : (s.setImage x).counters = s.counters := rfl
@[simp] theorem State.setImage_image (s : State) (x : Image) : (s.setImage x).image = x := rfl
@[simp] theorem State.setImage_pending (s : State) (x : Image) : (s.setImage x).pending = s.pending := rfl

end Sys2Proof.Machine
end

