-- ==== Sys2Proof/Laws/Frames.lean ====
section
/-! SUPPORT. What each shared operation touches: said once for each, as the groups of the state outside which nothing
changes. A proof about a group that an operation does not touch cites its lemma here and never unfolds it. -/

namespace Sys2Proof.Machine

variable {l : List Group} {s t u : State}

@[simp] theorem OnlyIn.refl : OnlyIn l s s := by
  intro g _
  cases g <;> first | rfl | exact ⟨rfl, rfl⟩

/-- An operation that touches only the groups of a list does not matter to what else is known of its result. -/
theorem OnlyIn.iff_of (h : OnlyIn l t u) : OnlyIn l s u ↔ OnlyIn l s t := by
  constructor
  all_goals
    intro k g hg
    have a := h g hg
    have b := k g hg
    cases g <;> simp_all [Agree]

/-! ### Updates and shared operations -/

@[simp] theorem OnlyIn.setStraps (x) (h : Group.straps ∈ l) : OnlyIn l s (t.setStraps x) ↔ OnlyIn l s t :=
  OnlyIn.iff_of fun g hg => by cases g <;> first | rfl | exact ⟨rfl, rfl⟩ | exact absurd h hg

@[simp] theorem OnlyIn.setPortE (x) (h : Group.portE ∈ l) : OnlyIn l s (t.setPortE x) ↔ OnlyIn l s t :=
  OnlyIn.iff_of fun g hg => by cases g <;> first | rfl | exact ⟨rfl, rfl⟩ | exact absurd h hg

@[simp] theorem OnlyIn.setPortW (x) (h : Group.portW ∈ l) : OnlyIn l s (t.setPortW x) ↔ OnlyIn l s t :=
  OnlyIn.iff_of fun g hg => by cases g <;> first | rfl | exact ⟨rfl, rfl⟩ | exact absurd h hg

@[simp] theorem OnlyIn.setTiming (x) (h : Group.timing ∈ l) : OnlyIn l s (t.setTiming x) ↔ OnlyIn l s t :=
  OnlyIn.iff_of fun g hg => by cases g <;> first | rfl | exact ⟨rfl, rfl⟩ | exact absurd h hg

@[simp] theorem OnlyIn.setRing (x) (h : Group.ring ∈ l) : OnlyIn l s (t.setRing x) ↔ OnlyIn l s t :=
  OnlyIn.iff_of fun g hg => by cases g <;> first | rfl | exact ⟨rfl, rfl⟩ | exact absurd h hg

@[simp] theorem OnlyIn.setMembers (x) (h : Group.members ∈ l) : OnlyIn l s (t.setMembers x) ↔ OnlyIn l s t :=
  OnlyIn.iff_of fun g hg => by cases g <;> first | rfl | exact ⟨rfl, rfl⟩ | exact absurd h hg

@[simp] theorem OnlyIn.setService (x) (h : Group.service ∈ l) : OnlyIn l s (t.setService x) ↔ OnlyIn l s t :=
  OnlyIn.iff_of fun g hg => by cases g <;> first | rfl | exact ⟨rfl, rfl⟩ | exact absurd h hg

@[simp] theorem OnlyIn.setPlan (x) (h : Group.plan ∈ l) : OnlyIn l s (t.setPlan x) ↔ OnlyIn l s t :=
  OnlyIn.iff_of fun g hg => by cases g <;> first | rfl | exact ⟨rfl, rfl⟩ | exact absurd h hg

@[simp] theorem OnlyIn.setPresent (x) (h : Group.present ∈ l) : OnlyIn l s (t.setPresent x) ↔ OnlyIn l s t :=
  OnlyIn.iff_of fun g hg => by cases g <;> first | rfl | exact ⟨rfl, rfl⟩ | exact absurd h hg

@[simp] theorem OnlyIn.setChecker (x) (h : Group.checker ∈ l) : OnlyIn l s (t.setChecker x) ↔ OnlyIn l s t :=
  OnlyIn.iff_of fun g hg => by cases g <;> first | rfl | exact ⟨rfl, rfl⟩ | exact absurd h hg

@[simp] theorem OnlyIn.setAudio (x) (h : Group.audio ∈ l) : OnlyIn l s (t.setAudio x) ↔ OnlyIn l s t :=
  OnlyIn.iff_of fun g hg => by cases g <;> first | rfl | exact ⟨rfl, rfl⟩ | exact absurd h hg

@[simp] theorem OnlyIn.setPreamp (x) (h : Group.preamp ∈ l) : OnlyIn l s (t.setPreamp x) ↔ OnlyIn l s t :=
  OnlyIn.iff_of fun g hg => by cases g <;> first | rfl | exact ⟨rfl, rfl⟩ | exact absurd h hg

@[simp] theorem OnlyIn.setTracking (x) (h : Group.tracking ∈ l) : OnlyIn l s (t.setTracking x) ↔ OnlyIn l s t :=
  OnlyIn.iff_of fun g hg => by cases g <;> first | rfl | exact ⟨rfl, rfl⟩ | exact absurd h hg

@[simp] theorem OnlyIn.setBuses (x) (h : Group.buses ∈ l) : OnlyIn l s (t.setBuses x) ↔ OnlyIn l s t :=
  OnlyIn.iff_of fun g hg => by cases g <;> first | rfl | exact ⟨rfl, rfl⟩ | exact absurd h hg

@[simp] theorem OnlyIn.setTalk (x) (h : Group.talk ∈ l) : OnlyIn l s (t.setTalk x) ↔ OnlyIn l s t :=
  OnlyIn.iff_of fun g hg => by cases g <;> first | rfl | exact ⟨rfl, rfl⟩ | exact absurd h hg

@[simp] theorem OnlyIn.setLines (x) (h : Group.lines ∈ l) : OnlyIn l s (t.setLines x) ↔ OnlyIn l s t :=
  OnlyIn.iff_of fun g hg => by cases g <;> first | rfl | exact ⟨rfl, rfl⟩ | exact absurd h hg

@[simp] theorem OnlyIn.setSets (x) (h : Group.sets ∈ l) : OnlyIn l s (t.setSets x) ↔ OnlyIn l s t :=
  OnlyIn.iff_of fun g hg => by cases g <;> first | rfl | exact ⟨rfl, rfl⟩ | exact absurd h hg

@[simp] theorem OnlyIn.setNotices (x) (h : Group.notices ∈ l) : OnlyIn l s (t.setNotices x) ↔ OnlyIn l s t :=
  OnlyIn.iff_of fun g hg => by cases g <;> first | rfl | exact ⟨rfl, rfl⟩ | exact absurd h hg

@[simp] theorem OnlyIn.setRaised (x) (h : Group.notices ∈ l) : OnlyIn l s (t.setRaised x) ↔ OnlyIn l s t :=
  OnlyIn.iff_of fun g hg => by cases g <;> first | rfl | exact ⟨rfl, rfl⟩ | exact absurd h hg

@[simp] theorem OnlyIn.setCounters (x) (h : Group.counters ∈ l) : OnlyIn l s (t.setCounters x) ↔ OnlyIn l s t :=
  OnlyIn.iff_of fun g hg => by cases g <;> first | rfl | exact ⟨rfl, rfl⟩ | exact absurd h hg

@[simp] theorem OnlyIn.setImage (x) (h : Group.image ∈ l) : OnlyIn l s (t.setImage x) ↔ OnlyIn l s t :=
  OnlyIn.iff_of fun g hg => by cases g <;> first | rfl | exact ⟨rfl, rfl⟩ | exact absurd h hg

@[simp] theorem OnlyIn.setPending (x) (h : Group.pending ∈ l) : OnlyIn l s (t.setPending x) ↔ OnlyIn l s t :=
  OnlyIn.iff_of fun g hg => by cases g <;> first | rfl | exact ⟨rfl, rfl⟩ | exact absurd h hg

@[simp] theorem OnlyIn.setPort (p) (x : Port) (h : [.portE, .portW] ⊆ l) : OnlyIn l s (t.setPort p x) ↔ OnlyIn l s t := by
  simp at h
  cases p <;> simp [State.setPort, h]

@[simp] theorem OnlyIn.setSpan (p) (x : Span) (h : [.ring] ⊆ l) : OnlyIn l s (t.setSpan p x) ↔ OnlyIn l s t := by
  simp at h
  cases p <;> simp [State.setSpan, h]

@[simp] theorem OnlyIn.bump (c) (h : [.counters] ⊆ l) : OnlyIn l s (t.bump c) ↔ OnlyIn l s t := by
  simp at h
  unfold State.bump
  simp [h]

@[simp] theorem OnlyIn.raise (k) (n) (d) (h : [.notices] ⊆ l) : OnlyIn l s (t.raise k n d) ↔ OnlyIn l s t := by
  simp at h
  unfold State.raise
  simp [h]

@[simp] theorem OnlyIn.intake (r) (h : [.notices, .counters] ⊆ l) : OnlyIn l s (t.intake r) ↔ OnlyIn l s t := by
  simp at h
  unfold State.intake
  split_ifs <;> simp [h]

@[simp] theorem OnlyIn.driveLines (h : [.lines] ⊆ l) : OnlyIn l s t.driveLines ↔ OnlyIn l s t := by
  simp at h
  unfold State.driveLines
  simp [h]

/-- A fold of operations that stay within the groups stays within them. -/
theorem OnlyIn.foldl {α : Type} (f : State → α → State) (hf : ∀ t a, OnlyIn l s (f t a) ↔ OnlyIn l s t) (q : List α) :
    OnlyIn l s (q.foldl f t) ↔ OnlyIn l s t := by
  induction q generalizing t with
  | nil => simp
  | cons a q ih => simp [ih, hf]

/-- An event touches what its doings touch, and the notice queue. -/
@[simp] theorem OnlyIn.event (f : State → State) (hf : ∀ u, OnlyIn l s (f u) ↔ OnlyIn l s u)
    (h : [.notices, .counters] ⊆ l) : OnlyIn l s (t.event f) ↔ OnlyIn l s t := by
  simp at h
  unfold State.event
  simp only [OnlyIn.setRaised, h]
  rw [OnlyIn.foldl _ (by intro u r; simp [h]), hf]
  simp [h]

theorem OnlyIn.forEach (n) (f : Nat → State → State) (hf : ∀ i t, OnlyIn l s (f i t) ↔ OnlyIn l s t) :
    OnlyIn l s (forEach n f t) ↔ OnlyIn l s t := OnlyIn.foldl _ (fun t i => hf i t) _

/-! ### Cells -/

@[simp] theorem OnlyIn.pushOutbound (c) (h : [.service] ⊆ l) : OnlyIn l s (t.pushOutbound c) ↔ OnlyIn l s t := by
  simp at h
  unfold State.pushOutbound
  simp [h]

@[simp] theorem OnlyIn.pushConsole (c) (h : [.service] ⊆ l) : OnlyIn l s (t.pushConsole c) ↔ OnlyIn l s t := by
  simp at h
  unfold State.pushConsole
  simp [h]

@[simp] theorem OnlyIn.pushWork (c) (h : [.service] ⊆ l) : OnlyIn l s (t.pushWork c) ↔ OnlyIn l s t := by
  simp at h
  unfold State.pushWork
  simp [h]

@[simp] theorem OnlyIn.place (c) (d) (h : [.service] ⊆ l) : OnlyIn l s (t.place c d) ↔ OnlyIn l s t := by
  simp at h
  dsimp only [State.place]
  (repeat' split) <;> simp [h]

@[simp] theorem OnlyIn.answerHost (c) (r) (h : [.service, .counters] ⊆ l) : OnlyIn l s (t.answerHost c r) ↔ OnlyIn l s t := by
  simp at h
  dsimp only [State.answerHost]
  (repeat' split) <;> simp [h]

/-! ### Ports and ring -/

@[simp] theorem OnlyIn.setFlags (p) (x) (h : [.portE, .portW, .notices, .counters] ⊆ l) : OnlyIn l s (t.setFlags p x) ↔ OnlyIn l s t := by
  simp at h
  dsimp only [State.setFlags]
  (repeat' split) <;> simp [h]

@[simp] theorem OnlyIn.toHunt (p) (b1) (b2) (h : [.portE, .portW, .ring, .notices, .counters] ⊆ l) : OnlyIn l s (t.toHunt p b1 b2) ↔ OnlyIn l s t := by
  simp at h
  unfold State.toHunt
  dsimp only
  (repeat' split) <;> simp [h]

@[simp] theorem OnlyIn.setClock (c) (h : [.timing, .notices, .counters] ⊆ l) : OnlyIn l s (t.setClock c) ↔ OnlyIn l s t := by
  simp at h
  dsimp only [State.setClock]
  (repeat' split) <;> simp [h]

@[simp] theorem OnlyIn.startDelay (h : [.present] ⊆ l) : OnlyIn l s t.startDelay ↔ OnlyIn l s t := by
  simp at h
  dsimp only [State.startDelay]
  (repeat' split) <;> simp [h]

@[simp] theorem OnlyIn.setRingState (r) (h : [.ring, .present, .lines, .notices, .counters] ⊆ l) : OnlyIn l s (t.setRingState r) ↔ OnlyIn l s t := by
  simp at h
  unfold State.setRingState
  simp [h]

@[simp] theorem OnlyIn.redetermine (h : [.ring, .present, .lines, .notices, .counters] ⊆ l) : OnlyIn l s t.redetermine ↔ OnlyIn l s t := by
  simp at h
  dsimp only [State.redetermine]
  (repeat' split) <;> simp [h]

@[simp] theorem OnlyIn.failSpan (p) (h : [.ring, .present, .lines, .notices, .counters] ⊆ l) : OnlyIn l s (t.failSpan p) ↔ OnlyIn l s t := by
  simp at h
  unfold State.failSpan
  simp [h]

@[simp] theorem OnlyIn.react (p) (h : [.ring] ⊆ l) : OnlyIn l s (t.react p) ↔ OnlyIn l s t := by
  simp at h
  unfold State.react
  simp [h]

@[simp] theorem OnlyIn.examine (p) (h : [.ring] ⊆ l) : OnlyIn l s (t.examine p) ↔ OnlyIn l s t := by
  simp at h
  unfold State.examine
  simp [h]

@[simp] theorem OnlyIn.evaluate (p) (h : [.ring, .present, .lines, .notices, .counters] ⊆ l) : OnlyIn l s (t.evaluate p) ↔ OnlyIn l s t := by
  simp at h
  dsimp only [State.evaluate]
  (repeat' split) <;> simp [h]

@[simp] theorem OnlyIn.nameUnwrap (p) (h : [.ring] ⊆ l) : OnlyIn l s (t.nameUnwrap p) ↔ OnlyIn l s t := by
  simp at h
  dsimp only [State.nameUnwrap]
  (repeat' split) <;> simp [h]

@[simp] theorem OnlyIn.adoptUnwrap (p) (hd) (h : [.ring] ⊆ l) : OnlyIn l s (t.adoptUnwrap p hd) ↔ OnlyIn l s t := by
  simp at h
  dsimp only [State.adoptUnwrap]
  (repeat' split) <;> simp [h]

@[simp] theorem OnlyIn.updatePartner (p) (f) (h : [.ring] ⊆ l) : OnlyIn l s (t.updatePartner p f) ↔ OnlyIn l s t := by
  simp at h
  dsimp only [State.updatePartner]
  (repeat' split) <;> simp [h]

@[simp] theorem OnlyIn.holdoffExpiry (p) (h : [.ring, .present, .lines, .notices, .counters] ⊆ l) : OnlyIn l s (t.holdoffExpiry p) ↔ OnlyIn l s t := by
  simp at h
  dsimp only [State.holdoffExpiry]
  (repeat' split) <;> simp [h]

@[simp] theorem OnlyIn.restoreExpiry (p) (h : [.ring] ⊆ l) : OnlyIn l s (t.restoreExpiry p) ↔ OnlyIn l s t := by
  simp at h
  dsimp only [State.restoreExpiry]
  (repeat' split) <;> simp [h]

@[simp] theorem OnlyIn.unwrapNow (p) (h : [.ring, .present, .lines, .notices, .counters] ⊆ l) : OnlyIn l s (t.unwrapNow p) ↔ OnlyIn l s t := by
  simp at h
  dsimp only [State.unwrapNow]
  (repeat' split) <;> simp [h]

@[simp] theorem OnlyIn.absenceExpiry (h : [.ring, .present, .lines, .notices, .counters, .timing] ⊆ l) : OnlyIn l s t.absenceExpiry ↔ OnlyIn l s t := by
  simp at h
  dsimp only [State.absenceExpiry]
  (repeat' split) <;> simp [h]

/-! ### Slots -/

@[simp] theorem OnlyIn.raiseBank (o) (a) (h : [.notices, .counters] ⊆ l) : OnlyIn l s (t.raiseBank o a) ↔ OnlyIn l s t := by
  simp at h
  unfold State.raiseBank
  simp [h]

@[simp] theorem OnlyIn.swapNow (h : [.plan, .notices, .counters] ⊆ l) : OnlyIn l s t.swapNow ↔ OnlyIn l s t := by
  simp at h
  dsimp only [State.swapNow]
  (repeat' split) <;> simp [h]

@[simp] theorem OnlyIn.dropOutgoing (h : [.plan] ⊆ l) : OnlyIn l s t.dropOutgoing ↔ OnlyIn l s t := by
  simp at h
  dsimp only [State.dropOutgoing]
  (repeat' split) <;> simp [h]

@[simp] theorem OnlyIn.fileRing (c) (x) (h : [.present, .counters] ⊆ l) : OnlyIn l s (t.fileRing c x) ↔ OnlyIn l s t := by
  simp at h
  dsimp only [State.fileRing]
  (repeat' split) <;> simp [h]

@[simp] theorem OnlyIn.fileOwn (h : [.present] ⊆ l) : OnlyIn l s t.fileOwn ↔ OnlyIn l s t := by
  simp at h
  unfold State.fileOwn
  simp [h]

@[simp] theorem OnlyIn.presentSlots (f) (h : [.present] ⊆ l) : OnlyIn l s (t.presentSlots f) ↔ OnlyIn l s t := by
  simp at h
  dsimp only [State.presentSlots]
  (repeat' split) <;> simp [h]

@[simp] theorem OnlyIn.patternCompare (h : [.counters] ⊆ l) : OnlyIn l s t.patternCompare ↔ OnlyIn l s t := by
  simp at h
  dsimp only [State.patternCompare]
  (repeat' split) <;> simp [h]

@[simp] theorem OnlyIn.presentJump (h : [.present, .plan] ⊆ l) : OnlyIn l s t.presentJump ↔ OnlyIn l s t := by
  simp at h
  unfold State.presentJump
  simp [h]

/-! ### Tracking -/

@[simp] theorem OnlyIn.setStepQueue (q) (h : [.service] ⊆ l) : OnlyIn l s (t.setStepQueue q) ↔ OnlyIn l s t := by
  simp at h
  unfold State.setStepQueue
  simp [h]

@[simp] theorem OnlyIn.compensate (n) (i) (a) (h : [.tracking] ⊆ l) : OnlyIn l s (t.compensate n i a) ↔ OnlyIn l s t := by
  simp at h
  unfold State.compensate
  simp [h]

@[simp] theorem OnlyIn.applyEntries (p) (h : [.tracking] ⊆ l) : OnlyIn l s (t.applyEntries p) ↔ OnlyIn l s t := by
  simp at h
  unfold State.applyEntries
  simp only [OnlyIn.setTracking, h]
  rw [OnlyIn.foldl]
  intro t a; simp [h]

@[simp] theorem OnlyIn.trackTo (c) (h : [.tracking] ⊆ l) : OnlyIn l s (t.trackTo c) ↔ OnlyIn l s t := by
  simp at h
  unfold State.trackTo
  simp [h]

@[simp] theorem OnlyIn.trackJump (h : [.tracking] ⊆ l) : OnlyIn l s t.trackJump ↔ OnlyIn l s t := by
  simp at h
  unfold State.trackJump
  simp [h]

@[simp] theorem OnlyIn.compensateLate (x) (c) (h : [.tracking, .notices, .counters] ⊆ l) : OnlyIn l s (t.compensateLate x c) ↔ OnlyIn l s t := by
  simp at h
  unfold State.compensateLate
  simp [h]

@[simp] theorem OnlyIn.takeCompensation (x) (h : [.tracking, .notices, .counters] ⊆ l) : OnlyIn l s (t.takeCompensation x) ↔ OnlyIn l s t := by
  simp at h
  dsimp only [State.takeCompensation]
  (repeat' split) <;> simp [h]

@[simp] theorem OnlyIn.takeRecord (n) (b) (h : [.tracking, .notices, .counters] ⊆ l) : OnlyIn l s (t.takeRecord n b) ↔ OnlyIn l s t := by
  simp at h
  dsimp only [State.takeRecord]
  (repeat' split) <;> simp [h]

@[simp] theorem OnlyIn.runStep (h : [.service, .tracking, .notices, .counters] ⊆ l) : OnlyIn l s t.runStep ↔ OnlyIn l s t := by
  simp at h
  dsimp only [State.runStep]
  (repeat' split) <;> try simp [h]
  rw [OnlyIn.foldl] <;> simp [h]

/-! ### Preamplifiers -/

@[simp] theorem OnlyIn.setEntry (n) (e) (h : [.preamp] ⊆ l) : OnlyIn l s (t.setEntry n e) ↔ OnlyIn l s t := by
  simp at h
  unfold State.setEntry
  simp [h]

@[simp] theorem OnlyIn.raiseOwner (n) (c) (h : [.notices, .counters] ⊆ l) : OnlyIn l s (t.raiseOwner n c) ↔ OnlyIn l s t := by
  simp at h
  unfold State.raiseOwner
  simp [h]

@[simp] theorem OnlyIn.setOwner (n) (o) (st) (g) (c) (h : [.preamp, .notices, .counters] ⊆ l) : OnlyIn l s (t.setOwner n o st g c) ↔ OnlyIn l s t := by
  simp at h
  unfold State.setOwner
  simp [h]

@[simp] theorem OnlyIn.ownerLost (nd) (h : [.preamp, .notices, .counters] ⊆ l) : OnlyIn l s (t.ownerLost nd) ↔ OnlyIn l s t := by
  simp at h
  unfold State.ownerLost
  rw [OnlyIn.forEach]
  intro i t
  dsimp only
  (repeat' split) <;> simp [h]

@[simp] theorem OnlyIn.ownerBack (nd) (h : [.preamp, .notices, .counters] ⊆ l) : OnlyIn l s (t.ownerBack nd) ↔ OnlyIn l s t := by
  simp at h
  unfold State.ownerBack
  rw [OnlyIn.forEach]
  intro i t
  dsimp only
  (repeat' split) <;> simp [h]

@[simp] theorem OnlyIn.ownerDemoted (nd) (h : [.preamp, .notices, .counters] ⊆ l) : OnlyIn l s (t.ownerDemoted nd) ↔ OnlyIn l s t := by
  simp at h
  unfold State.ownerDemoted
  rw [OnlyIn.forEach]
  intro i t
  (repeat' split) <;> simp [h]

@[simp] theorem OnlyIn.graceExpiry (n) (h : [.preamp, .notices, .counters] ⊆ l) : OnlyIn l s (t.graceExpiry n) ↔ OnlyIn l s t := by
  simp at h
  dsimp only [State.graceExpiry]
  (repeat' split) <;> simp [h]

@[simp] theorem OnlyIn.createChange (n) (g) (r) (h : [.preamp, .service] ⊆ l) : OnlyIn l s (t.createChange n g r) ↔ OnlyIn l s t := by
  simp at h
  unfold State.createChange
  simp [h]

@[simp] theorem OnlyIn.promoteOne (n) (h : [.preamp, .service, .notices, .counters] ⊆ l) :
    OnlyIn l s (State.promoteOne n t) ↔ OnlyIn l s t := by
  simp at h
  dsimp only [State.promoteOne]
  (repeat' split) <;> simp [h]

@[simp] theorem OnlyIn.promote (h : [.preamp, .service, .notices, .counters] ⊆ l) : OnlyIn l s t.promote ↔ OnlyIn l s t := by
  simp at h
  unfold State.promote
  split
  · rw [OnlyIn.forEach]; intro i t; simp [h]
  · rfl

@[simp] theorem OnlyIn.trimCompensate (n) (c) (h : [.tracking, .preamp] ⊆ l) : OnlyIn l s (t.trimCompensate n c) ↔ OnlyIn l s t := by
  simp at h
  dsimp only [State.trimCompensate]
  (repeat' split) <;> simp [h]

@[simp] theorem OnlyIn.applyChange (n) (h : [.tracking, .preamp] ⊆ l) : OnlyIn l s (t.applyChange n) ↔ OnlyIn l s t := by
  simp at h
  dsimp only [State.applyChange]
  (repeat' split) <;> simp [h]

@[simp] theorem OnlyIn.changeNow (n) (h : [.preamp, .service, .tracking, .notices, .counters] ⊆ l) : OnlyIn l s (t.changeNow n) ↔ OnlyIn l s t := by
  simp at h
  dsimp only [State.changeNow]
  (repeat' split) <;> simp [h]

@[simp] theorem OnlyIn.setConfirmed (n) (b) (h : [.preamp] ⊆ l) : OnlyIn l s (t.setConfirmed n b) ↔ OnlyIn l s t := by
  simp at h
  unfold State.setConfirmed
  simp [h]

@[simp] theorem OnlyIn.converterFault (c) (k) (h : [.preamp, .notices, .counters] ⊆ l) : OnlyIn l s (t.converterFault c k) ↔ OnlyIn l s t := by
  simp at h
  unfold State.converterFault
  simp [h]

@[simp] theorem OnlyIn.jumpChange (n) (h : [.preamp, .tracking, .notices, .counters] ⊆ l) :
    OnlyIn l s (State.jumpChange n t) ↔ OnlyIn l s t := by
  simp at h
  dsimp only [State.jumpChange]
  (repeat' split) <;> simp [h]

@[simp] theorem OnlyIn.preampJump (h : [.preamp, .service, .tracking, .notices, .counters] ⊆ l) : OnlyIn l s t.preampJump ↔ OnlyIn l s t := by
  simp at h
  have e : OnlyIn l s (Machine.forEach 64 State.jumpChange t) ↔ OnlyIn l s t := OnlyIn.forEach _ _ (by intro i t; simp [h])
  dsimp only [State.preampJump]
  (repeat' split) <;> simp [h, e]

@[simp] theorem OnlyIn.startReload (a) (h : [.preamp] ⊆ l) : OnlyIn l s (t.startReload a) ↔ OnlyIn l s t := by
  simp at h
  unfold State.startReload
  simp [h]

@[simp] theorem OnlyIn.startupReload (a) (h : [.preamp] ⊆ l) : OnlyIn l s (t.startupReload a) ↔ OnlyIn l s t := by
  simp at h
  dsimp only [State.startupReload]
  (repeat' split) <;> simp [h]

@[simp] theorem OnlyIn.reloadTimeout (h : [.preamp] ⊆ l) : OnlyIn l s t.reloadTimeout ↔ OnlyIn l s t := by
  simp at h
  dsimp only [State.reloadTimeout]
  (repeat' split) <;> simp [h]

@[simp] theorem OnlyIn.expireOldest (h : [.preamp, .notices, .counters] ⊆ l) : OnlyIn l s t.expireOldest ↔ OnlyIn l s t := by
  simp at h
  dsimp only [State.expireOldest]
  (repeat' split) <;> simp [h]

@[simp] theorem OnlyIn.ackExpiry (h : [.preamp, .notices, .counters] ⊆ l) : OnlyIn l s t.ackExpiry ↔ OnlyIn l s t := by
  simp at h
  dsimp only [State.ackExpiry]
  (repeat' split) <;> simp [h]

@[simp] theorem OnlyIn.transfer (c) (h : [.preamp, .notices, .counters] ⊆ l) : OnlyIn l s (t.transfer c) ↔ OnlyIn l s t := by
  simp at h
  dsimp only [State.transfer]
  (repeat' split) <;> simp [h]

theorem OnlyIn.nextCommand {c} (hc : t.nextCommand = some (c, u)) (h : Group.preamp ∈ l) : OnlyIn l s u ↔ OnlyIn l s t := by
  unfold State.nextCommand at hc
  (repeat' split at hc) <;> simp only [Option.some.injEq, Prod.mk.injEq, reduceCtorEq] at hc <;> (try obtain ⟨-, rfl⟩ := hc) <;> simp [h]

@[simp] theorem OnlyIn.runLine (n) (h : [.preamp, .notices, .counters] ⊆ l) :
    OnlyIn l s (State.runLine n t) ↔ OnlyIn l s t := by
  simp at h
  induction n generalizing t with
  | zero => rfl
  | succ n ih =>
    unfold State.runLine
    split
    · next c u hc =>
      have := OnlyIn.nextCommand (s := s) hc h.1
      split <;> simp [h, ih, this]
    · rfl

@[simp] theorem OnlyIn.converterLine (h : [.preamp, .service, .notices, .counters] ⊆ l) : OnlyIn l s t.converterLine ↔ OnlyIn l s t := by
  simp at h
  dsimp only [State.converterLine]
  (repeat' split) <;> simp [h]

@[simp] theorem OnlyIn.pulseStrobe (h : [.preamp] ⊆ l) : OnlyIn l s t.pulseStrobe ↔ OnlyIn l s t := by
  simp at h
  dsimp only [State.pulseStrobe]
  (repeat' split) <;> simp [h]

@[simp] theorem OnlyIn.acknowledge (a) (c) (h : [.preamp] ⊆ l) : OnlyIn l s (t.acknowledge a c) ↔ OnlyIn l s t := by
  simp at h
  dsimp only [State.acknowledge]
  (repeat' split) <;> simp [h]

/-! ### Talkback -/

@[simp] theorem OnlyIn.setRow (c) (r) (h : [.talk, .lines] ⊆ l) : OnlyIn l s (t.setRow c r) ↔ OnlyIn l s t := by
  simp at h
  unfold State.setRow
  simp [h]

@[simp] theorem OnlyIn.press (i) (h : [.talk, .lines, .notices, .counters] ⊆ l) : OnlyIn l s (t.press i) ↔ OnlyIn l s t := by
  simp at h
  dsimp only [State.press]
  (repeat' split) <;> simp [h]

@[simp] theorem OnlyIn.releaseTalk (i) (r) (h : [.talk, .lines, .notices, .counters] ⊆ l) : OnlyIn l s (t.releaseTalk i r) ↔ OnlyIn l s t := by
  simp at h
  dsimp only [State.releaseTalk]
  (repeat' split) <;> simp [h]

@[simp] theorem OnlyIn.releaseStale (h : [.talk, .lines, .notices, .counters] ⊆ l) : OnlyIn l s t.releaseStale ↔ OnlyIn l s t := by
  simp at h
  unfold State.releaseStale forEachSource
  split
  · rw [OnlyIn.foldl]
    intro t a
    dsimp only
    (repeat' split) <;> simp [h]
  · rfl

@[simp] theorem OnlyIn.releaseOfNode (nd) (h : [.talk, .lines, .notices, .counters] ⊆ l) : OnlyIn l s (t.releaseOfNode nd) ↔ OnlyIn l s t := by
  simp at h
  unfold State.releaseOfNode forEachSource
  rw [OnlyIn.foldl]
  intro t a
  dsimp only
  (repeat' split) <;> simp [h]

@[simp] theorem OnlyIn.holdExpiry (c) (h : [.talk, .lines, .notices, .counters] ⊆ l) : OnlyIn l s (t.holdExpiry c) ↔ OnlyIn l s t := by
  simp at h
  dsimp only [State.holdExpiry]
  (repeat' split) <;> simp [h]

@[simp] theorem OnlyIn.setLine (n) (x) (h : [.lines] ⊆ l) : OnlyIn l s (t.setLine n x) ↔ OnlyIn l s t := by
  simp at h
  unfold State.setLine
  simp [h]

@[simp] theorem OnlyIn.lineRelease (k) (h : [.talk, .lines, .notices, .counters] ⊆ l) : OnlyIn l s (t.lineRelease k) ↔ OnlyIn l s t := by
  simp at h
  unfold State.lineRelease
  simp [h]

@[simp] theorem OnlyIn.flipLine (n) (h : [.talk, .lines, .notices, .counters] ⊆ l) : OnlyIn l s (t.flipLine n) ↔ OnlyIn l s t := by
  simp at h
  unfold State.flipLine
  dsimp only
  (repeat' split) <;> simp [h]

/-! ### Mix -/

@[simp] theorem OnlyIn.setBus (b) (x) (h : [.buses] ⊆ l) : OnlyIn l s (t.setBus b x) ↔ OnlyIn l s t := by
  simp at h
  unfold State.setBus
  simp [h]

@[simp] theorem OnlyIn.mixBus (n) (h : [.buses, .audio, .notices, .counters] ⊆ l) :
    OnlyIn l s (State.mixBus n t) ↔ OnlyIn l s t := by
  simp at h
  unfold State.mixBus
  dsimp only
  (repeat' split) <;> simp [h]

@[simp] theorem OnlyIn.mix (h : [.buses, .audio, .notices, .counters] ⊆ l) : OnlyIn l s t.mix ↔ OnlyIn l s t := by
  simp at h
  unfold State.mix
  split
  · rw [OnlyIn.forEach]; intro i t; simp [h]
  · rfl

@[simp] theorem OnlyIn.rampExpiry (n) (h : [.buses] ⊆ l) : OnlyIn l s (t.rampExpiry n) ↔ OnlyIn l s t := by
  simp at h
  dsimp only [State.rampExpiry]
  (repeat' split) <;> simp [h]

/-! ### Reachability -/

@[simp] theorem OnlyIn.discardSteps (nd) (h : [.service, .preamp, .notices, .counters] ⊆ l) : OnlyIn l s (t.discardSteps nd) ↔ OnlyIn l s t := by
  simp at h
  unfold State.discardSteps
  dsimp only
  split <;> simp [h]

@[simp] theorem OnlyIn.removedCell (c) (h : [.service, .counters] ⊆ l) : OnlyIn l s (t.removedCell c) ↔ OnlyIn l s t := by
  simp at h
  dsimp only [State.removedCell]
  (repeat' split) <;> simp [h]

@[simp] theorem OnlyIn.purgeOutbound (nd) (h : [.service, .counters] ⊆ l) : OnlyIn l s (t.purgeOutbound nd) ↔ OnlyIn l s t := by
  simp at h
  unfold State.purgeOutbound
  dsimp only
  rw [OnlyIn.foldl] <;> simp [h]

@[simp] theorem OnlyIn.abandonReport (nd) (h : [.image] ⊆ l) : OnlyIn l s (t.abandonReport nd) ↔ OnlyIn l s t := by
  simp at h
  dsimp only [State.abandonReport]
  (repeat' split) <;> simp [h]

@[simp] theorem OnlyIn.nodeLost (nd) (h : [.preamp, .service, .talk, .lines, .image, .notices, .counters] ⊆ l) : OnlyIn l s (t.nodeLost nd) ↔ OnlyIn l s t := by
  simp at h
  unfold State.nodeLost
  dsimp only
  (repeat' split) <;> simp [h]

@[simp] theorem OnlyIn.setReach (n) (r) (h : [.members, .preamp, .service, .talk, .lines, .image, .notices, .counters] ⊆ l) : OnlyIn l s (t.setReach n r) ↔ OnlyIn l s t := by
  simp at h
  unfold State.setReach
  dsimp only
  (repeat' split) <;> simp [h]

theorem OnlyIn.forOthers (f : NodeId → State → State) (hf : ∀ n t, OnlyIn l s (f n t) ↔ OnlyIn l s t) :
    OnlyIn l s (t.forOthers f) ↔ OnlyIn l s t := OnlyIn.foldl _ (fun t i => hf i t) _

@[simp] theorem OnlyIn.takeRoster (r) (h : [.members, .preamp, .service, .talk, .lines, .image, .notices, .counters] ⊆ l) : OnlyIn l s (t.takeRoster r) ↔ OnlyIn l s t := by
  simp at h
  unfold State.takeRoster
  rw [OnlyIn.forOthers]; intro n t; simp [h]

@[simp] theorem OnlyIn.isolationExpiry (h : [.members, .preamp, .service, .talk, .lines, .image, .notices, .counters] ⊆ l) : OnlyIn l s t.isolationExpiry ↔ OnlyIn l s t := by
  simp at h
  unfold State.isolationExpiry
  split
  · rw [OnlyIn.forOthers]
    · simp [h]
    · intro n t; split <;> simp [h]
  · rfl

/-! ### Lanes -/

@[simp] theorem OnlyIn.arbitrate (hd) (h : [.members] ⊆ l) : OnlyIn l s (t.arbitrate hd) ↔ OnlyIn l s t := by
  simp at h
  unfold State.arbitrate
  simp [h]

@[simp] theorem OnlyIn.setLaneOut (k) (x) (h : [.service] ⊆ l) : OnlyIn l s (t.setLaneOut k x) ↔ OnlyIn l s t := by
  simp at h
  unfold State.setLaneOut
  simp [h]

@[simp] theorem OnlyIn.takeOutbound (k) (h : [.service] ⊆ l) : OnlyIn l s (t.takeOutbound k) ↔ OnlyIn l s t := by
  simp at h
  dsimp only [State.takeOutbound]
  (repeat' split) <;> simp [h]

@[simp] theorem OnlyIn.takeWhole (k) (h : [.service] ⊆ l) : OnlyIn l s (t.takeWhole k) ↔ OnlyIn l s t := by
  simp at h
  dsimp only [State.takeWhole]
  (repeat' split) <;> simp [h]

@[simp] theorem OnlyIn.takeCell (k) (h : [.service, .preamp, .notices, .counters] ⊆ l) : OnlyIn l s (t.takeCell k) ↔ OnlyIn l s t := by
  simp at h
  dsimp only [State.takeCell]
  (repeat' split) <;> simp [h]

@[simp] theorem OnlyIn.laneTurn (k) (h : [.service, .preamp, .notices, .counters] ⊆ l) : OnlyIn l s (t.laneTurn k) ↔ OnlyIn l s t := by
  simp at h
  dsimp only [State.laneTurn]
  (repeat' split) <;> simp [h]

@[simp] theorem OnlyIn.workIntake (c) (h : [.service, .counters] ⊆ l) : OnlyIn l s (t.workIntake c) ↔ OnlyIn l s t := by
  simp at h
  dsimp only [State.workIntake]
  (repeat' split) <;> simp [h]

@[simp] theorem OnlyIn.consoleIntake (c) (h : [.service, .counters] ⊆ l) : OnlyIn l s (t.consoleIntake c) ↔ OnlyIn l s t := by
  simp at h
  dsimp only [State.consoleIntake]
  (repeat' split) <;> simp [h]

@[simp] theorem OnlyIn.routeRing (c) (h : [.service, .counters] ⊆ l) : OnlyIn l s (t.routeRing c) ↔ OnlyIn l s t := by
  simp at h
  dsimp only [State.routeRing]
  (repeat' split) <;> simp [h]

@[simp] theorem OnlyIn.relayTake (w) (c) (h : [.service, .counters] ⊆ l) : OnlyIn l s (t.relayTake w c) ↔ OnlyIn l s t := by
  simp at h
  dsimp only [State.relayTake]
  (repeat' split) <;> simp [h]

@[simp] theorem OnlyIn.takeRingCell (w) (b) (h : [.service, .counters] ⊆ l) : OnlyIn l s (t.takeRingCell w b) ↔ OnlyIn l s t := by
  simp at h
  unfold State.takeRingCell
  dsimp only
  (repeat' split) <;> simp [h]

@[simp] theorem OnlyIn.judgeParts (w) (q) (h : [.service, .counters] ⊆ l) : OnlyIn l s (t.judgeParts w q) ↔ OnlyIn l s t := by
  simp at h
  dsimp only [State.judgeParts]
  (repeat' split) <;> simp [h]

@[simp] theorem OnlyIn.judgeLane (h : [.service, .counters] ⊆ l) : OnlyIn l s t.judgeLane ↔ OnlyIn l s t := by
  simp at h
  unfold State.judgeLane
  simp [h]

@[simp] theorem OnlyIn.judgeLate (h : [.service, .counters] ⊆ l) : OnlyIn l s t.judgeLate ↔ OnlyIn l s t := by
  simp at h
  dsimp only [State.judgeLate]
  (repeat' split) <;> simp [h]

@[simp] theorem OnlyIn.joinLane (k) (x) (h : [.service] ⊆ l) : OnlyIn l s (t.joinLane k x) ↔ OnlyIn l s t := by
  simp at h
  dsimp only [State.joinLane]
  (repeat' split) <;> simp [h]

@[simp] theorem OnlyIn.joinReturn (n) (k) (x) (h : [.service, .counters] ⊆ l) : OnlyIn l s (t.joinReturn n k x) ↔ OnlyIn l s t := by
  simp at h
  dsimp only [State.joinReturn]
  (repeat' split) <;> simp [h]

@[simp] theorem OnlyIn.takeLane (n) (k) (x) (h : [.service, .counters] ⊆ l) : OnlyIn l s (t.takeLane n k x) ↔ OnlyIn l s t := by
  simp at h
  dsimp only [State.takeLane]
  (repeat' split) <;> simp [h]

@[simp] theorem OnlyIn.ringCell (h : [.service, .counters] ⊆ l) : OnlyIn l s t.ringCell ↔ OnlyIn l s t := by
  simp at h
  dsimp only [State.ringCell]
  (repeat' split) <;> simp [h]

@[simp] theorem OnlyIn.nextCellTime (h : [.service, .counters] ⊆ l) : OnlyIn l s t.nextCellTime ↔ OnlyIn l s t := by
  simp at h
  dsimp only [State.nextCellTime]
  (repeat' split) <;> simp [h]

@[simp] theorem OnlyIn.refuseHost (c) (h : [.service, .counters] ⊆ l) : OnlyIn l s (t.refuseHost c) ↔ OnlyIn l s t := by
  simp at h
  unfold State.refuseHost
  simp [h]

@[simp] theorem OnlyIn.hostAll (c) (h : [.service, .counters] ⊆ l) : OnlyIn l s (t.hostAll c) ↔ OnlyIn l s t := by
  simp at h
  dsimp only [State.hostAll]
  (repeat' split) <;> simp [h]

@[simp] theorem OnlyIn.hostOther (c) (d) (h : [.service, .counters] ⊆ l) : OnlyIn l s (t.hostOther c d) ↔ OnlyIn l s t := by
  simp at h
  dsimp only [State.hostOther]
  (repeat' split) <;> simp [h]

@[simp] theorem OnlyIn.takeHostCell (c) (h : [.service, .counters] ⊆ l) : OnlyIn l s (t.takeHostCell c) ↔ OnlyIn l s t := by
  simp at h
  dsimp only [State.takeHostCell]
  (repeat' split) <;> simp [h]

@[simp] theorem OnlyIn.judgeConsole (b) (h : [.service, .counters] ⊆ l) : OnlyIn l s (t.judgeConsole b) ↔ OnlyIn l s t := by
  simp at h
  dsimp only [State.judgeConsole]
  (repeat' split) <;> simp [h]

@[simp] theorem OnlyIn.consoleCell (h : [.service, .counters] ⊆ l) : OnlyIn l s t.consoleCell ↔ OnlyIn l s t := by
  simp at h
  dsimp only [State.consoleCell]
  (repeat' split) <;> simp [h]

@[simp] theorem OnlyIn.consoleFrame (h : [.service] ⊆ l) : OnlyIn l s t.consoleFrame ↔ OnlyIn l s t := by
  simp at h
  unfold State.consoleFrame
  dsimp only
  (repeat' split) <;> simp [h]

/-! ### Received frames -/

@[simp] theorem OnlyIn.laneJump (a) (b) (h : [.service, .counters] ⊆ l) : OnlyIn l s (t.laneJump a b) ↔ OnlyIn l s t := by
  simp at h
  unfold State.laneJump
  dsimp only
  (repeat' split) <;> simp [h]

@[simp] theorem OnlyIn.setNumbers (a) (b) (h : [.timing, .members] ⊆ l) : OnlyIn l s (t.setNumbers a b) ↔ OnlyIn l s t := by
  simp at h
  unfold State.setNumbers
  dsimp only
  (repeat' split) <;> simp [h]

@[simp] theorem OnlyIn.swapJump (a) (h : [.plan, .notices, .counters] ⊆ l) : OnlyIn l s (t.swapJump a) ↔ OnlyIn l s t := by
  simp at h
  dsimp only [State.swapJump]
  (repeat' split) <;> simp [h]

theorem OnlyIn.forSides (f : Side → State → State) (hf : ∀ p t, OnlyIn l s (f p t) ↔ OnlyIn l s t) :
    OnlyIn l s (t.forSides f) ↔ OnlyIn l s t := by simp [State.forSides, hf]

@[simp] theorem OnlyIn.reached (h : [.ring, .present, .lines, .plan, .preamp, .service, .tracking, .notices, .counters] ⊆ l) : OnlyIn l s t.reached ↔ OnlyIn l s t := by
  simp at h
  unfold State.reached
  rw [OnlyIn.reloadTimeout (by simp [h]), OnlyIn.forEach _ _ (by intro i t; simp [h]), OnlyIn.swapNow (by simp [h]), OnlyIn.forSides _ (by intro p t; simp [h])]

@[simp] theorem OnlyIn.jump (a) (b) (h : [.ring, .lines, .service, .counters, .timing, .members, .present, .plan, .notices, .preamp, .tracking] ⊆ l) : OnlyIn l s (t.jump a b) ↔ OnlyIn l s t := by
  simp at h
  unfold State.jump
  dsimp only
  (repeat' split) <;> simp [h]

@[simp] theorem OnlyIn.loadCounters (hd) (h : [.ring, .lines, .service, .counters, .timing, .members, .present, .plan, .notices, .preamp, .tracking] ⊆ l) : OnlyIn l s (t.loadCounters hd) ↔ OnlyIn l s t := by
  simp at h
  dsimp only [State.loadCounters]
  (repeat' split) <;> simp [h]

@[simp] theorem OnlyIn.clockLock (hd) (h : [.ring, .lines, .service, .counters, .timing, .members, .present, .plan, .notices, .preamp, .tracking] ⊆ l) : OnlyIn l s (t.clockLock hd) ↔ OnlyIn l s t := by
  simp at h
  unfold State.clockLock
  dsimp only
  (repeat' split) <;> simp [h]

@[simp] theorem OnlyIn.masterSeen (h : [.timing, .ring, .present, .lines, .notices, .counters] ⊆ l) : OnlyIn l s t.masterSeen ↔ OnlyIn l s t := by
  simp at h
  unfold State.masterSeen
  simp [h]

@[simp] theorem OnlyIn.takeReturn (hd) (x) (h : [.members] ⊆ l) : OnlyIn l s (t.takeReturn hd x) ↔ OnlyIn l s t := by
  simp at h
  unfold State.takeReturn
  dsimp only
  (repeat' split) <;> simp [h]

@[simp] theorem OnlyIn.takeLists (hd) (h : [.members, .preamp, .service, .talk, .lines, .image, .notices, .counters] ⊆ l) : OnlyIn l s (t.takeLists hd) ↔ OnlyIn l s t := by
  simp at h
  dsimp only [State.takeLists]
  (repeat' split) <;> simp [h]

@[simp] theorem OnlyIn.transmit (p) (f) (h : [.portE, .portW] ⊆ l) : OnlyIn l s (t.transmit p f) ↔ OnlyIn l s t := by
  simp at h
  unfold State.transmit
  simp [h]

@[simp] theorem OnlyIn.forward (hd) (x) (la) (h : [.service, .preamp, .notices, .counters, .portE, .portW] ⊆ l) : OnlyIn l s (t.forward hd x la) ↔ OnlyIn l s t := by
  simp at h
  unfold State.forward
  dsimp only
  (repeat' split) <;> simp [h]

@[simp] theorem OnlyIn.ringTraffic (hd) (x) (la) (h : [.portE, .portW, .timing, .ring, .members, .service, .plan, .present, .preamp, .tracking, .talk, .lines, .notices, .counters, .image] ⊆ l) : OnlyIn l s (t.ringTraffic hd x la) ↔ OnlyIn l s t := by
  simp at h
  unfold State.ringTraffic
  dsimp only
  (repeat' split) <;> simp [h]

@[simp] theorem OnlyIn.passTurned (p) (f) (h : [.portE, .portW] ⊆ l) : OnlyIn l s (t.passTurned p f) ↔ OnlyIn l s t := by
  simp at h
  dsimp only [State.passTurned]
  (repeat' split) <;> simp [h]

@[simp] theorem OnlyIn.takeFrame (p) (f) (h : [.portE, .portW, .timing, .ring, .members, .service, .plan, .present, .preamp, .tracking, .talk, .lines, .notices, .counters, .image] ⊆ l) : OnlyIn l s (t.takeFrame p f) ↔ OnlyIn l s t := by
  simp at h
  unfold State.takeFrame
  dsimp only
  (repeat' split) <;> simp [h]

@[simp] theorem OnlyIn.control (p) (f) (h : [.ring, .present, .lines, .notices, .counters] ⊆ l) : OnlyIn l s (t.control p f) ↔ OnlyIn l s t := by
  simp at h
  unfold State.control
  dsimp only
  (repeat' split) <;> simp [h]

@[simp] theorem OnlyIn.deliver (p) (f) (h : [.portE, .portW, .timing, .ring, .members, .service, .plan, .present, .preamp, .tracking, .talk, .lines, .notices, .counters, .image] ⊆ l) : OnlyIn l s (t.deliver p f) ↔ OnlyIn l s t := by
  simp at h
  unfold State.deliver
  dsimp only
  (repeat' split) <;> simp [h]

@[simp] theorem OnlyIn.badFrame (p) (h : [.portE, .portW, .ring, .present, .lines, .notices, .counters] ⊆ l) : OnlyIn l s (t.badFrame p) ↔ OnlyIn l s t := by
  simp at h
  unfold State.badFrame
  dsimp only
  (repeat' split) <;> simp [h]

@[simp] theorem OnlyIn.setReference (p) (r) (h : [.portE, .portW] ⊆ l) : OnlyIn l s (t.setReference p r) ↔ OnlyIn l s t := by
  simp at h
  unfold State.setReference
  simp [h]

@[simp] theorem OnlyIn.searchFrame (p) (r) (f) (h : [.portE, .portW, .timing, .ring, .members, .service, .plan, .present, .preamp, .tracking, .talk, .lines, .notices, .counters, .image] ⊆ l) : OnlyIn l s (t.searchFrame p r f) ↔ OnlyIn l s t := by
  simp at h
  dsimp only [State.searchFrame]
  (repeat' split) <;> simp [h]

@[simp] theorem OnlyIn.receive (p) (b) (h : [.portE, .portW, .timing, .ring, .members, .service, .plan, .present, .preamp, .tracking, .talk, .lines, .notices, .counters, .image] ⊆ l) : OnlyIn l s (t.receive p b) ↔ OnlyIn l s t := by
  simp at h
  dsimp only [State.receive]
  (repeat' split) <;> simp [h]

@[simp] theorem OnlyIn.keepReceived (p) (b) (h : [.portE, .portW] ⊆ l) : OnlyIn l s (t.keepReceived p b) ↔ OnlyIn l s t := by
  simp at h
  dsimp only [State.keepReceived]
  (repeat' split) <;> simp [h]

@[simp] theorem OnlyIn.receivePeriod (p) (b) (h : [.portE, .portW, .timing, .ring, .members, .service, .plan, .present, .preamp, .tracking, .talk, .lines, .notices, .counters, .image] ⊆ l) : OnlyIn l s (t.receivePeriod p b) ↔ OnlyIn l s t := by
  simp at h
  unfold State.receivePeriod
  dsimp only
  (repeat' split) <;> simp [h]

@[simp] theorem OnlyIn.lightOn (p) (h : [.portE, .portW, .notices, .counters] ⊆ l) : OnlyIn l s (t.lightOn p) ↔ OnlyIn l s t := by
  simp at h
  unfold State.lightOn
  dsimp only
  (repeat' split) <;> simp [h]

@[simp] theorem OnlyIn.lightOff (p) (h : [.portE, .portW, .ring, .present, .lines, .notices, .counters] ⊆ l) : OnlyIn l s (t.lightOff p) ↔ OnlyIn l s t := by
  simp at h
  unfold State.lightOff
  dsimp only
  (repeat' split) <;> simp [h]

/-! ### Boundaries -/

@[simp] theorem OnlyIn.settleRing (h : [.ring, .present, .lines, .notices, .counters, .timing, .members, .service, .preamp, .talk, .image] ⊆ l) : OnlyIn l s t.settleRing ↔ OnlyIn l s t := by
  simp at h
  unfold State.settleRing
  dsimp only
  rw [OnlyIn.forSides, OnlyIn.forSides, OnlyIn.forSides] <;> simp [h]

@[simp] theorem OnlyIn.settleBlocks (h : [.plan, .preamp, .service, .tracking, .talk, .lines, .notices, .counters] ⊆ l) : OnlyIn l s t.settleBlocks ↔ OnlyIn l s t := by
  simp at h
  unfold State.settleBlocks
  dsimp only
  rw [OnlyIn.forEach _ _ (by intro i t; simp [h]), OnlyIn.foldl _ (by intro t i; simp [h]), OnlyIn.forEach _ _ (by intro i t; simp [h]),
    OnlyIn.forEach _ _ (by intro i t; simp [h]), OnlyIn.reloadTimeout (by simp [h]), OnlyIn.forEach _ _ (by intro i t; simp [h])]
  simp [h]

@[simp] theorem OnlyIn.settle (h : [.ring, .present, .lines, .notices, .counters, .timing, .members, .service, .preamp, .talk, .image, .plan, .tracking] ⊆ l) : OnlyIn l s t.settle ↔ OnlyIn l s t := by
  simp at h
  unfold State.settle
  simp [h]

@[simp] theorem OnlyIn.advance (h : [.checker, .preamp, .service, .timing, .ring, .present, .lines, .notices, .counters] ⊆ l) : OnlyIn l s t.advance ↔ OnlyIn l s t := by
  simp at h
  unfold State.advance
  dsimp only
  (repeat' split) <;> simp [h]

@[simp] theorem OnlyIn.superframe (x) (h : [.members, .ring, .preamp, .talk, .lines] ⊆ l) : OnlyIn l s (t.superframe x) ↔ OnlyIn l s t := by
  simp at h
  unfold State.superframe
  simp [h]

@[simp] theorem OnlyIn.sendSupervision (h : [.portE, .portW] ⊆ l) : OnlyIn l s t.sendSupervision ↔ OnlyIn l s t := by
  simp at h
  unfold State.sendSupervision
  rw [OnlyIn.forSides]
  simp [h]

@[simp] theorem OnlyIn.originLists (h : [.members] ⊆ l) : OnlyIn l s t.originLists ↔ OnlyIn l s t := by
  simp at h
  dsimp only [State.originLists]
  (repeat' split) <;> simp [h]

@[simp] theorem OnlyIn.originRoster (h : [.members, .preamp, .service, .talk, .lines, .image, .notices, .counters] ⊆ l) : OnlyIn l s t.originRoster ↔ OnlyIn l s t := by
  simp at h
  dsimp only [State.originRoster]
  (repeat' split) <;> simp [h]

@[simp] theorem OnlyIn.originate (h : [.members, .preamp, .service, .talk, .lines, .image, .notices, .counters, .portE, .portW] ⊆ l) : OnlyIn l s t.originate ↔ OnlyIn l s t := by
  simp at h
  unfold State.originate
  dsimp only
  (repeat' split) <;> simp [h]

@[simp] theorem OnlyIn.outputs (h : [.audio] ⊆ l) : OnlyIn l s t.outputs ↔ OnlyIn l s t := by
  simp at h
  unfold State.outputs
  simp [h]

@[simp] theorem OnlyIn.presentFrame (h : [.present, .tracking, .talk, .lines, .notices, .counters] ⊆ l) : OnlyIn l s t.presentFrame ↔ OnlyIn l s t := by
  simp at h
  unfold State.presentFrame
  dsimp only
  (repeat' split) <;> simp [h]

@[simp] theorem OnlyIn.frameWork (x) (h : [.audio, .preamp, .service, .present, .tracking, .talk, .lines, .buses, .members, .image, .plan, .timing, .notices, .counters, .portE, .portW] ⊆ l) : OnlyIn l s (t.frameWork x) ↔ OnlyIn l s t := by
  simp at h
  unfold State.frameWork
  simp [h]

@[simp] theorem OnlyIn.begin (x) (h : [.checker, .ring, .present, .lines, .notices, .counters, .timing, .members, .service, .preamp, .talk, .image, .plan, .tracking] ⊆ l) : OnlyIn l s (t.begin x) ↔ OnlyIn l s t := by
  simp at h
  unfold State.begin
  dsimp only
  (repeat' split) <;> simp [h]

@[simp] theorem OnlyIn.localBoundary (x) (h : [.checker, .ring, .present, .lines, .notices, .counters, .timing, .members, .service, .preamp, .talk, .image, .plan, .tracking, .audio, .buses, .portE, .portW] ⊆ l) : OnlyIn l s (t.localBoundary x) ↔ OnlyIn l s t := by
  simp at h
  unfold State.localBoundary
  dsimp only
  (repeat' split) <;> simp [h]

@[simp] theorem OnlyIn.superframeBoundary (x) (h : [.checker, .ring, .present, .lines, .notices, .counters, .timing, .members, .service, .preamp, .talk, .image, .plan, .tracking] ⊆ l) : OnlyIn l s (t.superframeBoundary x) ↔ OnlyIn l s t := by
  simp at h
  dsimp only [State.superframeBoundary]
  (repeat' split) <;> simp [h]

/-! ### Requests -/

@[simp] theorem OnlyIn.setWork (q) (h : [.service] ⊆ l) : OnlyIn l s (t.setWork q) ↔ OnlyIn l s t := by
  simp at h
  unfold State.setWork
  simp [h]

@[simp] theorem OnlyIn.answer (c) (r) (h : [.service] ⊆ l) : OnlyIn l s (t.answer c r) ↔ OnlyIn l s t := by
  simp at h
  unfold State.answer
  simp [h]

@[simp] theorem OnlyIn.popWork (h : [.service] ⊆ l) : OnlyIn l s t.popWork ↔ OnlyIn l s t := by
  simp at h
  unfold State.popWork
  simp [h]

/-- An executed request touches the service queues and what its action touches. -/
theorem OnlyIn.runHead (p) (act : Cell → State → State × Reply) (h : Group.service ∈ l)
    (ha : ∀ c t, OnlyIn l s (act c t).1 ↔ OnlyIn l s t) : OnlyIn l s (t.runHead p act) ↔ OnlyIn l s t := by
  unfold State.runHead
  (repeat' split) <;> simp [h, ha]

theorem OnlyIn.runAct (k b n) (act : Cell → State → State × Reply) (h : Group.service ∈ l)
    (ha : ∀ c t, OnlyIn l s (act c t).1 ↔ OnlyIn l s t) : OnlyIn l s (t.runAct k b n act) ↔ OnlyIn l s t := by
  unfold State.runAct
  rw [OnlyIn.runHead _ _ h]
  intro c t
  unfold State.checked
  (repeat' split) <;> simp [ha]

theorem OnlyIn.writeAll (w : EntryWriter) (hw : ∀ i b t, OnlyIn l s (w i b t).1 ↔ OnlyIn l s t) (i q) :
    OnlyIn l s (writeAll w i q t).1 ↔ OnlyIn l s t := by
  induction q generalizing i t with
  | nil => rfl
  | cons b q ih => simp [Sys2Proof.Machine.writeAll, ih, hw]

theorem OnlyIn.runWrite (q) (w : Table → EntryWriter) (h : Group.service ∈ l)
    (hw : ∀ k i b t, OnlyIn l s (w k i b t).1 ↔ OnlyIn l s t) : OnlyIn l s (t.runWrite q w) ↔ OnlyIn l s t := by
  unfold State.runWrite
  rw [OnlyIn.runHead _ _ h]
  intro c t
  unfold writeAct
  dsimp only
  (repeat' split) <;> first | rfl | exact OnlyIn.writeAll _ (hw _) _ _

theorem OnlyIn.accept {α : Type} (p : Parsed α) (put : α → State) (hp : ∀ a, OnlyIn l s (put a) ↔ OnlyIn l s t) :
    OnlyIn l s (t.accept p put).1 ↔ OnlyIn l s t := by
  unfold State.accept
  split <;> simp [hp]

@[simp] theorem OnlyIn.setSends (b) (x) (h : [.buses] ⊆ l) : OnlyIn l s (t.setSends b x) ↔ OnlyIn l s t := by
  simp at h
  unfold State.setSends
  simp [h]

@[simp] theorem OnlyIn.setTalkSource (i) (x) (h : [.talk, .lines, .notices, .counters] ⊆ l) : OnlyIn l s (t.setTalkSource i x) ↔ OnlyIn l s t := by
  simp at h
  dsimp only [State.setTalkSource]
  (repeat' split) <;> simp [h]

@[simp] theorem OnlyIn.setFunction (n) (f) (h : [.talk, .lines, .notices, .counters] ⊆ l) : OnlyIn l s (t.setFunction n f) ↔ OnlyIn l s t := by
  simp at h
  unfold State.setFunction
  dsimp only
  (repeat' split) <;> simp [h]

@[simp] theorem OnlyIn.setField (i) (v) (h : [.sets, .present] ⊆ l) : OnlyIn l s (t.setField i v) ↔ OnlyIn l s t := by
  simp at h
  unfold State.setField
  dsimp only
  (repeat' split) <;> simp [h]

@[simp] theorem OnlyIn.clearDeltas (p) (h : [.portE, .portW] ⊆ l) : OnlyIn l s (t.clearDeltas p) ↔ OnlyIn l s t := by
  simp at h
  unfold State.clearDeltas
  simp [h]

@[simp] theorem OnlyIn.readEffect (k) (i) (n) (h : [.portE, .portW] ⊆ l) : OnlyIn l s (t.readEffect k i n) ↔ OnlyIn l s t := by
  simp at h
  unfold State.readEffect
  dsimp only
  (repeat' split) <;> simp [h]

@[simp] theorem OnlyIn.dataCell (k) (c) (r) (h : [.service, .portE, .portW] ⊆ l) : OnlyIn l s (t.dataCell k c r) ↔ OnlyIn l s t := by
  simp at h
  unfold State.dataCell
  simp [h]

@[simp] theorem OnlyIn.startRead (h : [.service, .portE, .portW] ⊆ l) : OnlyIn l s t.startRead ↔ OnlyIn l s t := by
  simp at h
  dsimp only [State.startRead]
  (repeat' split) <;> simp [h]

@[simp] theorem OnlyIn.nextData (h : [.service, .portE, .portW] ⊆ l) : OnlyIn l s t.nextData ↔ OnlyIn l s t := by
  simp at h
  dsimp only [State.nextData]
  (repeat' split) <;> simp [h]

@[simp] theorem OnlyIn.finishRead (h : [.service] ⊆ l) : OnlyIn l s t.finishRead ↔ OnlyIn l s t := by
  simp at h
  unfold State.finishRead
  dsimp only
  (repeat' split) <;> simp [h]

/-! ### The writers of the tables -/

@[simp] theorem OnlyIn.writeSlot (k) (i) (b) (h : [.plan] ⊆ l) :
    OnlyIn l s (Sys2Proof.Machine.writeSlot k i b t).1 ↔ OnlyIn l s t := by
  simp at h
  unfold Sys2Proof.Machine.writeSlot
  (repeat' split) <;> first | rfl | exact OnlyIn.accept _ _ (by intro a; simp [h])

@[simp] theorem OnlyIn.writeDrop (k) (i) (b) (h : [.plan] ⊆ l) :
    OnlyIn l s (Sys2Proof.Machine.writeDrop k i b t).1 ↔ OnlyIn l s t := by
  simp at h
  unfold Sys2Proof.Machine.writeDrop
  (repeat' split) <;> first | rfl | exact OnlyIn.accept _ _ (by intro a; simp [h])

@[simp] theorem OnlyIn.writeDtrim (i) (b) (h : [.plan] ⊆ l) :
    OnlyIn l s (Sys2Proof.Machine.writeDtrim i b t).1 ↔ OnlyIn l s t := by
  simp at h
  unfold Sys2Proof.Machine.writeDtrim
  exact OnlyIn.accept _ _ (by intro a; simp [h])

@[simp] theorem OnlyIn.writeStrim (i) (b) (h : [.tracking, .preamp] ⊆ l) :
    OnlyIn l s (Sys2Proof.Machine.writeStrim i b t).1 ↔ OnlyIn l s t := by
  simp at h
  unfold Sys2Proof.Machine.writeStrim
  exact OnlyIn.accept _ _ (by intro a; simp [h])

@[simp] theorem OnlyIn.writeTrack (i) (b) (h : [.tracking] ⊆ l) :
    OnlyIn l s (Sys2Proof.Machine.writeTrack i b t).1 ↔ OnlyIn l s t := by
  simp at h
  unfold Sys2Proof.Machine.writeTrack
  exact OnlyIn.accept _ _ (by intro a; simp [h])

@[simp] theorem OnlyIn.writeBus (i) (b) (h : [.buses] ⊆ l) :
    OnlyIn l s (Sys2Proof.Machine.writeBus i b t).1 ↔ OnlyIn l s t := by
  simp at h
  unfold Sys2Proof.Machine.writeBus
  exact OnlyIn.accept _ _ (by intro a; simp [h])

@[simp] theorem OnlyIn.writeSend (i) (b) (h : [.buses] ⊆ l) :
    OnlyIn l s (Sys2Proof.Machine.writeSend i b t).1 ↔ OnlyIn l s t := by
  simp at h
  unfold Sys2Proof.Machine.writeSend
  (repeat' split) <;> simp [h]

@[simp] theorem OnlyIn.writeTalksrc (i) (b) (h : [.talk, .lines, .notices, .counters] ⊆ l) :
    OnlyIn l s (Sys2Proof.Machine.writeTalksrc i b t).1 ↔ OnlyIn l s t := by
  simp at h
  unfold Sys2Proof.Machine.writeTalksrc
  (repeat' split) <;> first | rfl | exact OnlyIn.accept _ _ (by intro a; simp [h])

@[simp] theorem OnlyIn.writeLine (i) (b) (h : [.talk, .lines, .notices, .counters] ⊆ l) :
    OnlyIn l s (Sys2Proof.Machine.writeLine i b t).1 ↔ OnlyIn l s t := by
  simp at h
  unfold Sys2Proof.Machine.writeLine
  (repeat' split) <;> first | rfl | exact OnlyIn.accept _ _ (by intro a; simp [h])

@[simp] theorem OnlyIn.writeSet (i) (b) (h : [.sets, .present] ⊆ l) :
    OnlyIn l s (Sys2Proof.Machine.writeSet i b t).1 ↔ OnlyIn l s t := by
  simp at h
  unfold Sys2Proof.Machine.writeSet
  exact OnlyIn.accept _ _ (by intro a; simp [h])

/-! ### Actions -/

@[simp] theorem refuse_fst (st d) : (t.refuse st d).1 = t := rfl

@[simp] theorem OnlyIn.copyBank (h : [.plan] ⊆ l) : OnlyIn l s t.copyBank ↔ OnlyIn l s t := by
  simp at h
  unfold State.copyBank
  simp [h]

@[simp] theorem OnlyIn.swapBank (a) (h : [.plan] ⊆ l) :
    OnlyIn l s (t.swapBank a).1 ↔ OnlyIn l s t := by
  simp at h
  dsimp only [State.swapBank]
  (repeat' split) <;> simp [h]

@[simp] theorem OnlyIn.switchReceiver (p) (a) (b) (h : [.portE, .portW, .ring, .notices, .counters] ⊆ l) : OnlyIn l s (t.switchReceiver p a b) ↔ OnlyIn l s t := by
  simp at h
  dsimp only [State.switchReceiver]
  (repeat' split) <;> simp [h]

@[simp] theorem OnlyIn.changeLoop (p) (m) (h : [.portE, .portW, .ring, .present, .lines, .notices, .counters] ⊆ l) : OnlyIn l s (t.changeLoop p m) ↔ OnlyIn l s t := by
  simp at h
  unfold State.changeLoop
  dsimp only
  (repeat' split) <;> simp [h]

@[simp] theorem OnlyIn.setLoop (p) (m) (h : [.portE, .portW, .ring, .present, .lines, .notices, .counters] ⊆ l) :
    OnlyIn l s (t.setLoop p m).1 ↔ OnlyIn l s t := by
  simp at h
  dsimp only [State.setLoop]
  (repeat' split) <;> simp [h]

@[simp] theorem OnlyIn.checkPattern (a) (b) (h : [.checker] ⊆ l) :
    OnlyIn l s (t.checkPattern a b).1 ↔ OnlyIn l s t := by
  simp at h
  dsimp only [State.checkPattern]
  (repeat' split) <;> simp [h]

@[simp] theorem OnlyIn.clearCounters (h : [.counters, .buses] ⊆ l) : OnlyIn l s t.clearCounters ↔ OnlyIn l s t := by
  simp at h
  unfold State.clearCounters
  dsimp only
  (repeat' split) <;> simp [h]

@[simp] theorem OnlyIn.claimOne (w n) (h : [.preamp, .notices, .counters] ⊆ l) :
    OnlyIn l s (State.claimOne w t n) ↔ OnlyIn l s t := by
  simp at h
  unfold State.claimOne
  split <;> simp [h]

@[simp] theorem OnlyIn.releaseOne (w n) (h : [.preamp, .notices, .counters] ⊆ l) :
    OnlyIn l s (State.releaseOne w t n) ↔ OnlyIn l s t := by
  simp at h
  unfold State.releaseOne
  split <;> simp [h]

theorem OnlyIn.qualified (w a b) (r : State × Reply) (hr : OnlyIn l s r.1 ↔ OnlyIn l s t) :
    OnlyIn l s (t.qualified w a b r).1 ↔ OnlyIn l s t := by
  unfold State.qualified
  (repeat' split) <;> simp [hr]

@[simp] theorem OnlyIn.claim (w) (a) (b) (h : [.preamp, .notices, .counters] ⊆ l) :
    OnlyIn l s (t.claim w a b).1 ↔ OnlyIn l s t := by
  simp at h
  unfold State.claim
  rw [OnlyIn.qualified]
  exact OnlyIn.foldl _ (by intro t n; simp [h]) _

@[simp] theorem OnlyIn.release (w) (a) (b) (h : [.preamp, .notices, .counters] ⊆ l) :
    OnlyIn l s (t.release w a b).1 ↔ OnlyIn l s t := by
  simp at h
  unfold State.release
  rw [OnlyIn.qualified]
  exact OnlyIn.foldl _ (by intro t n; simp [h]) _

@[simp] theorem OnlyIn.requestGain (n) (g) (w) (k) (h : [.preamp, .service] ⊆ l) :
    OnlyIn l s (t.requestGain n g w k).1 ↔ OnlyIn l s t := by
  simp at h
  unfold State.requestGain
  dsimp only
  (repeat' split) <;> simp [h]

@[simp] theorem OnlyIn.setGain (w) (n) (a) (b) (c) (h : [.preamp, .service] ⊆ l) :
    OnlyIn l s (t.setGain w n a b c).1 ↔ OnlyIn l s t := by
  simp at h
  dsimp only [State.setGain]
  (repeat' split) <;> simp [h]

@[simp] theorem OnlyIn.removeSend (b) (p) (h : [.buses] ⊆ l) :
    OnlyIn l s (t.removeSend b p).1 ↔ OnlyIn l s t := by
  simp at h
  dsimp only [State.removeSend]
  (repeat' split) <;> simp [h]

@[simp] theorem OnlyIn.pressCell (i) (h : [.talk, .lines, .notices, .counters] ⊆ l) :
    OnlyIn l s (t.pressCell i).1 ↔ OnlyIn l s t := by
  simp at h
  dsimp only [State.pressCell]
  (repeat' split) <;> simp [h]

@[simp] theorem OnlyIn.releaseCell (i) (h : [.talk, .lines, .notices, .counters] ⊆ l) :
    OnlyIn l s (t.releaseCell i).1 ↔ OnlyIn l s t := by
  simp at h
  dsimp only [State.releaseCell]
  (repeat' split) <;> simp [h]

/-! ### Image, report, restart -/

@[simp] theorem OnlyIn.loadStage (q) (h : [.preamp, .tracking, .buses, .talk] ⊆ l) : OnlyIn l s (t.loadStage q) ↔ OnlyIn l s t := by
  simp at h
  unfold State.loadStage
  simp [h]

@[simp] theorem OnlyIn.loadTables (q) (h : [.plan, .sets, .lines, .preamp, .tracking, .buses, .talk] ⊆ l) : OnlyIn l s (t.loadTables q) ↔ OnlyIn l s t := by
  simp at h
  unfold State.loadTables
  dsimp only
  (repeat' split) <;> simp [h]

@[simp] theorem OnlyIn.beginStore (o) (h : [.image] ⊆ l) : OnlyIn l s (t.beginStore o) ↔ OnlyIn l s t := by
  simp at h
  unfold State.beginStore
  simp [h]

@[simp] theorem OnlyIn.storeAct (a) (b) (c) (d) (h : [.image] ⊆ l) :
    OnlyIn l s (t.storeAct a b c d).1 ↔ OnlyIn l s t := by
  simp at h
  dsimp only [State.storeAct]
  (repeat' split) <;> simp [h]

@[simp] theorem OnlyIn.raiseImage (o) (c) (h : [.notices, .counters] ⊆ l) : OnlyIn l s (t.raiseImage o c) ↔ OnlyIn l s t := by
  simp at h
  unfold State.raiseImage
  simp [h]

@[simp] theorem OnlyIn.endStore (b) (h : [.image, .notices, .counters] ⊆ l) : OnlyIn l s (t.endStore b) ↔ OnlyIn l s t := by
  simp at h
  unfold State.endStore
  dsimp only
  (repeat' split) <;> simp [h]

@[simp] theorem OnlyIn.takeImage (m) (h : [.image, .plan, .sets, .lines, .present, .preamp, .tracking, .buses, .talk, .notices, .counters] ⊆ l) : OnlyIn l s (t.takeImage m) ↔ OnlyIn l s t := by
  simp at h
  unfold State.takeImage
  dsimp only
  (repeat' split) <;> simp [h]

@[simp] theorem OnlyIn.enablePorts (h : [.portE, .portW, .timing, .preamp, .ring, .present, .lines, .notices, .counters] ⊆ l) : OnlyIn l s t.enablePorts ↔ OnlyIn l s t := by
  simp at h
  unfold State.enablePorts
  dsimp only
  have e : ∀ u, OnlyIn l s (State.forSides u fun p s => s.examine p) ↔ OnlyIn l s u := fun u => OnlyIn.forSides _ (by intro p t; simp [h])
  split <;> simp [h, e] <;> rw [OnlyIn.forSides] <;> simp [h]

@[simp] theorem OnlyIn.loadComplete (m) (h : [.image, .plan, .sets, .lines, .present, .preamp, .tracking, .buses, .talk, .notices, .counters, .portE, .portW, .timing, .ring] ⊆ l) : OnlyIn l s (t.loadComplete m) ↔ OnlyIn l s t := by
  simp at h
  dsimp only [State.loadComplete]
  (repeat' split) <;> simp [h]

@[simp] theorem OnlyIn.beginReport (c) (h : [.image] ⊆ l) : OnlyIn l s (t.beginReport c) ↔ OnlyIn l s t := by
  simp at h
  unfold State.beginReport
  simp [h]

@[simp] theorem OnlyIn.startReport (h : [.image, .service] ⊆ l) : OnlyIn l s t.startReport ↔ OnlyIn l s t := by
  simp at h
  dsimp only [State.startReport]
  (repeat' split) <;> simp [h]

@[simp] theorem OnlyIn.sendFragment (h : [.image, .service] ⊆ l) : OnlyIn l s t.sendFragment ↔ OnlyIn l s t := by
  simp at h
  dsimp only [State.sendFragment]
  (repeat' split) <;> simp [h]

@[simp] theorem OnlyIn.finishReport (h : [.image, .service] ⊆ l) : OnlyIn l s t.finishReport ↔ OnlyIn l s t := by
  simp at h
  unfold State.finishReport
  dsimp only
  (repeat' split) <;> simp [h]

@[simp] theorem OnlyIn.sendNotice (h : [.notices, .service] ⊆ l) : OnlyIn l s t.sendNotice ↔ OnlyIn l s t := by
  simp at h
  unfold State.sendNotice
  dsimp only
  (repeat' split) <;> simp [h]

@[simp] theorem OnlyIn.restartService (h : [.service] ⊆ l) : OnlyIn l s t.restartService ↔ OnlyIn l s t := by
  simp at h
  unfold State.restartService
  simp [h]

@[simp] theorem OnlyIn.restartTables (h : [.present, .plan, .sets, .lines, .preamp, .tracking, .buses, .talk] ⊆ l) : OnlyIn l s t.restartTables ↔ OnlyIn l s t := by
  simp at h
  unfold State.restartTables
  dsimp only
  (repeat' split) <;> simp [h]

@[simp] theorem OnlyIn.restartConverters (h : [.preamp] ⊆ l) : OnlyIn l s t.restartConverters ↔ OnlyIn l s t := by
  simp at h
  unfold State.restartConverters
  dsimp only
  (repeat' split) <;> simp [h]

@[simp] theorem OnlyIn.restartCleared (h : [.members, .checker, .tracking, .counters, .notices, .talk, .lines] ⊆ l) : OnlyIn l s t.restartCleared ↔ OnlyIn l s t := by
  simp at h
  unfold State.restartCleared
  simp [h]

@[simp] theorem OnlyIn.raiseRestarted (h : [.notices, .counters] ⊆ l) : OnlyIn l s t.raiseRestarted ↔ OnlyIn l s t := by
  simp at h
  unfold State.raiseRestarted
  simp [h]

@[simp] theorem OnlyIn.restart (h : [.service, .image, .members, .checker, .present, .plan, .sets, .lines, .preamp, .tracking, .buses, .talk, .notices, .counters] ⊆ l) : OnlyIn l s t.restart ↔ OnlyIn l s t := by
  simp at h
  unfold State.restart
  simp [h]

@[simp] theorem OnlyIn.restartAct (h : [.service, .image, .members, .checker, .present, .plan, .sets, .lines, .preamp, .tracking, .buses, .talk, .notices, .counters] ⊆ l) :
    OnlyIn l s (t.restartAct).1 ↔ OnlyIn l s t := by
  simp at h
  dsimp only [State.restartAct]
  (repeat' split) <;> simp [h]

end Sys2Proof.Machine
end

