-- ==== Sys2Proof/Laws/Events.lean ====
section
/-! SUPPORT. What an event does (R169): the notices its doings raise are gathered, and taken at its end in ascending order of
subject. Everything but the notice queue and the notices-lost counter is as its doings leave it. What a boundary makes of the
pattern checker (R21). -/

namespace Sys2Proof.Machine

variable {s : State}

/-! ### A notice raised waits for the end of its event -/

@[simp] theorem State.raise_straps (k n d) : (s.raise k n d).straps = s.straps := rfl
@[simp] theorem State.raise_portE (k n d) : (s.raise k n d).portE = s.portE := rfl
@[simp] theorem State.raise_portW (k n d) : (s.raise k n d).portW = s.portW := rfl
@[simp] theorem State.raise_timing (k n d) : (s.raise k n d).timing = s.timing := rfl
@[simp] theorem State.raise_ring (k n d) : (s.raise k n d).ring = s.ring := rfl
@[simp] theorem State.raise_members (k n d) : (s.raise k n d).members = s.members := rfl
@[simp] theorem State.raise_service (k n d) : (s.raise k n d).service = s.service := rfl
@[simp] theorem State.raise_plan (k n d) : (s.raise k n d).plan = s.plan := rfl
@[simp] theorem State.raise_present (k n d) : (s.raise k n d).present = s.present := rfl
@[simp] theorem State.raise_checker (k n d) : (s.raise k n d).checker = s.checker := rfl
@[simp] theorem State.raise_audio (k n d) : (s.raise k n d).audio = s.audio := rfl
@[simp] theorem State.raise_preamp (k n d) : (s.raise k n d).preamp = s.preamp := rfl
@[simp] theorem State.raise_tracking (k n d) : (s.raise k n d).tracking = s.tracking := rfl
@[simp] theorem State.raise_buses (k n d) : (s.raise k n d).buses = s.buses := rfl
@[simp] theorem State.raise_talk (k n d) : (s.raise k n d).talk = s.talk := rfl
@[simp] theorem State.raise_lines (k n d) : (s.raise k n d).lines = s.lines := rfl
@[simp] theorem State.raise_sets (k n d) : (s.raise k n d).sets = s.sets := rfl
@[simp] theorem State.raise_image (k n d) : (s.raise k n d).image = s.image := rfl
@[simp] theorem State.raise_pending (k n d) : (s.raise k n d).pending = s.pending := rfl
@[simp] theorem State.raise_notices (k n d) : (s.raise k n d).notices = s.notices := rfl
@[simp] theorem State.raise_counters (k n d) : (s.raise k n d).counters = s.counters := rfl
@[simp] theorem State.raise_raised (k n d) : (s.raise k n d).raised = s.raised ++ [⟨k, n, d⟩] := rfl

/-! ### A notice taken -/

/-- Taking a notice leaves everything but notices and counters. -/
theorem State.intake_only (r : Raised) : OnlyIn [.notices, .counters] s (s.intake r) := by simp

@[simp] theorem State.intake_raised (r : Raised) : (s.intake r).raised = s.raised := by
  unfold State.intake
  split_ifs <;> rfl

/-- Taking several does too. -/
theorem State.intakes_only (q : List Raised) : OnlyIn [.notices, .counters] s (q.foldl State.intake s) := by
  rw [OnlyIn.foldl] <;> simp

/-- An event leaves what is none of notices and counters as its doings leave it. -/
theorem State.event_only (f : State → State) : OnlyIn [.notices, .counters] (f (s.setRaised [])) (s.event f) := by
  unfold State.event
  simp [State.intakes_only]

@[simp] theorem State.event_straps (f) : (s.event f).straps = (f (s.setRaised [])).straps := State.event_only f .straps (by simp)
@[simp] theorem State.event_portE (f) : (s.event f).portE = (f (s.setRaised [])).portE := State.event_only f .portE (by simp)
@[simp] theorem State.event_portW (f) : (s.event f).portW = (f (s.setRaised [])).portW := State.event_only f .portW (by simp)
@[simp] theorem State.event_timing (f) : (s.event f).timing = (f (s.setRaised [])).timing := State.event_only f .timing (by simp)
@[simp] theorem State.event_ring (f) : (s.event f).ring = (f (s.setRaised [])).ring := State.event_only f .ring (by simp)
@[simp] theorem State.event_members (f) : (s.event f).members = (f (s.setRaised [])).members := State.event_only f .members (by simp)
@[simp] theorem State.event_service (f) : (s.event f).service = (f (s.setRaised [])).service := State.event_only f .service (by simp)
@[simp] theorem State.event_plan (f) : (s.event f).plan = (f (s.setRaised [])).plan := State.event_only f .plan (by simp)
@[simp] theorem State.event_present (f) : (s.event f).present = (f (s.setRaised [])).present := State.event_only f .present (by simp)
@[simp] theorem State.event_checker (f) : (s.event f).checker = (f (s.setRaised [])).checker := State.event_only f .checker (by simp)
@[simp] theorem State.event_audio (f) : (s.event f).audio = (f (s.setRaised [])).audio := State.event_only f .audio (by simp)
@[simp] theorem State.event_preamp (f) : (s.event f).preamp = (f (s.setRaised [])).preamp := State.event_only f .preamp (by simp)
@[simp] theorem State.event_tracking (f) : (s.event f).tracking = (f (s.setRaised [])).tracking := State.event_only f .tracking (by simp)
@[simp] theorem State.event_buses (f) : (s.event f).buses = (f (s.setRaised [])).buses := State.event_only f .buses (by simp)
@[simp] theorem State.event_talk (f) : (s.event f).talk = (f (s.setRaised [])).talk := State.event_only f .talk (by simp)
@[simp] theorem State.event_lines (f) : (s.event f).lines = (f (s.setRaised [])).lines := State.event_only f .lines (by simp)
@[simp] theorem State.event_sets (f) : (s.event f).sets = (f (s.setRaised [])).sets := State.event_only f .sets (by simp)
@[simp] theorem State.event_image (f) : (s.event f).image = (f (s.setRaised [])).image := State.event_only f .image (by simp)
@[simp] theorem State.event_pending (f) : (s.event f).pending = (f (s.setRaised [])).pending := State.event_only f .pending (by simp)
@[simp] theorem State.event_raised (f) : (s.event f).raised = s.raised := rfl

/-- An event that does nothing leaves the state as it is. -/
theorem State.event_idle {f : State → State} (h : f (s.setRaised []) = s.setRaised []) : s.event f = s := by
  unfold State.event
  rw [h]
  rfl

/-- An event that raises nothing is its doings alone. -/
theorem State.event_quiet {f : State → State} (h : (f (s.setRaised [])).raised = []) :
    s.event f = (f (s.setRaised [])).setRaised s.raised := by
  simp only [State.event, h]
  rfl

/-- An event that raises one notice ends by taking it. -/
theorem State.event_one {f : State → State} {r : Raised} (h : (f (s.setRaised [])).raised = [r]) :
    s.event f = ((f (s.setRaised [])).intake r).setRaised s.raised := by
  simp only [State.event, h]
  rfl

/-! ### The order of subjects -/

theorem insertRaised_perm (x : Raised) (l : List Raised) : (insertRaised x l).Perm (x :: l) := by
  induction l with
  | nil => exact .refl _
  | cons y l ih =>
    unfold insertRaised
    split
    · exact (ih.cons y).trans (.swap x y l)
    · exact .refl _

/-- Ordering by subject loses no notice and adds none. -/
theorem bySubject_perm (l : List Raised) : (bySubject l).Perm l := by
  have e : ∀ q : List Raised, (l.foldl (fun q x => insertRaised x q) q).Perm (l ++ q) := by
    induction l with
    | nil => intro q; exact .refl _
    | cons x l ih =>
      intro q
      refine (ih (insertRaised x q)).trans ?_
      exact ((insertRaised_perm x q).append_left l).trans List.perm_middle
  have h := e []
  rwa [List.append_nil] at h

theorem insertRaised_sorted (x : Raised) {l : List Raised} (h : l.Pairwise fun a b => a.subject ≤ b.subject) :
    (insertRaised x l).Pairwise fun a b => a.subject ≤ b.subject := by
  induction l with
  | nil => simp [insertRaised]
  | cons y l ih =>
    obtain ⟨hy, hl⟩ := List.pairwise_cons.mp h
    unfold insertRaised
    split
    · next hxy =>
      refine List.pairwise_cons.mpr ⟨fun z hz => ?_, ih hl⟩
      rcases List.mem_cons.mp ((insertRaised_perm x l).mem_iff.mp hz) with rfl | hz
      · exact hxy
      · exact hy z hz
    · next hxy =>
      refine List.pairwise_cons.mpr ⟨fun z hz => ?_, h⟩
      rcases List.mem_cons.mp hz with rfl | hz
      · omega
      · have := hy z hz
        omega

/-- The notices of an event stand in ascending order of subject (R169). -/
theorem bySubject_sorted (l : List Raised) : (bySubject l).Pairwise fun a b => a.subject ≤ b.subject := by
  have e : ∀ q : List Raised, q.Pairwise (fun a b => a.subject ≤ b.subject) →
      (l.foldl (fun q x => insertRaised x q) q).Pairwise fun a b => a.subject ≤ b.subject := by
    induction l with
    | nil => intro q h; exact h
    | cons x l ih => intro q h; exact ih _ (insertRaised_sorted x h)
  exact e [] .nil

/-! ### The boundary and the pattern checker (R21) -/

/-- The counting of a boundary hands the checker's mode and slot to the frame that begins (R21). -/
theorem State.advance_checker (s : State) : s.advance.checker = s.checker.frame := by
  have h : ∀ t : State, OnlyIn [.ring, .present, .lines, .notices, .counters] t t.redetermine := fun t => by simp
  have k : OnlyIn [.service, .notices, .counters] s s.nextCellTime := by simp
  have e : s.nextCellTime.checker = s.checker := k .checker (by simp)
  unfold State.advance
  dsimp only
  split <;> split <;> first | rfl | rw [h _ .checker (by simp)] | skip
  all_goals simp [State.setChecker, e, State.setPresent, State.setPreamp, State.setTiming]

theorem State.begin_checker (s : State) (levels) : (s.begin levels).checker = s.checker.frame := by
  have h : ∀ t : State, OnlyIn [.members, .ring, .preamp, .talk, .lines] t (t.superframe levels) := fun t => by simp
  have k : ∀ t : State, t.settle.checker = t.checker := fun t =>
    (show OnlyIn [.ring, .present, .lines, .notices, .counters, .timing, .members, .service, .preamp, .talk, .image, .plan,
      .tracking] t t.settle by simp) .checker (by simp)
  unfold State.begin
  dsimp only
  split
  · rw [h _ .checker (by simp)]
    simp [State.advance_checker, k]
  · simp [State.advance_checker, k]

end Sys2Proof.Machine
end

