-- ==== Sys2Proof/Laws/Requests.lean ====
section
/-! SUPPORT. How a request leaves the work queue (R93, R94): what its execution answers, said once for the provers. -/

namespace Sys2Proof.Machine

variable {s u : State} {c : Cell}

/-- What is known of a result outside the groups it touches, group by group. -/
theorem OnlyIn.at {l : List Group} {s t : State} (h : OnlyIn l s t) (g : Group) (hg : g ∉ l) : Agree s t g := h g hg

@[simp] theorem State.popWork_straps (s : State) : s.popWork.straps = s.straps := rfl
@[simp] theorem State.popWork_portE (s : State) : s.popWork.portE = s.portE := rfl
@[simp] theorem State.popWork_portW (s : State) : s.popWork.portW = s.portW := rfl
@[simp] theorem State.popWork_timing (s : State) : s.popWork.timing = s.timing := rfl
@[simp] theorem State.popWork_ring (s : State) : s.popWork.ring = s.ring := rfl
@[simp] theorem State.popWork_members (s : State) : s.popWork.members = s.members := rfl
@[simp] theorem State.popWork_plan (s : State) : s.popWork.plan = s.plan := rfl
@[simp] theorem State.popWork_present (s : State) : s.popWork.present = s.present := rfl
@[simp] theorem State.popWork_checker (s : State) : s.popWork.checker = s.checker := rfl
@[simp] theorem State.popWork_audio (s : State) : s.popWork.audio = s.audio := rfl
@[simp] theorem State.popWork_preamp (s : State) : s.popWork.preamp = s.preamp := rfl
@[simp] theorem State.popWork_tracking (s : State) : s.popWork.tracking = s.tracking := rfl
@[simp] theorem State.popWork_buses (s : State) : s.popWork.buses = s.buses := rfl
@[simp] theorem State.popWork_talk (s : State) : s.popWork.talk = s.talk := rfl
@[simp] theorem State.popWork_lines (s : State) : s.popWork.lines = s.lines := rfl
@[simp] theorem State.popWork_sets (s : State) : s.popWork.sets = s.sets := rfl
@[simp] theorem State.popWork_notices (s : State) : s.popWork.notices = s.notices := rfl
@[simp] theorem State.popWork_counters (s : State) : s.popWork.counters = s.counters := rfl
@[simp] theorem State.popWork_image (s : State) : s.popWork.image = s.image := rfl
@[simp] theorem State.popWork_pending (s : State) : s.popWork.pending = s.pending := rfl

@[simp] theorem State.answer_straps (s : State) (c : Cell) (r : Reply) : (s.answer c r).straps = s.straps := by
  unfold State.answer State.place
  split <;> rfl
@[simp] theorem State.answer_portE (s : State) (c : Cell) (r : Reply) : (s.answer c r).portE = s.portE := by
  unfold State.answer State.place
  split <;> rfl
@[simp] theorem State.answer_portW (s : State) (c : Cell) (r : Reply) : (s.answer c r).portW = s.portW := by
  unfold State.answer State.place
  split <;> rfl
@[simp] theorem State.answer_timing (s : State) (c : Cell) (r : Reply) : (s.answer c r).timing = s.timing := by
  unfold State.answer State.place
  split <;> rfl
@[simp] theorem State.answer_ring (s : State) (c : Cell) (r : Reply) : (s.answer c r).ring = s.ring := by
  unfold State.answer State.place
  split <;> rfl
@[simp] theorem State.answer_members (s : State) (c : Cell) (r : Reply) : (s.answer c r).members = s.members := by
  unfold State.answer State.place
  split <;> rfl
@[simp] theorem State.answer_plan (s : State) (c : Cell) (r : Reply) : (s.answer c r).plan = s.plan := by
  unfold State.answer State.place
  split <;> rfl
@[simp] theorem State.answer_present (s : State) (c : Cell) (r : Reply) : (s.answer c r).present = s.present := by
  unfold State.answer State.place
  split <;> rfl
@[simp] theorem State.answer_checker (s : State) (c : Cell) (r : Reply) : (s.answer c r).checker = s.checker := by
  unfold State.answer State.place
  split <;> rfl
@[simp] theorem State.answer_audio (s : State) (c : Cell) (r : Reply) : (s.answer c r).audio = s.audio := by
  unfold State.answer State.place
  split <;> rfl
@[simp] theorem State.answer_preamp (s : State) (c : Cell) (r : Reply) : (s.answer c r).preamp = s.preamp := by
  unfold State.answer State.place
  split <;> rfl
@[simp] theorem State.answer_tracking (s : State) (c : Cell) (r : Reply) : (s.answer c r).tracking = s.tracking := by
  unfold State.answer State.place
  split <;> rfl
@[simp] theorem State.answer_buses (s : State) (c : Cell) (r : Reply) : (s.answer c r).buses = s.buses := by
  unfold State.answer State.place
  split <;> rfl
@[simp] theorem State.answer_talk (s : State) (c : Cell) (r : Reply) : (s.answer c r).talk = s.talk := by
  unfold State.answer State.place
  split <;> rfl
@[simp] theorem State.answer_lines (s : State) (c : Cell) (r : Reply) : (s.answer c r).lines = s.lines := by
  unfold State.answer State.place
  split <;> rfl
@[simp] theorem State.answer_sets (s : State) (c : Cell) (r : Reply) : (s.answer c r).sets = s.sets := by
  unfold State.answer State.place
  split <;> rfl
@[simp] theorem State.answer_notices (s : State) (c : Cell) (r : Reply) : (s.answer c r).notices = s.notices := by
  unfold State.answer State.place
  split <;> rfl
@[simp] theorem State.answer_counters (s : State) (c : Cell) (r : Reply) : (s.answer c r).counters = s.counters := by
  unfold State.answer State.place
  split <;> rfl
@[simp] theorem State.answer_image (s : State) (c : Cell) (r : Reply) : (s.answer c r).image = s.image := by
  unfold State.answer State.place
  split <;> rfl
@[simp] theorem State.answer_pending (s : State) (c : Cell) (r : Reply) : (s.answer c r).pending = s.pending := by
  unfold State.answer State.place
  split <;> rfl

@[simp] theorem State.popWork_service (s : State) : s.popWork.service = { s.service with work := s.service.work.tail } := rfl

/-- A request stands at the head of the work queue, with no READ in progress and room for its answer. -/
theorem State.request_eq_some (h : s.request = some c) :
    (∃ l, s.service.work = c :: l) ∧ s.service.reading = none ∧ s.answerRoom c = true := by
  unfold State.request at h
  split at h
  · next d l hw hr =>
    split at h
    · next hroom =>
      injection h with h
      subst h
      exact ⟨⟨l, hw⟩, hr, hroom⟩
    · exact absurd h (by simp)
  · exact absurd h (by simp)

/-- A request that a command executes is acted on and answered (R93). -/
theorem State.runHead_of {p : Cell → Bool} {act : Cell → State → State × Reply} (h : s.request = some c) (hp : p c = true) :
    s.runHead p act = (act c s.popWork).1.answer c (act c s.popWork).2 := by
  simp [State.runHead, h, hp]

/-- A command whose request is not the head does nothing (R93). -/
theorem State.runHead_idle {p : Cell → Bool} {act : Cell → State → State × Reply}
    (h : ∀ c, s.request = some c → p c = false) : s.runHead p act = s := by
  unfold State.runHead
  split
  · next c hc => simp [h c hc]
  · rfl

/-- An ACT whose role exists and whose arguments are all there is taken by its block (R96, R100). -/
theorem State.runAct_of {code args : Nat} {stageOnly : Bool} {act : Cell → State → State × Reply} (h : s.request = some c)
    (hc : c.acts code = true) (hl : 1 + args ≤ c.length) (hr : stageOnly = true → s.isStage = true) :
    s.runAct code stageOnly args act = (act c s.popWork).1.answer c (act c s.popWork).2 := by
  unfold State.runAct
  rw [State.runHead_of h hc]
  have e : s.popWork.checked stageOnly args c (act c s.popWork) = act c s.popWork := by
    unfold State.checked
    have : (stageOnly && s.popWork.isDesk) = false := by
      cases stageOnly with
      | false => rfl
      | true =>
        have := hr rfl
        simp only [State.isStage, beq_iff_eq] at this
        simp [State.isDesk, this]
    simp [this, Nat.not_lt.mpr hl]
  rw [e]

/-- What an action that leaves queues and straps alone makes of its request (R93, R94). -/
theorem answered_of {r : Reply} (h₁ : u.service = s.popWork.service) (h₂ : u.straps = s.straps) :
    Answered s (u.answer c r) c r := by
  have e₁ : u.fromOwnHost c = s.fromOwnHost c := by simp [State.fromOwnHost, State.id, State.isDesk, h₂]
  have e₂ : u.answerCell c r = answerTo s c r := by
    simp [State.answerCell, State.cellFor, State.id, h₂, answerTo, sentTo, CellKind.code]
  unfold Answered State.answer State.place
  rw [e₁, e₂]
  cases s.fromOwnHost c <;>
    simp [State.pushConsole, State.pushOutbound, h₁]

/-- A WRITE of tables that a command executes takes its entries, or is refused (R96, R97). -/
theorem State.runWrite_of {l : List Table} {w : Table → EntryWriter} (h : s.request = some c) (hw : c.writes l = true) :
    s.runWrite l w = (writeAct w c s.popWork).1.answer c (writeAct w c s.popWork).2 := by
  unfold State.runWrite
  exact State.runHead_of h hw

end Sys2Proof.Machine
end

