-- ==== Sys2Proof/Laws/Words.lean ====
section
/-! SUPPORT. What a table's operations do to its entries, and what a fold over the indices of a table keeps. -/

namespace Sys2Proof

namespace Tab

variable {α β : Type} {n : Nat}

theorem ext_get [Inhabited α] {a b : Tab α n} (h : ∀ i, i < n → a.get i = b.get i) : a = b := by
  cases a with | mk la ha =>
  cases b with | mk lb hb =>
  congr
  apply List.ext_getElem (by omega)
  intro i h₁ h₂
  have := h i (by omega)
  simp only [get, List.getD_eq_getElem?_getD, List.getElem?_eq_getElem h₁, List.getElem?_eq_getElem h₂,
    Option.getD_some] at this
  exact this

@[simp] theorem get_put_same [Inhabited α] (t : Tab α n) {i : Nat} (a : α) (h : i < n) : (t.put i a).get i = a := by
  simp [put, get, t.length_eq, h]

theorem get_put_ne [Inhabited α] (t : Tab α n) {i j : Nat} (a : α) (h : i ≠ j) : (t.put i a).get j = t.get j := by
  simp [put, get, List.getElem?_set_ne h]

theorem get_put [Inhabited α] (t : Tab α n) {i j : Nat} (a : α) (h : i < n) :
    (t.put i a).get j = if i = j then a else t.get j := by
  split
  · next e => subst e; simp [h]
  · next e => exact get_put_ne t a e

/-- An entry put beyond the table changes nothing. -/
theorem put_beyond (t : Tab α n) {i : Nat} (a : α) (h : n ≤ i) : t.put i a = t := by
  cases t with | mk l e =>
  simp only [put]
  congr
  exact List.set_eq_of_length_le (by omega)

@[simp] theorem get_fill [Inhabited α] (a : α) {i : Nat} (h : i < n) : (fill n a).get i = a := by
  simp [fill, get, h]

@[simp] theorem get_ofFn [Inhabited α] (f : Nat → α) {i : Nat} (h : i < n) : (ofFn n f).get i = f i := by
  simp [ofFn, get, h]

@[simp] theorem get_map [Inhabited α] [Inhabited β] (f : α → β) (t : Tab α n) {i : Nat} (h : i < n) :
    (t.map f).get i = f (t.get i) := by
  simp [map, get, t.length_eq, h]

@[simp] theorem get_mapIdx [Inhabited α] [Inhabited β] (f : Nat → α → β) (t : Tab α n) {i : Nat} (h : i < n) :
    (t.mapIdx f).get i = f i (t.get i) := by
  simp [mapIdx, h]

@[simp] theorem put_toList_length (t : Tab α n) (i : Nat) (a : α) : (t.put i a).toList.length = n := (t.put i a).length_eq

@[simp] theorem put_get [Inhabited α] (t : Tab α n) (i : Nat) : t.put i (t.get i) = t := by
  rcases Nat.lt_or_ge i n with h | h
  · apply ext_get
    intro j hj
    rw [get_put _ _ h]
    split
    · next e => rw [e]
    · rfl
  · exact put_beyond t _ h

end Tab

namespace Machine

/-- What every operation of a fold keeps, the fold keeps. -/
theorem foldl_keeps {α : Type} {p : State → Prop} {f : State → α → State} (hf : ∀ s a, p s → p (f s a)) (q : List α)
    {s : State} (h : p s) : p (q.foldl f s) := by
  induction q generalizing s with
  | nil => exact h
  | cons a q ih => exact ih (hf s a h)

/-- What every operation of `forEach` keeps, `forEach` keeps. -/
theorem forEach_keeps {p : State → Prop} {f : Nat → State → State} (hf : ∀ i s, p s → p (f i s)) (n : Nat) {s : State}
    (h : p s) : p (forEach n f s) := foldl_keeps (fun s i => hf i s) _ h

end Machine

end Sys2Proof
end

