-- ==== Sys2Proof/Laws/Entries.lean ====
section
/-! SUPPORT. What the shared operations do to one entry of a table: a preamp entry, a talk register row, a counter, a bus; and
when a frame is judged good; what a load of the counters takes first. -/

namespace Sys2Proof.Machine

variable {s : State} {c : Cell} {r : Reply}

/-! ### Counters (R175) -/

/-- The counter that is increased goes up by one and stops at 65535. -/
theorem State.counter_bump_same (x : CounterId) : (s.bump x).counter x = min (s.counter x + 1) 65535 := by
  cases x <;> simp [State.counter, State.bump, Tab.modify, CounterId.index, saturate]

/-- Every other counter stays. -/
theorem State.counter_bump_ne {x y : CounterId} (h : y ≠ x) : (s.bump x).counter y = s.counter y := by
  simp only [State.counter, State.bump, Tab.modify, State.setCounters_counters]
  rw [Tab.get_put_ne]
  revert h
  cases x <;> cases y <;> simp [CounterId.index]

/-- A notice taken moves at most the notices-lost counter (R169, R171). -/
theorem State.counter_intake {x : CounterId} (r : Raised) (h : x ≠ .noticesLost) : (s.intake r).counter x = s.counter x := by
  unfold State.intake
  split_ifs
  · rfl
  · rfl
  · rfl
  · exact State.counter_bump_ne (s := s.setNotices _) h
  · exact State.counter_bump_ne h

/-- At its end an event moves at most the notices-lost counter beyond what its doings moved (R169). -/
theorem State.counter_event {x : CounterId} (f : State → State) (h : x ≠ .noticesLost) :
    (s.event f).counter x = (f (s.setRaised [])).counter x := by
  have e : ∀ (q : List Raised) (t : State), (q.foldl State.intake t).counter x = t.counter x := by
    intro q
    induction q with
    | nil => intro t; rfl
    | cons r q ih => intro t; simp [ih, State.counter_intake r h]
  unfold State.event
  exact e _ _

/-! ### Preamp entries -/

/-- An entry replaced is the new one, every other is as before. -/
theorem State.setEntry_entry {n m : Nat} {e : PreampEntry} (h : n < 64) :
    (s.setEntry n e).entry m = if n = m then e else s.entry m := by
  simp [State.entry, State.setEntry, Tab.get_put _ _ h]

@[simp] theorem State.raise_entry (k n d m) : (s.raise k n d).entry m = s.entry m := by simp [State.entry]

@[simp] theorem State.answer_entry (m : Nat) : (s.answer c r).entry m = s.entry m := by simp [State.entry]

/-- A change of owner touches the owner, its state and the grace timer of one entry (R112). -/
theorem State.setOwner_entry {n m : Nat} {o : Option NodeId} {st : OwnerState} {g : Nat} {cause : OwnerCause} (h : n < 64) :
    (s.setOwner n o st g cause).entry m =
      if n = m then { s.entry n with owner := o, ownerState := st, grace := g } else s.entry m := by
  simp [State.setOwner, State.raiseOwner, State.setEntry_entry h]

/-! ### Talk register rows and buses -/

/-- A row replaced is the new one, every other is as before. -/
theorem State.setRow_talkRow {a b : Nat} {x : TalkRow} (h : a < 4) :
    (s.setRow a x).talkRow b = if a = b then x else s.talkRow b := by
  simp [State.setRow, State.talkRow, State.driveLines, Tab.get_put _ _ h]

@[simp] theorem State.setRow_sources (a : Nat) (x : TalkRow) : (s.setRow a x).talk.sources = s.talk.sources := rfl

/-- A bus replaced is the new one, every other is as before. -/
theorem State.setBus_bus {a b : Nat} {x : Bus} (h : a < 16) : (s.setBus a x).bus b = if a = b then x else s.bus b := by
  simp [State.bus, State.setBus, Tab.get_put _ _ h]

/-- An exact result is clamped to the 24-bit range (R151). -/
theorem clampSample_toInt (y : Int) : (clampSample y).toInt = max (-8388608) (min y 8388607) := by
  unfold clampSample clampInt
  rw [BitVec.toInt_ofInt]
  apply Int.bmod_eq_of_le <;> omega

/-! ### Good frames (R2, R3) -/

/-- A frame sent is judged good where its length, as its own flag gives it, is that of its covered bytes, and its frame number
is 47 or less; what is read is what its bytes spell. -/
theorem judgeFrame_bytes {f : Frame} (hl : coveredLength (f.covered ++ crc16Bytes f.covered) = f.covered.length)
    (hn : (byteAt (f.covered ++ crc16Bytes f.covered) 0).toNat ≤ 47) :
    judgeFrame f.bytes = some (frameAt (f.covered ++ crc16Bytes f.covered)) := by
  have e : f.bytes.drop 2 = f.covered ++ crc16Bytes f.covered := rfl
  have p : f.bytes.take 2 = [0xB5#8, 0x4E#8] := rfl
  unfold judgeFrame
  simp only [e, p, hl]
  rw [if_pos]
  simp [crc16Bytes]
  exact hn

/-! ### What a load takes first (R72) -/

/-- A count of operations that change nothing changes nothing. -/
theorem forEach_id {n : Nat} {f : Nat → State → State} (h : ∀ i, f i s = s) : forEach n f s = s := by
  unfold forEach
  induction List.range n <;> simp_all

/-- Outside frame 0 only the pass of superframe 64 can have been reached. -/
theorem State.reached_of_frame (h : s.timing.frame ≠ 0) : s.reached = s.reloadTimeout := by
  have hs : (s.forSides fun p s => s.unwrapNow p).swapNow = s := by
    simp [State.forSides, State.unwrapNow, State.unwrapDue, State.swapNow, State.swapDue, h]
  rw [State.reached, hs, forEach_id fun n => by simp [State.changeNow, State.changeDue, h]]

/-- Before a load the slot plan takes a swap that stands due, and nothing else (R72). -/
theorem State.reached_plan : s.reached.plan = s.swapNow.plan := by
  have a : OnlyIn [.ring, .present, .lines, .notices, .counters] s (s.forSides fun p s => s.unwrapNow p) := by
    rw [OnlyIn.forSides _ (by intro p t; simp)]; simp
  have hp := a.at .plan (by simp)
  have ht := a.at .timing (by simp)
  have b : OnlyIn [.preamp, .service, .tracking, .notices, .counters] (s.forSides fun p s => s.unwrapNow p).swapNow s.reached := by
    unfold State.reached
    rw [OnlyIn.reloadTimeout (by simp), OnlyIn.forEach _ _ (by intro i t; simp)]; simp
  refine (b.at .plan (by simp)).trans ?_
  simp only [Agree] at hp ht
  simp only [State.swapNow, State.swapDue, hp, ht]
  by_cases h : (s.plan.swap == some s.timing.superframe && s.timing.frame == 0) = true <;>
    simp [h, State.raiseBank, State.activeSlots, hp]

end Sys2Proof.Machine
end

