-- ==== Sys2Proof/Laws/Lane.lean ====
section
/-! SUPPORT. The service lane: what a node takes for a granted cell time (R36, R40, R127), and where a cell from the ring or from
the host goes (R90 to R92). -/

namespace Sys2Proof.Machine

variable {s : State} {c : Cell}

/-! ### Forming STEP cells (R127) -/

/-- What one STEP cell takes from the queue, and what it leaves there (R127). -/
theorem takeFor_spec (d : NodeId) (n : Nat) (q : List StepRecord) :
    (takeFor d n q).1 = (q.filter (·.dest == d)).take n ∧ (takeFor d n q).2.Sublist q
    ∧ (takeFor d n q).2.filter (·.dest == d) = (q.filter (·.dest == d)).drop n
    ∧ (takeFor d n q).2.filter (·.dest != d) = q.filter (·.dest != d) := by
  induction q generalizing n with
  | nil => cases n <;> simp [takeFor]
  | cons r l ih =>
    cases n with
    | zero => simp [takeFor]
    | succ n =>
      unfold takeFor
      by_cases h : r.dest = d
      · obtain ⟨a, b, e, f⟩ := ih n
        simp [h, a, b.cons, e, f]
      · obtain ⟨a, b, e, f⟩ := ih (n + 1)
        simp [h, a, b.cons_cons, e, f]

/-- How many STEP cells these records form: three of one destination to a cell (R127). -/
theorem stepCells_eq (q : List StepRecord) :
    stepCells q = ((List.finRange 4).map fun d => (q.countP (·.dest == d) + 2) / 3).sum := by
  have main : ∀ (n : Nat) (q : List StepRecord), q.length ≤ n →
      countSteps n q = ((List.finRange 4).map fun d => (q.countP (·.dest == d) + 2) / 3).sum := by
    intro n
    induction n with
    | zero => intro q h; simp [List.length_eq_zero_iff.mp (Nat.le_zero.mp h), countSteps, List.finRange]
    | succ n ih =>
      intro q h
      cases q with
      | nil => simp [countSteps, List.finRange]
      | cons r l =>
        obtain ⟨-, -, hm, ho⟩ := takeFor_spec r.dest 3 (r :: l)
        have mine : ((packStep (r :: l)).2).countP (·.dest == r.dest) = (r :: l).countP (·.dest == r.dest) - 3 := by
          rw [List.countP_eq_length_filter, List.countP_eq_length_filter, ← List.length_drop, ← hm]; rfl
        have other : ∀ d, d ≠ r.dest → ((packStep (r :: l)).2).countP (·.dest == d) = (r :: l).countP (·.dest == d) := by
          intro d hd
          have e : ∀ k : List StepRecord, k.countP (·.dest == d) = (k.filter (·.dest != r.dest)).countP (·.dest == d) := by
            intro k
            rw [List.countP_filter]
            congr 1
            funext x
            by_cases hx : x.dest = d <;> simp [hx, hd]
          rw [e, e (r :: l), ← ho]; rfl
        have one : 1 ≤ (r :: l).countP (·.dest == r.dest) := List.countP_pos_iff.mpr ⟨r, by simp⟩
        have short : ((packStep (r :: l)).2).length ≤ n := by
          have x : ∀ k : List StepRecord, k.length = k.countP (·.dest == r.dest) + k.countP (fun y => y.dest != r.dest) := by
            intro k
            rw [List.length_eq_countP_add_countP (·.dest == r.dest)]
            congr 2
            funext y
            by_cases hy : y.dest = r.dest <;> simp [hy]
          have z : (packStep (r :: l)).2.countP (fun y => y.dest != r.dest) = (r :: l).countP (fun y => y.dest != r.dest) := by
            rw [List.countP_eq_length_filter, List.countP_eq_length_filter, ← ho]; rfl
          have := x (packStep (r :: l)).2
          have := x (r :: l)
          omega
        rw [countSteps, ih _ short]
        have f : ∀ d : NodeId, ((packStep (r :: l)).2.countP (·.dest == d) + 2) / 3
            = ((r :: l).countP (·.dest == d) + 2) / 3 - if d = r.dest then 1 else 0 := by
          intro d
          by_cases hd : d = r.dest
          · subst hd
            rw [mine, if_pos rfl]
            omega
          · rw [other d hd, if_neg hd]; rfl
        have p : 1 ≤ ((r :: l).countP (·.dest == r.dest) + 2) / 3 := by omega
        generalize hg : (fun d : NodeId => ((r :: l).countP (·.dest == d) + 2) / 3) = g
        have f' : (fun d : NodeId => ((packStep (r :: l)).2.countP (·.dest == d) + 2) / 3)
            = fun d => g d - if d = r.dest then 1 else 0 := by
          funext d; rw [f d, ← hg]
        have p' : 1 ≤ g r.dest := by rw [← hg]; exact p
        rw [f']
        generalize r.dest = e at p'
        have : (List.finRange 4 : List NodeId) = [0, 1, 2, 3] := rfl
        rw [this]
        have he : ∀ e : NodeId, e = 0 ∨ e = 1 ∨ e = 2 ∨ e = 3 := by decide
        rcases he e with rfl | rfl | rfl | rfl <;> simp at p' ⊢ <;> omega
  exact main _ q (Nat.le_refl _)

/-- The request level a node asks with (R40). -/
theorem State.requestLevel_eq (s : State) : s.requestLevel =
    requested s.service.stepQueue (s.service.outbound.length + if s.id = 0 then s.service.relay.length else 0) := by
  rw [State.requestLevel, requested, stepCells_eq, Nat.add_assoc]

/-- The examination of next targets only adds records behind the queue, and nothing where none waits (R116). -/
theorem State.promote_queue (s : State) : ∃ added,
    s.promote.service = { s.service with stepQueue := s.service.stepQueue ++ added }
    ∧ ((∀ n, n < 64 → (s.entry n).next = none) → added = []) := by
  have one : ∀ (n : Nat) (u : State), ∃ added,
      (State.promoteOne n u).service = { u.service with stepQueue := u.service.stepQueue ++ added }
      ∧ ((u.entry n).next = none → State.promoteOne n u = u ∧ added = []) := by
    intro n u
    unfold State.promoteOne
    dsimp only
    split
    · next w hn hp =>
      split
      · exact ⟨[], by rw [List.append_nil]; rfl, fun h => by simp [h] at hn⟩
      · split
        · refine ⟨_, rfl, fun h => by simp [h] at hn⟩
        · exact ⟨[], by simp, fun h => by simp [h] at hn⟩
    · exact ⟨[], by simp, fun _ => ⟨rfl, rfl⟩⟩
  have all : ∀ (l : List Nat) (u : State), (∀ n ∈ l, n < 64) → ∃ added,
      (l.foldl (fun s i => State.promoteOne i s) u).service = { u.service with stepQueue := u.service.stepQueue ++ added }
      ∧ ((∀ n, n < 64 → (u.entry n).next = none) → added = []) := by
    intro l
    induction l with
    | nil => exact fun u _ => ⟨[], by simp, fun _ => rfl⟩
    | cons n l ih =>
      intro u hl
      obtain ⟨a, ha, hb⟩ := one n u
      obtain ⟨b, hc, hd⟩ := ih (State.promoteOne n u) fun m hm => hl m (List.mem_cons_of_mem _ hm)
      refine ⟨a ++ b, by simp [hc, ha], fun h => ?_⟩
      have x := hb (h n (hl n List.mem_cons_self))
      rw [x.1] at hd
      simp [x.2, hd h]
  unfold State.promote
  split
  · exact all _ s fun n hn => by simpa using hn
  · exact ⟨[], by simp, fun _ => rfl⟩

/-- The bytes of a STEP cell are those that R127 and R186 name. -/
theorem State.stepCell_eq (s : State) (d : NodeId) (l : List StepRecord) :
    s.stepCell d l = { dest := toNode d, destConsole := false, origin := s.id, originConsole := false, kind := 7, tag := 0
                       length := 1 + 5 * l.length, relayed := false
                       payload := .ofList 16 0 (byte l.length :: l.flatMap fun x =>
                         [byte x.input, signedByte x.delta] ++ word16 x.apply ++ [byte x.exempt.val]) } := by
  have e : (l.flatMap StepRecord.bytes).length = 5 * l.length := by
    induction l with
    | nil => rfl
    | cons r l ih => simp [ih, StepRecord.bytes, word16]; omega
  simp only [State.stepCell, List.length_cons, e, CellKind.code, Nat.add_comm]
  rfl

/-- The taking of a cell does what R36 says. -/
theorem State.takeCell_spec (s : State) (k : Nat) :
    CellTaken s (s.takeCell k) k s.service.stepQueue (if s.id = 0 then s.service.relay else []) s.service.outbound := by
  unfold State.takeCell
  split
  · next r l hq =>
    have hp := takeFor_spec r.dest 3 (r :: l)
    have hk : packStep (r :: l) = takeFor r.dest 3 (r :: l) := rfl
    obtain ⟨added, ha, hb⟩ := ((s.setStepQueue (packStep s.service.stepQueue).2).setLaneOut k
      (s.stepCell r.dest (packStep s.service.stepQueue).1).encode).promote_queue
    have hi : ∀ u : State, u.promote.id = u.id := fun u => by
      have x : OnlyIn [.preamp, .service, .notices, .counters] u u.promote := by simp
      simp only [State.id, show u.promote.straps = u.straps from x.at .straps (by simp)]
    refine ⟨fun r' l' h => ?_, fun h => by simp [hq] at h⟩
    rw [hq, List.cons.injEq] at h
    obtain ⟨rfl, rfl⟩ := h
    simp only [State.stepCell_eq, hq, hk, hp.1] at ha hb ⊢
    simp only [ha, hi]
    exact ⟨rfl, fun h0 => by rw [if_pos (show s.id = 0 from h0)]; rfl, rfl, _, added, rfl, hp.2.1, hp.2.2.1, hp.2.2.2, hb⟩
  · next hq =>
    refine ⟨fun r l h => (by simp [hq] at h), fun _ => ?_⟩
    unfold State.takeWhole State.takeOutbound
    by_cases h0 : s.id = 0 <;> simp only [h0, if_true, if_false]
    · cases hr : s.service.relay <;> cases ho : s.service.outbound <;> simp [hq, hr, ho, State.setLaneOut]
    · cases hr : s.service.relay <;> cases ho : s.service.outbound <;> simp [hq, hr, ho, State.setLaneOut, State.id] <;> exact fun h => absurd h h0
/-! ### Cells from the ring (R90, R92, R185) -/

theorem Cell.isRequest_iff (c : Cell) : c.isRequest = true ↔ c.kind.toNat = 1 ∨ c.kind.toNat = 2 ∨ c.kind.toNat = 4 := by
  unfold Cell.isRequest Cell.kind?
  split <;> simp_all

/-- One counter raised, no other moved. -/
theorem CountersOutside.of_bump (s : State) (k : CounterId) :
    (s.bump k).counter k = min (s.counter k + 1) 65535 ∧ CountersOutside [k] s (s.bump k) :=
  ⟨State.counter_bump_same k, fun _ h => State.counter_bump_ne (by simpa using h)⟩

theorem toNode_ne_all (d : NodeId) : toNode d ≠ toAll := by revert d; decide

theorem toNode_inj {d e : NodeId} (h : toNode d = toNode e) : d = e := by revert d e; decide

theorem State.routeRing_elsewhere {d : NodeId} (h : d ≠ s.id) (hd : c.dest = toNode d) : s.routeRing c = s := by
  have e : c.destNode = some d := by simp [Cell.destNode, hd, toNode]
  unfold State.routeRing
  rw [if_neg (by rw [hd]; rintro (x | x); exact h (toNode_inj x); exact toNode_ne_all _ x), if_neg (by rw [e]; simp)]

theorem State.routeRing_work (h : ((c.kind.toNat = 1 ∨ c.kind.toNat = 2 ∨ c.kind.toNat = 4) ∧ (c.dest = toNode s.id ∨ c.dest = toAll))
    ∨ (c.kind.toNat = 7 ∧ c.dest = toNode s.id)) : s.routeRing c = s.workIntake c := by
  rcases h with ⟨h | h | h, hd⟩ | ⟨h, hd⟩
  all_goals simp [State.routeRing, Cell.kind?, h, hd, toNode_ne_all]

theorem State.routeRing_host (h : c.kind.toNat = 3 ∨ c.kind.toNat = 5 ∨ c.kind.toNat = 6 ∨ c.kind.toNat = 8)
    (hd : c.dest = toNode s.id) : s.routeRing c = s.consoleIntake c := by
  rcases h with h | h | h | h
  all_goals simp [State.routeRing, Cell.kind?, h, hd, toNode_ne_all]

theorem State.routeRing_other (he : ¬ ∃ d, d ≠ s.id ∧ c.dest = toNode d)
    (hw : ¬ (((c.kind.toNat = 1 ∨ c.kind.toNat = 2 ∨ c.kind.toNat = 4) ∧ (c.dest = toNode s.id ∨ c.dest = toAll))
      ∨ (c.kind.toNat = 7 ∧ c.dest = toNode s.id)))
    (hh : ¬ ((c.kind.toNat = 3 ∨ c.kind.toNat = 5 ∨ c.kind.toNat = 6 ∨ c.kind.toNat = 8) ∧ c.dest = toNode s.id)) :
    s.routeRing c = s.bump .cellDiscards := by
  unfold State.routeRing
  by_cases hm : c.dest = toNode s.id ∨ c.dest = toAll
  · rw [if_pos hm]
    unfold Cell.kind?
    generalize c.kind.toNat = n at hw hh ⊢
    rcases n with _ | _ | _ | _ | _ | _ | _ | _ | _ | n <;> simp_all
  · rw [if_neg hm, if_pos]
    unfold Cell.destNode
    split
    · next h => exact absurd ⟨⟨c.dest.val, h⟩, fun x => hm (.inl (by rw [← x]; rfl)), rfl⟩ he
    · rfl

/-- The routing of a cell from the ring does what R90 and R92 say. -/
theorem State.routeRing_spec (s : State) (c : Cell) : RingRouted s (s.routeRing c) c := by
  have b := CountersOutside.of_bump s
  have bc : ∀ k, (s.bump k).service = s.service := fun _ => rfl
  refine ⟨?_, ?_, ?_, ?_, ?_, ?_⟩
  · rintro ⟨d, h, hd⟩
    rw [State.routeRing_elsewhere h hd]; exact ⟨⟨rfl, rfl, rfl⟩, rfl⟩
  · intro h hr
    rw [State.routeRing_work h, State.workIntake, if_pos (by simpa [hasRoom] using hr)]
    exact ⟨⟨rfl, rfl, rfl⟩, rfl⟩
  · intro h hr
    rw [State.routeRing_work h, State.workIntake, if_neg (by simpa [hasRoom] using hr)]
    have hq := Cell.isRequest_iff c
    by_cases x : c.isRequest = true ∧ hasRoom s.service.outbound = true
    · rw [if_pos x]
      have x2 := x.2
      simp only [hasRoom, decide_eq_true_eq] at x2
      refine ⟨b _, fun _ _ => ⟨rfl, rfl, rfl⟩, fun y => ?_⟩
      rcases y with y | y
      · exact absurd (hq.mp x.1) y
      · omega
    · rw [if_neg x]
      refine ⟨b _, fun y z => absurd ⟨hq.mpr y, by simpa [hasRoom] using z⟩ x, fun _ => ⟨rfl, rfl, rfl⟩⟩
  · rintro ⟨h, hd, hc, hk⟩ hr
    rw [State.routeRing_host h hd, State.consoleIntake, if_pos ⟨hc, hk⟩, if_pos (by simpa [hasRoom] using hr)]
    exact ⟨⟨rfl, rfl, rfl⟩, rfl⟩
  · rintro ⟨h, hd, hc, hk⟩ hr
    rw [State.routeRing_host h hd, State.consoleIntake, if_pos ⟨hc, hk⟩, if_neg (by simpa [hasRoom] using hr)]
    exact ⟨⟨rfl, rfl, rfl⟩, b _⟩
  · intro he hw hh
    by_cases h : (c.kind.toNat = 3 ∨ c.kind.toNat = 5 ∨ c.kind.toNat = 6 ∨ c.kind.toNat = 8) ∧ c.dest = toNode s.id
    · rw [State.routeRing_host h.1 h.2, State.consoleIntake, if_neg fun x => hh ⟨h.1, h.2, x.1, x.2⟩]
      exact ⟨⟨rfl, rfl, rfl⟩, b _⟩
    · rw [State.routeRing_other he hw h]
      exact ⟨⟨rfl, rfl, rfl⟩, b _⟩
/-! ### Cells from the host (R91, R92) -/

/-- An answer to the host enters the console queue, or is counted where that is full (R91). -/
theorem State.answerHost_spec (s u : State) (r : Reply) (others : List CounterId) (hs : u.straps = s.straps)
    (hc : u.service.console = s.service.console) (hk : u.counter .consoleDiscards = s.counter .consoleDiscards)
    (ho : CountersOutside others s u) :
    CountersOutside (.consoleDiscards :: others) s (u.answerHost c r)
    ∧ (s.service.console.length < 16 → (u.answerHost c r).service.console = s.service.console ++ [s.answerCell c r]
        ∧ (u.answerHost c r).counter .consoleDiscards = s.counter .consoleDiscards)
    ∧ (16 ≤ s.service.console.length → (u.answerHost c r).service.console = s.service.console
        ∧ (u.answerHost c r).counter .consoleDiscards = min (s.counter .consoleDiscards + 1) 65535) := by
  have ha : u.answerCell c r = s.answerCell c r := by simp [State.answerCell, State.cellFor, State.id, hs]
  unfold State.answerHost
  by_cases h : s.service.console.length < 16
  · rw [if_pos (by simpa [hasRoom, hc] using h)]
    refine ⟨fun k x => ho k fun y => x (List.mem_cons_of_mem _ y), fun _ => ⟨?_, hk⟩, fun x => by omega⟩
    simp [State.pushConsole, hc, ha]
  · rw [if_neg (by simpa [hasRoom, hc] using h)]
    refine ⟨fun k x => ?_, fun x => absurd x h, fun _ => ⟨hc, by rw [State.counter_bump_same, hk]⟩⟩
    rw [State.counter_bump_ne fun y => x (by simp [y])]
    exact ho k fun y => x (List.mem_cons_of_mem _ y)

theorem State.answerHost_work (u : State) (r : Reply) : (u.answerHost c r).service.work = u.service.work := by
  unfold State.answerHost; split <;> rfl

theorem State.answerHost_outbound (u : State) (r : Reply) : (u.answerHost c r).service.outbound = u.service.outbound := by
  unfold State.answerHost; split <;> rfl

theorem State.answerHost_counter (u : State) (r : Reply) (k : CounterId) (h : k ≠ .consoleDiscards) :
    (u.answerHost c r).counter k = u.counter k := by
  unfold State.answerHost
  split
  · rfl
  · exact State.counter_bump_ne h

/-- A cell from the host goes where R91 and R92 say. -/
theorem State.takeHostCell_spec (s : State) (c : Cell) : HostRouted s (s.takeHostCell c) c := by
  have hq := Cell.isRequest_iff c
  have refusal : ∀ u, u = s.refuseHost c → (u.service.work = s.service.work ∧ u.service.outbound = s.service.outbound)
      ∧ (CountersOutside [.consoleDiscards, .cellDiscards] s u
        ∧ (s.service.console.length < 16 → u.service.console = s.service.console ++ [s.answerCell c ⟨.busy, 1, []⟩]
            ∧ u.counter .consoleDiscards = s.counter .consoleDiscards)
        ∧ (16 ≤ s.service.console.length → u.service.console = s.service.console
            ∧ u.counter .consoleDiscards = min (s.counter .consoleDiscards + 1) 65535))
      ∧ u.counter .cellDiscards = min (s.counter .cellDiscards + 1) 65535 := by
    rintro u rfl
    refine ⟨⟨State.answerHost_work _ _, State.answerHost_outbound _ _⟩,
      State.answerHost_spec s _ _ [.cellDiscards] rfl rfl (State.counter_bump_ne (by decide)) (CountersOutside.of_bump s _).2, ?_⟩
    rw [State.refuseHost, State.answerHost_counter _ _ _ (by decide), State.counter_bump_same]
  have unserved : ∀ (v u : State) (st : Status), v.straps = s.straps → v.service.console = s.service.console →
      v.counters = s.counters → u = v.answerHost c (noDest st c) →
      (u.service.work = v.service.work ∧ u.service.outbound = v.service.outbound)
      ∧ CountersOutside [.consoleDiscards] s u
        ∧ (s.service.console.length < 16 → u.service.console = s.service.console ++ [s.answerCell c (reply st [byte c.dest.val])]
            ∧ u.counter .consoleDiscards = s.counter .consoleDiscards)
        ∧ (16 ≤ s.service.console.length → u.service.console = s.service.console
            ∧ u.counter .consoleDiscards = min (s.counter .consoleDiscards + 1) 65535) := by
    rintro v u st hs hc hk rfl
    exact ⟨⟨State.answerHost_work _ _, State.answerHost_outbound _ _⟩,
      State.answerHost_spec s v _ [] hs hc (by simp only [State.counter, hk]) fun k _ => by simp only [State.counter, hk]⟩
  have dest : ∀ d, c.dest = toNode d → c.dest ≠ toAll ∧ c.destNode = some d := fun d h =>
    ⟨by rw [h]; exact toNode_ne_all d, by simp [Cell.destNode, h, toNode]⟩
  have full : ∀ {q : List Cell}, 16 ≤ q.length → hasRoom q = false := by intro q h; simpa [hasRoom] using h
  have room : ∀ {q : List Cell}, q.length < 16 → hasRoom q = true := by intro q h; simpa [hasRoom] using h
  refine ⟨fun h => ?_, fun h hd => ?_, fun h hd hi => ?_, fun h hd hi => ?_, fun d h hd hs => ?_, fun h hd hn => ?_⟩
  · have e : s.takeHostCell c = s.bump .cellDiscards := by
      rw [State.takeHostCell, if_pos]
      simpa using fun x => h (hq.mp x)
    rw [e]
    exact ⟨⟨rfl, rfl⟩, rfl, (CountersOutside.of_bump s _).2, State.counter_bump_same _⟩
  · have e : s.takeHostCell c = if hasRoom s.service.work then s.pushWork c else s.refuseHost c := by
      simp [State.takeHostCell, hq.mpr h, (dest _ hd).1, (dest _ hd).2]
    rw [e]
    exact ⟨fun w => by rw [room w]; exact ⟨⟨rfl, rfl⟩, rfl, rfl⟩, fun w => by rw [full w]; exact refusal _ rfl⟩
  · have e : s.takeHostCell c = if (hasRoom s.service.work && hasRoom s.service.outbound) = true then (s.pushWork c).pushOutbound c
        else s.refuseHost c := by
      simp [State.takeHostCell, hq.mpr h, hd, State.hostAll, hi]
    rw [e]
    refine ⟨fun w o => by rw [room w, room o]; exact ⟨⟨rfl, rfl⟩, rfl, rfl⟩, fun w => ?_⟩
    rw [if_neg]
    · exact refusal _ rfl
    · rcases w with w | w <;> simp [full w]
  · have e : s.takeHostCell c = if hasRoom s.service.work then (s.pushWork c).answerHost c (noDest .unreachable c)
        else s.refuseHost c := by
      simp [State.takeHostCell, hq.mpr h, hd, State.hostAll, hi]
    rw [e]
    exact ⟨fun w => by rw [room w]; exact unserved (s.pushWork c) _ _ rfl rfl rfl rfl, fun w => by rw [full w]; exact refusal _ rfl⟩
  · have e : s.takeHostCell c = s.hostOther c d := by
      simp [State.takeHostCell, hq.mpr h, (dest _ hd).1, (dest _ hd).2, hs]
    rw [e]
    refine ⟨fun x => ?_, fun x y => ?_⟩
    · have e : s.hostOther c d = s.answerHost c (noDest .unreachable c) := by
        unfold State.hostOther
        rcases x with x | x <;> simp [x]
      rw [e]
      exact unserved s _ _ rfl rfl rfl rfl
    · have e : s.hostOther c d = if hasRoom s.service.outbound then s.pushOutbound c else s.refuseHost c := by
        simp [State.hostOther, x, y]
      rw [e]
      exact ⟨fun w => by rw [room w]; exact ⟨⟨rfl, rfl⟩, rfl, rfl⟩, fun w => by rw [full w]; exact refusal _ rfl⟩
  · have e : s.takeHostCell c = s.answerHost c (noDest .badIndex c) := by
      have : c.destNode = none := by
        unfold Cell.destNode
        split
        · next k => exact absurd rfl (hn ⟨c.dest.val, k⟩)
        · rfl
      simp [State.takeHostCell, hq.mpr h, hd, this]
    rw [e]
    exact unserved s _ _ rfl rfl rfl rfl

end Sys2Proof.Machine
end

