-- ==== Sys2Proof/Laws/Slots.lean ====
section
/-! SUPPORT. What filing does to one slot of the presentation buffer (R76, R77), what one award does to the arbiter (R41), and
what a boundary makes of a ramp expiry taken ahead of it (R144). -/

namespace Sys2Proof.Machine

/-! ### The presentation buffer (R76, R77) -/

/-- The sample put in is the one found under its capture frame. -/
theorem find?_insertFiled (x : Filed) (l : List Filed) :
    (insertFiled x l).find? (fun y => y.capture == x.capture) = some x := by
  induction l with
  | nil => simp [insertFiled]
  | cons y l ih =>
    simp only [insertFiled]
    split
    · simp
    · split
      · simp
      · have : y.capture ≠ x.capture := by intro h; simp_all
        simp [this, ih]

/-- In a buffer in rising positions the sample put in replaces what its position held, and nothing else. -/
theorem mem_insertFiled {x y : Filed} {l : List Filed} (h : l.Pairwise fun a b => a.capture % 64 < b.capture % 64) :
    y ∈ insertFiled x l ↔ y = x ∨ y ∈ l ∧ y.capture % 64 ≠ x.capture % 64 := by
  induction l with
  | nil => simp [insertFiled]
  | cons z l ih =>
    obtain ⟨hz, hl⟩ := List.pairwise_cons.1 h
    have behind : ∀ a ∈ l, x.capture % 64 ≤ z.capture % 64 → a.capture % 64 ≠ x.capture % 64 := by
      intro a ha; have := hz a ha; omega
    simp only [insertFiled]
    split
    · have := behind y; rw [List.mem_cons, List.mem_cons]
      constructor
      · rintro (e | rfl | e)
        · exact .inl e
        · exact .inr ⟨.inl rfl, by omega⟩
        · exact .inr ⟨.inr e, this e (by omega)⟩
      · tauto
    · split
      · have := behind y; rw [List.mem_cons, List.mem_cons]
        constructor
        · exact fun e => e.imp_right fun e => ⟨.inr e, this e (by omega)⟩
        · rintro (e | ⟨rfl | e, n⟩)
          · exact .inl e
          · omega
          · exact .inr e
      · rw [List.mem_cons, List.mem_cons, ih hl]
        constructor
        · rintro (rfl | e | e)
          · exact .inr ⟨.inl rfl, by omega⟩
          · exact .inl e
          · exact .inr ⟨.inr e.1, e.2⟩
        · tauto

/-- Filing keeps the rising positions. -/
theorem pairwise_insertFiled (x : Filed) {l : List Filed} (h : l.Pairwise fun a b => a.capture % 64 < b.capture % 64) :
    (insertFiled x l).Pairwise fun a b => a.capture % 64 < b.capture % 64 := by
  induction l with
  | nil => simp [insertFiled]
  | cons z l ih =>
    obtain ⟨hz, hl⟩ := List.pairwise_cons.1 h
    simp only [insertFiled]
    split
    · refine List.pairwise_cons.2 ⟨fun a ha => ?_, h⟩
      rcases List.mem_cons.1 ha with rfl | ha
      · assumption
      · have := hz a ha; omega
    · split
      · exact List.pairwise_cons.2 ⟨fun a ha => by have := hz a ha; omega, hl⟩
      · refine List.pairwise_cons.2 ⟨fun a ha => ?_, ih hl⟩
        rcases (mem_insertFiled hl).1 ha with rfl | ⟨ha, -⟩
        · omega
        · exact hz a ha

/-- A slot is carried on its second lap exactly where the inserter of the frame before is another node that does not lie
before this one. -/
theorem State.second_eq_some_iff (s : State) (slot prev c : Nat) :
    State.ringCapture.second s slot prev = some c ↔
      c = prev ∧ ∃ n, s.inserterAt prev slot = some n ∧ n ≠ s.id ∧ before s.members.ringMap n s.id = false := by
  unfold State.ringCapture.second
  rcases s.inserterAt prev slot with _ | n
  · simp
  · simp only [Option.some.injEq, exists_eq_left']
    split <;> rename_i h
    · rw [Option.some.injEq]; exact ⟨fun e => ⟨e.symm, h⟩, fun e => e.1.symm⟩
    · exact ⟨(nomatch ·), fun e => absurd e.2 h⟩

/-- The capture frame a slot carries: its own frame on the first lap, the one before on the second. -/
theorem State.ringCapture_eq_some_iff (s : State) (h slot c : Nat) :
    s.ringCapture h slot = some c ↔
      ((∃ n, s.inserterAt h slot = some n ∧ if s.id = 0 then n ≠ 0 else before s.members.ringMap n s.id = true) ∧ c = h)
      ∨ (¬ (∃ n, s.inserterAt h slot = some n ∧ if s.id = 0 then n ≠ 0 else before s.members.ringMap n s.id = true)
        ∧ (s.id ≠ 0 ∧ ∃ n, s.inserterAt ((h + 3145727) % 3145728) slot = some n ∧ n ≠ s.id
          ∧ before s.members.ringMap n s.id = false) ∧ c = (h + 3145727) % 3145728) := by
  have hs := s.second_eq_some_iff slot ((h + 3145727) % 3145728) c
  unfold State.ringCapture
  dsimp only
  generalize (h + 3145727) % 3145728 = prev at hs ⊢
  rcases s.inserterAt h slot with _ | n
  · by_cases h0 : s.id = 0
    · simp [h0]
    · simp only [if_neg h0, hs]; simp only [reduceCtorEq, false_and, exists_false, not_false_eq_true, true_and, false_or]
      tauto
  · simp only [Option.some.injEq, exists_eq_left']
    by_cases h0 : s.id = 0
    · by_cases hn : n = 0
      · simp [h0, hn]
      · simp only [if_pos h0, if_neg hn, Option.some.injEq]
        exact ⟨fun e => .inl ⟨hn, e.symm⟩, fun e => (e.resolve_right fun e => e.1 hn).2.symm⟩
    · simp only [if_neg h0]
      split <;> rename_i hb
      · rw [Option.some.injEq]
        exact ⟨fun e => .inl ⟨hb, e.symm⟩, fun e => (e.resolve_right fun e => e.1 hb).2.symm⟩
      · rw [hs]; tauto

/-- What becomes of a slot's sample: filed under the capture frame it carries, unless its inserter is UNREACHABLE. -/
theorem State.filing_eq_some_iff (s : State) (h slot c : Nat) (b : Bool) :
    s.filing h slot = some (c, b) ↔
      s.ringCapture h slot = some c ∧ s.inserterGone c slot = false ∧ b = inWindow s.count s.present.delay c := by
  unfold State.filing
  rcases s.ringCapture h slot with _ | d
  · simp
  · simp only [Option.some.injEq]
    split <;> rename_i hg
    · constructor
      · exact (nomatch ·)
      · rintro ⟨rfl, e, -⟩; rw [e] at hg; exact absurd hg Bool.false_ne_true
    · simp only [Option.some.injEq, Prod.mk.injEq]
      constructor
      · rintro ⟨rfl, rfl⟩; exact ⟨rfl, by simpa using hg, rfl⟩
      · rintro ⟨rfl, -, rfl⟩; exact ⟨rfl, rfl⟩

/-! ### The arbiter (R41) -/

/-- One award: the winner's level falls by one, the ranks below its own rise by one, its own becomes 0. -/
theorem Arbiter.award_eq (levels ranks : Tab Nat 4) (w : NodeId) :
    (⟨levels, ranks⟩ : Arbiter).award w =
      ⟨.ofFn 4 fun n => if n = w.val then levels.get n - 1 else levels.get n,
        .ofFn 4 fun n => if n = w.val then 0 else if ranks.get n < ranks.get w.val then ranks.get n + 1 else ranks.get n⟩ := by
  obtain ⟨l, hl⟩ := levels
  obtain ⟨r, hr⟩ := ranks
  rcases l with _ | ⟨a, _ | ⟨b, _ | ⟨c, _ | ⟨d, _ | _⟩⟩⟩⟩ <;> simp at hl
  rcases r with _ | ⟨x, _ | ⟨y, _ | ⟨z, _ | ⟨t, _ | _⟩⟩⟩⟩ <;> simp at hr
  fin_cases w <;>
    simp [Arbiter.award, Tab.get, Tab.put, Tab.map, Tab.modify, Tab.ofFn, List.range, List.range.loop]

/-! ### The duck (R144) -/

/-- The boundary of an expiry taken ahead of it moves the duck once, from its value before that expiry, as the same boundary
would have moved it without. -/
theorem Bus.duck_once (b : Bus) (early talker : Bool) (h : b.rampTaken = false) (hr : b.ramp = 0) :
    (({ b.expire early with rampTaken := true, duckBefore := some b.duckApplied } : Bus).boundary talker).duckApplied
      = (b.boundary talker).duckApplied := by
  cases talker <;> simp [Bus.boundary, Bus.settleTaken, Bus.expire, duckReleased, h, hr]

end Sys2Proof.Machine
end

