-- ==== Sys2Proof/WellFormed.lean ====
section
/-! DEFINITION. Which commands can reach the part: the operand types already bound node ids, inputs, buses and lines, so
three checks remain. No meaning depends on them: `exec` takes what the part would look at (assumption log, entry 4). -/

namespace Sys2Proof

/-- A receive frame period is 407 byte times long (R1), and the serial memory holds 64 KiB. -/
def Instr.wellFormed : Instr → Bool
  | .receiveFrame _ period => period.length ≤ Config.frameBytes
  | .imageLoadComplete (some memory) => memory.length ≤ Config.memoryBytes
  | .storeComplete (some memory) => memory.length ≤ Config.memoryBytes
  | _ => true

end Sys2Proof
end

