-- ==== Sys2Proof/Tests/Slice0.lean ====
section
/-! SUPPORT. Checks of the model: the well-formedness smoke, the worked examples of spec/, at most two small tests for each
command, and for each statement with premises a state that meets them. -/

namespace Sys2Proof.Tests

open Sys2Proof.Machine

-- Each test is checked as it is read: a hundred waiting at once would each hold a thread's stack.
set_option Elab.async false

/-! ### Small states -/

/-- The state after one command. -/
def after (c : Instr) (s : State) : State :=
  match exec c s with
  | .next t => t
  | _ => s

/-- A node right after its start-up without an image. -/
def booted (id : NodeId) (role : Role) : State := after (.imageLoadComplete none) (.ofStraps id role false [])

/-- The main stage box and the MON desk of section 1.1. -/
def stage : State := booted 2 .stage
def desk : State := booted 1 .desk

/-- A state in a frame, its work done. -/
def inFrame (s : State) (superframe frame : Nat) : State :=
  s.setTiming { s.timing with superframe := superframe, frame := frame, frameOwed := false }

/-- A cell from the host of the MON desk. -/
def cell (kind : CellKind) (args : List Nat) : Cell :=
  { dest := 2, destConsole := false, origin := 1, originConsole := true, kind := kind.code, tag := 7, length := args.length
    relayed := false, payload := .ofList 16 0 (args.map byte) }

/-- A cell told from others by its tag. -/
def marked (tag : Nat) : Cell := { cell .read [1, 0, 0, 1] with tag := byte tag }

/-- A state with one cell at the head of its work queue. -/
def withHead (s : State) (c : Cell) : State := s.setService { s.service with work := [c] }

/-- A state that knows a node as REACHABLE with a role. -/
def knowing (s : State) (n : NodeId) (role : Role) : State :=
  s.setMembers { s.members with reach := s.members.reach.put n.val ⟨.reachable, some role, 2, 0⟩ }

/-- A port LOCKED and lit. -/
def lockedPort : Port :=
  { Port.afterReset with enabled := true, fibreLight := true, lock := .locked, flags := ⟨true, true, false, false⟩ }

/-- The stage box with these span records, its ring state following them at the next event. -/
def withSpans (e w : Span) : State :=
  ((stage.setPortE lockedPort).setPortW lockedPort).setRing { state := .isolated, spanE := e, spanW := w, masterTaken := true }

/-- Both ports LOCKED with GOOD spans in a CLOSED ring. -/
def closed (s : State) : State :=
  ((s.setPortE lockedPort).setPortW lockedPort).setRing
    { state := .closed, spanE := .afterReset, spanW := .afterReset, masterTaken := true }

/-- The status and detail of the last cell of the outbound queue. -/
def lastAnswer (s : State) : List Byte := (s.service.outbound.getLast?.map fun c => c.payload.toList.take 4).getD []

/-! ### Well-formedness -/

theorem test_period_of_407_bytes_fits : Instr.wellFormed (.receiveFrame .e (List.replicate 407 0)) = true := by
  simp only [Instr.wellFormed, List.length_replicate]
  decide

theorem test_longer_period_refused : Instr.wellFormed (.receiveFrame .e (List.replicate 408 0)) = false := by
  simp only [Instr.wellFormed, List.length_replicate]
  decide

theorem test_larger_memory_refused : Instr.wellFormed (.imageLoadComplete (some (List.replicate 65537 0))) = false := by
  simp only [Instr.wellFormed, List.length_replicate]
  decide

/-! ### The worked examples of spec/12_formats.md, section 2.2 and the chapters -/

/-- "123456789" (R183). -/
def digits : List Byte := [0x31, 0x32, 0x33, 0x34, 0x35, 0x36, 0x37, 0x38, 0x39]

theorem test_crc16_of_digits : crc16 digits = 0x29B1#16 := by decide +kernel

theorem test_crc32_of_digits : crc32 digits = 0xCBF43926#32 := by decide +kernel

theorem test_superframes_compare_over_the_wrap : sfAtOrAfter 3 65530 = true ∧ sfAtOrAfter 65530 3 = false := by decide

theorem test_scale_rounds_halves_up : scale 5 176 = 3 ∧ scale (-5) 176 = -2 := by decide

theorem test_scale_of_section_4_7_1 : scale 1000000 168 = 353554 := by decide

theorem test_pattern_before_its_wrap : (patternValue 3145727).toInt = 7340027 ∧ (patternValue 0).toInt = -8388608 := by decide

theorem test_concealment_of_section_4_6_1 :
    (decayed 800000).toInt = 700000 ∧ (decayed 700000).toInt = 612500 ∧ (decayed 612500).toInt = 535937 := by decide

theorem test_grants_of_section_2_8_1 :
    (Arbiter.fill 6 ⟨.ofList 4 0 [1, 0, 3, 3], .ofList 4 0 [2, 0, 1, 3]⟩).1 = [some 3, some 0, some 2, some 3, some 2, some 3]
    ∧ (Arbiter.fill 6 ⟨.ofList 4 0 [0, 2, 3, 0], .ofList 4 0 [2, 3, 1, 0]⟩).1
        = [some 1, some 2, some 1, some 2, some 2, none] := by decide

/-- R131's example: +120, then +16, then −16 leaves +111. -/
theorem test_compensations_clamp_one_after_another : addTrim (addTrim 120 16) (-16) = 111 := by decide

theorem test_third_step_cell_packed :
    stepCells [⟨1, 3, 4, 9, 0⟩, ⟨0, 3, 4, 9, 0⟩, ⟨1, 4, 1, 9, 0⟩, ⟨1, 5, 1, 9, 0⟩, ⟨1, 6, 1, 9, 0⟩] = 3 := by decide

/-! ### Start-up -/

/-- Without an image both ports come up and both spans wait out their hold-off (R177, R178, R48). -/
theorem test_start_up_without_image :
    stage.ring.state = .forming ∧ stage.ring.spanE.holdoff = 1
    ∧ stage.notices = [⟨.image, 2, [2, 0], 1⟩, ⟨.ring, 2, [1, 0, 0, 0, 0], 1⟩] := by decide

/-- The 512th record of a SEND chunk is taken and the 513th ignored (R178). -/
theorem test_long_send_chunk :
    ((loadBuses none (some (List.replicate 2044 16 ++ [0, 0, 1, 192]))).get 0).sends = [⟨.localIn 1, 192, 0, false⟩]
    ∧ ((loadBuses none (some (List.replicate 2048 16 ++ [0, 0, 1, 192]))).get 0).sends = [] := by decide +kernel

/-- The premises of StoredPlanRoundTrip meet in a desk fresh from its reset. -/
theorem witness_StoredPlanRoundTrip :
    let s := State.ofStraps 1 .desk false []
    (s.storeArea Optn.defaults.bytes).length ≤ 4085 ∧ s.image.loading = true
    ∧ (∀ n, n < 64 → -128 ≤ s.plan.dtrim.get n ∧ s.plan.dtrim.get n ≤ 63)
    ∧ ∀ bank n b, n < 64 → (s.plan.drops bank).get n ≠ .bus b := by
  refine ⟨by decide +kernel, rfl, by decide +kernel, ?_⟩
  intro bank n b hn
  cases bank <;> simp [State.ofStraps, Plan.drops, hn]

/-! ### Frames -/

/-- A supervision frame of node 3 in frame 0 of superframe 5. -/
def marker (superframe : Nat) : Frame :=
  .supervision { frame := 0, superframe := superframe, masterOrigin := false, turned := false, farFault := true
                 restoreReady := false, presence := 0x40, request := 0, rest := .fill 10 0 }

/-- A primary frame of node 0, frame 9. -/
def primary : Frame :=
  .primary { frame := 9, superframe := 5, masterOrigin := true, turned := false, farFault := false, restoreReady := false
             presence := 2, request := 0, rest := .fill 10 0 } (.fill 128 0) (.fill 3 0)

theorem test_marker_bytes : (marker 5).bytes.take 8 = [0xB5, 0x4E, 0, 5, 0, 0x0C, 0x40, 0] := by decide

theorem test_marker_judged : judgeFrame ((marker 5).bytes.take 407) = some (marker 5) := by decide +kernel

theorem test_damaged_marker_is_bad : judgeFrame ((marker 5).bytes.set 7 1) = none := by decide +kernel

theorem test_primary_judged : judgeFrame (primary.bytes.take 407) = some primary := by
  have e : primary.bytes.take 407 = primary.bytes := List.take_of_length_le (by decide +kernel)
  rw [e, judgeFrame_bytes (by decide +kernel) (by decide +kernel)]
  decide +kernel

/-! ### Ports and light -/

/-- A port that sees light and searches. -/
def hunting : Port := { lockedPort with lock := .hunt, flags := ⟨true, false, false, false⟩ }

/-- A port in PRESYNC with a reference of superframe 4. -/
def presync (age : Nat) : Port := { hunting with lock := .presync, reference := some ⟨4, age⟩ }

theorem lockedPort_listens : lockedPort.listens := by
  unfold Port.listens
  decide

theorem hunting_listens : hunting.listens := by
  unfold Port.listens
  decide

theorem presync_listens (age : Nat) : (presync age).listens := ⟨rfl, rfl⟩

/-- A searching port in the INTERNAL loop, its own framer sending the marker. -/
def inside : Port := { hunting with loop := .internal, tx := some (marker 5) }

theorem witness_LightAndItsLoss :
    ((closed stage).port .e).enabled = true ∧ ((closed stage).port .e).loop ≠ .internal
    ∧ ((stage.setPortE inside).port .e).enabled = true ∧ ((stage.setPortE inside).port .e).loop = .internal
    ∧ ((closed stage).port .e).lock = .locked ∧ ((stage.setPortE hunting).port .e).enabled = true
    ∧ ((stage.setPortE hunting).port .e).lock ≠ .locked ∧ (State.reset.port .e).enabled = false := by decide +kernel

/-- Loss of light in LOCKED clears the flags and counts one lock loss (R10, R11). -/
theorem test_light_lost :
    ((after (.lossOfLight .e) (closed stage)).portE.lock, (after (.lossOfLight .e) (closed stage)).counter .lossE) = (.hunt, 1)
    := by decide +kernel

theorem test_light_found : (after (.lightDetected .w) stage).portW.flags = ⟨true, false, false, false⟩
    ∧ (after (.lightDetected .w) stage).portW.deltas = ⟨true, false, false, false⟩ := by decide +kernel

/-- A marker in HUNT, a misplaced marker in PRESYNC, and a period without a marker there meet the premises. -/
theorem witness_MarkersOutsideLock :
    (hunting.listens ∧ hunting.lock ≠ .locked ∧ judgeFrame (hunting.hears (marker 5).bytes) = some (marker 5)
      ∧ (marker 5).header.frame = 0)
    ∧ ((presync 10).listens ∧ (presync 10).lock = .presync ∧ (presync 10).reference = some ⟨4, 10⟩
      ∧ ∀ r f, (presync 10).reference = some r → judgeFrame ((presync 10).hears (marker 5).bytes) = some f → f.header.frame = 0 →
          r.age ≠ 47 ∨ f.header.superframe ≠ (r.superframe + 1) % 65536)
    ∧ judgeFrame ((presync 10).hears []) = none := by
  refine ⟨⟨hunting_listens, by decide, test_marker_judged, rfl⟩, ⟨presync_listens 10, rfl, rfl, ?_⟩, rfl⟩
  intro r f h _ _
  simp only [presync, Option.some.injEq] at h
  subst h
  exact .inl (by decide)

/-- In the INTERNAL loop the port hears its own marker, whatever the fibre brings. -/
theorem witness_MarkersOutsideLock_inside :
    inside.listens ∧ inside.lock ≠ .locked ∧ judgeFrame (inside.hears []) = some (marker 5) := by
  refine ⟨⟨rfl, rfl⟩, by decide, ?_⟩
  exact judgeFrame_bytes (by decide +kernel) (by decide +kernel)

/-- The confirming marker is 48 periods after the reference and one superframe on (R7). -/
theorem witness_DeliveredFrames :
    (presync 47).listens ∧ (presync 47).lock = .presync ∧ (presync 47).reference = some ⟨4, 47⟩
    ∧ judgeFrame ((presync 47).hears (marker 5).bytes) = some (marker 5) ∧ (marker 5).header.frame = 0
    ∧ (marker 5).header.superframe = (4 + 1) % 65536 ∧ lockedPort.listens ∧ lockedPort.lock = .locked
    ∧ judgeFrame (lockedPort.hears (marker 5).bytes) = some (marker 5) ∧ ({ lockedPort with loop := .line } : Port).loop ≠ .off
    ∧ markedNodes (marker 5).header.presence = [3] :=
  ⟨presync_listens 47, rfl, rfl, test_marker_judged, rfl, rfl, lockedPort_listens, rfl, test_marker_judged, by decide, by decide⟩

/-- Node 3's marker with other marks, and the primary frame as a frame 0. -/
def remarked (presence : Byte) : Frame := (marker 5).withHeader { (marker 5).header with presence := presence }
def opener : Frame := primary.withHeader { primary.header with frame := 0 }

theorem test_opener_judged : judgeFrame (opener.bytes.take 407) = some opener := by
  have e : opener.bytes.take 407 = opener.bytes := List.take_of_length_le (by decide +kernel)
  rw [e, judgeFrame_bytes (by decide +kernel) (by decide +kernel)]
  decide +kernel

/-- A marker of no node and one of two, and primary frames 0 and 9 outside an unwrap. -/
theorem witness_DeliveredFrames_partner :
    judgeFrame (lockedPort.hears (remarked 0).bytes) = some (remarked 0)
    ∧ judgeFrame (lockedPort.hears (remarked 0x42).bytes) = some (remarked 0x42)
    ∧ markedNodes (remarked 0).header.presence = [] ∧ markedNodes (remarked 0x42).header.presence = [0, 3]
    ∧ judgeFrame (lockedPort.hears primary.bytes) = some primary ∧ primary.header.frame ≠ 0
    ∧ judgeFrame (lockedPort.hears opener.bytes) = some opener ∧ opener.header.frame = 0
    ∧ ((closed stage).span .w).unwrap ≠ some (closed stage).timing.superframe :=
  ⟨by decide +kernel, by decide +kernel, by decide, by decide, test_primary_judged, by decide, test_opener_judged, rfl,
    by decide +kernel⟩

/-- No partner without exactly one mark, and no partner ready after a primary frame 0 (R45). -/
theorem test_partner_lost :
    let s := (closed stage).setSpan .w { Span.afterReset with partner := some 3, partnerReady := true }
    (s.deliver .w (remarked 0x42)).ring.spanW.partner = none ∧ (s.deliver .w (remarked 0x42)).ring.spanW.partnerReady = false
    ∧ (s.deliver .w opener).ring.spanW.partnerReady = false ∧ (s.deliver .w primary).ring.spanW.partnerReady = true
    ∧ (s.deliver .w primary).ring.spanW.partner = some 3 := by decide +kernel

theorem test_markers_lock :
    (after (.receiveFrame .w (marker 5).bytes) (stage.setPortW hunting)).portW.reference = some ⟨5, 0⟩
    ∧ (after (.receiveFrame .w (marker 5).bytes) (stage.setPortW (presync 47))).portW.flags = ⟨true, true, true, false⟩ := by
  decide +kernel

/-- The third and the fourth bad frame in a row (R9). -/
theorem witness_BadFramesCostLock :
    lockedPort.listens ∧ lockedPort.lock = .locked ∧ judgeFrame (lockedPort.hears []) = none ∧ lockedPort.badRun < 3
    ∧ Port.listens { lockedPort with badRun := 3 } ∧ 3 ≤ ({ lockedPort with badRun := 3 } : Port).badRun :=
  ⟨lockedPort_listens, rfl, rfl, by decide, lockedPort_listens, by decide⟩

theorem test_fourth_bad_frame :
    let t := after (.receiveFrame .e []) ((closed stage).setPortE { lockedPort with badRun := 3 })
    t.portE.lock = .hunt ∧ t.counter .crcE = 1 ∧ t.counter .lossE = 1 := by decide +kernel

theorem witness_FramesForwarded :
    let s := closed stage
    s.id ≠ 0 ∧ s.portW.listens ∧ s.portW.lock = .locked ∧ s.portW.loop = .off ∧ s.ring.spanE.state = .good
    ∧ s.ring.spanW.state = .good ∧ s.ring.spanW.partner ≠ some s.id ∧ s.ring.spanW.partnerReady = false
    ∧ judgeFrame (s.portW.hears primary.bytes) = some primary ∧ primary.header.turned = false
    ∧ primary.header.farFault = false ∧ primary.header.frame ≠ 0 ∧ (s.activeSlots.get 0).inserter ≠ some s.id
    ∧ (let w := inFrame s 5 9;
      let o := (w.setService { s.service with laneOut := some ⟨1, .fill 24 7⟩ }).deliver .w primary;
      o.service.laneOut = some ⟨1, .fill 24 7⟩ ∧ (1 : Nat) = primary.header.frame / 8)
    ∧ s.service.laneOut = none ∧ primary.header.masterOrigin = true ∧ primary.header.superframe ≠ s.timing.superframe :=
  ⟨by decide +kernel, lockedPort_listens, rfl, rfl, rfl, rfl, by decide +kernel, rfl, test_primary_judged, rfl, rfl, by decide,
    by decide +kernel, by decide +kernel, by decide +kernel, rfl, by decide +kernel⟩

/-- A primary frame 16 of superframe 5, which opens cell time 2, as it goes one way round or the other. -/
def opening (turned : Bool) : Frame := primary.withHeader { primary.header with frame := 16, turned := turned }

theorem test_opening_judged (turned : Bool) : judgeFrame ((opening turned).bytes.take 407) = some (opening turned) := by
  cases turned
  all_goals
    have e : ∀ b, (opening b).bytes.take 407 = (opening b).bytes := fun b => by
      cases b <;> exact List.take_of_length_le (by decide +kernel)
    rw [e, judgeFrame_bytes (by decide +kernel) (by decide +kernel)]
    decide +kernel

/-- A node at frame 16 of superframe 5 with cell time 2 granted to the node n, five step records for nodes 1 and 0, and these
cells waiting. -/
def granted (s : State) (n : NodeId) (steps : List StepRecord) (relay outbound : List Cell) : State :=
  let s := inFrame s 5 16
  (s.setMembers { s.members with grants := s.members.grants.put 2 (some n) }).setService
    { s.service with stepQueue := steps, relay := relay, outbound := outbound }

/-- The records of R127's kind: the first, third and fourth for node 1 go in one cell. -/
def steps : List StepRecord := [⟨1, 3, 4, 9, 0⟩, ⟨0, 3, 4, 9, 0⟩, ⟨1, 4, 1, 9, 0⟩, ⟨1, 5, 1, 9, 0⟩, ⟨1, 6, 1, 9, 0⟩]

/-- The wrapped forms: W taken with E out of service, E taken with W out of service, and both in service with E in DEFECT; a
cell time that is the node's and one that is not, with numbers that are a jump and numbers that are none. -/
theorem witness_FramesForwarded_wrapped :
    let failed : Span := { Span.afterReset with state := .failed }
    let s := granted ((closed stage).setSpan .e failed) 2 steps [] []
    let u := granted ((closed stage).setSpan .w failed) 1 [] [] []
    s.id ≠ 0 ∧ (s.span (oppositeSide .w)).state = .failed ∧ (s.span .w).state = .good ∧ (u.span (oppositeSide .e)).state = .failed
    ∧ (u.span .e).state = .good ∧ (u.span .e).partner ≠ some u.id ∧ (u.span .e).partnerReady = false
    ∧ ((u.setSpan .w { failed with state := .restoring }).span .w).state = .restoring
    ∧ (s.port .w).listens ∧ (u.port .e).listens ∧ (u.port .e).lock = .locked ∧ (u.port .e).loop = .off
    ∧ judgeFrame ((s.port .w).hears (opening false).bytes) = some (opening false)
    ∧ judgeFrame ((u.port .e).hears (opening true).bytes) = some (opening true)
    ∧ (opening true).header.turned = (Side.e == .e) ∧ (opening false).header.turned = (Side.w == .e)
    ∧ (opening true).header.frame % 8 = 0 ∧ (opening true).header.frame ≠ 1 ∧ (opening true).header.farFault = false
    ∧ (opening true).header.superframe = u.timing.superframe ∧ (opening true).header.frame = u.timing.frame
    ∧ s.members.grants.get 2 = some s.id ∧ u.members.grants.get 2 ≠ some u.id :=
  ⟨by decide +kernel, rfl, rfl, rfl, rfl, by decide +kernel, rfl, rfl, lockedPort_listens, lockedPort_listens, rfl, rfl,
    test_opening_judged false, test_opening_judged true, rfl, rfl, rfl, by decide, rfl, by decide +kernel, by decide +kernel,
    by decide +kernel, by decide +kernel⟩

/-- A turned frame at E with both spans in service, and frames of the other kind at either port. -/
theorem witness_FramesForwarded_passed :
    let s := closed stage
    (s.port .e).listens ∧ (s.port .e).lock = .locked ∧ (s.port .e).loop = .off ∧ (s.span .e).state = .good
    ∧ (s.span .e).partner ≠ some s.id ∧ (s.span .e).partnerReady = false ∧ s.ring.spanW.state = .good
    ∧ judgeFrame ((s.port .e).hears (opening true).bytes) = some (opening true)
    ∧ judgeFrame ((s.port .w).hears (opening true).bytes) = some (opening true)
    ∧ (opening true).header.turned ≠ (Side.w == .e) ∧ (opening false).header.turned ≠ (Side.e == .e)
    ∧ (opening true).header.farFault = false :=
  ⟨lockedPort_listens, rfl, rfl, rfl, by decide +kernel, rfl, rfl, test_opening_judged true, test_opening_judged true, by decide,
    by decide, rfl⟩

/-- The STEP cell goes before the outbound cell, three records of one destination in it (R36, R127), and R59's passing. -/
theorem test_lane_cell_taken :
    let t := (granted (closed stage) 2 steps [] [marked 4]).deliver .w (opening false)
    (t.service.laneOut.map fun o => o.bytes.toList.take 7) = some [1, 2, 7, 0, 16, 0, 3] ∧ t.service.outbound = [marked 4]
    ∧ t.service.stepQueue = [⟨0, 3, 4, 9, 0⟩, ⟨1, 6, 1, 9, 0⟩]
    ∧ (((closed stage).deliver .e (opening true)).portW.tx.map fun f => pairAt f.header.presence 2) = some 0 := by decide +kernel

/-- The stage box fills slots 0 to 3 itself: its input 15, bus 15, the pattern and silence. -/
def filling : State :=
  let e := fun src => (⟨some 2, src⟩ : SlotEntry)
  let s := closed stage
  (s.setPlan { s.plan with slotA :=
    (((s.plan.slotA.put 0 (e (.localIn 15))).put 1 (e (.bus 15))).put 2 (e .pattern)).put 3 (e .silent) }).setAudio
      { s.audio with localIn := s.audio.localIn.put 15 77, busOut := s.audio.busOut.put 15 78 }

/-- Node 0's box fills slots 0 to 2 itself: its input 15, the pattern and silence. -/
def originating : State :=
  let s := closed (booted 0 .stage)
  let e := fun src => (⟨some 0, src⟩ : SlotEntry)
  (inFrame s 5 15).setPlan { s.plan with slotA := ((s.plan.slotA.put 0 (e (.localIn 15))).put 1 (e .pattern)).put 2 (e .silent) }

/-- Node 0 puts its own samples into the frame it originates (R25, R74). -/
theorem test_own_samples_originated :
    (match (after (.localFrameBoundary (.fill 64 77)) originating).portE.tx with
      | some (.primary _ slots _) => [0, 1, 2].map slots.get
      | _ => []) = [77, BitVec.ofInt 24 (256 * 5 - 8388608), 0] := by decide +kernel

/-- The same ports and spans, with slots of each kind (R74, R20). -/
theorem test_slots_inserted :
    filling.portW.listens ∧ filling.service.laneOut = none
    ∧ (match (filling.deliver .w primary).portE.tx with
      | some (.primary _ slots _) => [0, 1, 2, 3, 4].map slots.get
      | _ => []) = [77, 78, BitVec.ofInt 24 (249 * 5 - 8388608), 0, 0] :=
  ⟨⟨rfl, rfl⟩, by decide +kernel, by decide +kernel⟩

/-! ### Boundaries -/

/-- Node 0 with both ports in service, before the boundary that begins this frame of superframe 6 (or frame 0 of it). -/
def master (superframe frame : Nat) : State :=
  let s := inFrame (closed (booted 0 .stage)) superframe frame
  s.setMembers { s.members with
    ringMap := [0, 3], returnedMarks := some 0x42, nextGrants := some ⟨6, .ofList 6 none [some 3]⟩
    returnStore := some ⟨0, .ofFn 128 fun i => BitVec.ofNat 24 (i + 1)⟩ }

/-- Node 0 originates frame 0 with its list, which then leaves (R40), map and trail and the return store's samples (R25, R26, R30, R42), and frame 1 with
the marks of the last returned frame, which it takes itself (R31, R32). -/
theorem test_frames_originated :
    let t := after (.localFrameBoundary (.fill 64 0)) (master 5 47)
    let u := after (.localFrameBoundary (.fill 64 0)) (master 6 0)
    (master 5 47).id = 0 ∧ t.timing.frame = 0 ∧ t.members.nextGrants = none ∧ t.primaryOutput = some .e ∧ u.primaryOutput = some .e
    ∧ (u.portE.tx.map fun f => f.header.rest.get 0) = some 0x42#8 ∧ (u.reachOf 3).present = 1
    ∧ (match t.portE.tx with
      | some (.primary h slots _) => (h.rest.toList.take 7, slots.get 127)
      | _ => ([], 0)) = ([0xF3, 0xFF, 0xFF, 0x30, 0xFF, 0xF0, 0xFF], 128) := by decide +kernel

theorem witness_LocalFrameBoundaryCounts :
    (inFrame stage 5 47).timing.running = true ∧ (inFrame stage 5 47).timing.frameOwed = false
    ∧ stage.timing.running = true ∧ stage.timing.frameOwed = true ∧ State.reset.timing.running = false := by decide +kernel

/-- Cell time 2 begins at node 0, granted to it and not. -/
theorem witness_LocalFrameBoundaryCounts_lane :
    let s := granted (master 5 15) 0 steps [marked 3] [marked 4]
    let t := after (.localFrameBoundary (.fill 64 0)) (s.setTiming { s.timing with frame := 15 })
    s.id = 0 ∧ t.timing.frame % 8 = 0 ∧ t.members.grants.get (t.timing.frame / 8) = some 0 ∧ t.primaryOutput = some .e
    ∧ (let u := after (.localFrameBoundary (.fill 64 0)) (master 5 15);
      u.timing.frame % 8 = 0 ∧ u.members.grants.get (u.timing.frame / 8) ≠ some 0) := by decide +kernel

/-- A supervision frame 2 of a side that names an unwrap (R60), and a console cell that leaves for the host (R89). -/
theorem test_supervision_and_console :
    let x : Span := { Span.afterReset with state := .unwrapPending, ready := true, unwrap := some 9, namer := true }
    let t := after (.localFrameBoundary (.fill 64 0)) (inFrame (stage.setSpan .w x) 5 1)
    let u := after (.localFrameBoundary (.fill 64 0)) (inFrame (desk.setService { desk.service with
      console := [marked 4], consoleIn := ⟨.fill 8 (some (.fill 3 0)), true⟩ }) 5 7)
    (t.portW.tx.map fun f => (f.isPrimary, f.header.rest.toList.take 3)) = some (false, [2, 9, 0])
    ∧ stage.id ≠ 0 ∧ t.timing.frame = 2 ∧ (t.span .w).state = .unwrapPending ∧ (t.span .w).namer = true
    ∧ desk.isDesk = true ∧ u.timing.frame % 8 = 0 ∧ u.service.console = [] ∧ u.service.consoleOut = (marked 4).encode := by
  decide +kernel

/-- A boundary at the box that fills slots 0 to 3 itself, and the other slots it does not. -/
theorem witness_LocalFrameBoundaryCounts_filing :
    let t := after (.localFrameBoundary (.fill 64 0)) filling
    filling.timing.running = true ∧ filling.isStage = true
    ∧ [0, 1, 2, 3].map t.activeSlots.get
      = [⟨some 2, .localIn 15⟩, ⟨some 2, .bus 15⟩, ⟨some 2, .pattern⟩, ⟨some 2, .silent⟩]
    ∧ (t.activeSlots.get 127).inserter ≠ some 2 ∧ filling.id = 2 := by decide +kernel

/-- The local numbers wrap from frame 47 of superframe 65535 (R24), and an input reaches a local output at unity in the same
frame (R85). -/
theorem test_local_boundary_wraps :
    ((after (.localFrameBoundary (.fill 64 0)) (inFrame stage 65535 47)).timing.superframe,
      (after (.localFrameBoundary (.fill 64 0)) (inFrame stage 65535 47)).timing.frame) = (0, 0)
    ∧ (after (.localFrameBoundary (.ofFn 64 fun n => BitVec.ofNat 24 (100 + n)))
      (stage.setPlan { stage.plan with dropA := stage.plan.dropA.put 7 (.localIn 3) })).audio.localOut.get 7 = 103#24 := by
  decide +kernel

theorem witness_SuperframeBoundaryCounts :
    (inFrame stage 5 47).timing.running = true ∧ (inFrame stage 5 47).timing.frameOwed = false
    ∧ (inFrame stage 5 47).timing.frame = 47 ∧ (inFrame stage 5 47).isStage = true ∧ (inFrame stage 5 47).id ≠ 0
    ∧ stage.timing.frame ≠ 47 := by decide +kernel

/-- A span in DEFECT with one superframe to go and one RESTORING, an entry in GRACE, a timer and a line that differs from its
state, in frame 47. -/
def counting : State :=
  let s := inFrame (withSpans { Span.afterReset with state := .defect, holdoff := 1 }
    { Span.afterReset with state := .restoring, restore := 1 }) 5 47
  let s := s.setEntry 63 { PreampEntry.afterReset with owner := some 1, ownerState := .grace, grace := 1 }
  let s := s.setTalk { s.talk with register := s.talk.register.put 3 ⟨some 0, none, some 1⟩ }
  (s.setLine 7 ⟨.talkButton 0, false, 3, none, none⟩).setMembers { s.members with isolation := 7 }

theorem witness_SuperframeBoundaryCounts_timers :
    counting.timing.running = true ∧ counting.timing.frameOwed = false ∧ counting.timing.frame = 47
    ∧ (counting.span .e).state = .defect ∧ 0 < (counting.span .e).holdoff
    ∧ (counting.span .w).state = .restoring ∧ (counting.span .w).ready = false ∧ 0 < (counting.span .w).restore
    ∧ (counting.entry 63).owner.isSome = true ∧ (counting.entry 63).ownerState = .grace ∧ 0 < (counting.entry 63).grace
    ∧ counting.members.isolationOwed = false ∧ (∀ n, n < 8 → (counting.line n).changes ≠ 4)
    ∧ (∀ r, r < 4 → (counting.talkRow r).timer ≠ some 0) ∧ (counting.line 7).function = .talkButton 0 := by decide +kernel

/-- Every timer comes one superframe nearer (R48, R50, R111, R160, R165), and the strobe shows the new number (R119). -/
theorem test_superframe_timers :
    let t := after (.superframeBoundary (.fill 8 true)) counting
    (t.span .e).holdoff = 0 ∧ (t.span .w).restore = 0 ∧ (t.entry 63).grace = 0 ∧ (t.talkRow 3).timer = some 0
    ∧ (t.line 7).changes = 4 ∧ t.preamp.strobe = some 6 := by decide +kernel

/-- A box ISOLATED with the count at 7 owes the loss of the others at the eighth boundary (R33). -/
theorem test_isolation_owed_once :
    let s := counting.setRing { state := .isolated, spanE := Span.afterReset.failed, spanW := Span.afterReset.failed
                                masterTaken := false }
    (after (.superframeBoundary (.fill 8 false)) s).members.isolationOwed = true
    ∧ (after (.superframeBoundary (.fill 8 false)) (s.setMembers { s.members with isolation := 8 })).members.isolationOwed
        = false := by decide +kernel

/-- Slot 20 filled by node 3, whose record stands as given, with these samples stored. -/
def slotState (inserter : Option NodeId) (filed : List Filed) : State :=
  (stage.setPlan { stage.plan with slotA := stage.plan.slotA.put 20 ⟨inserter, .localIn 1⟩ }).setPresent
    { stage.present with slots := stage.present.slots.put 20 ⟨.good, 800000, filed⟩ }

theorem witness_SlotsPresentedOrConcealed :
    (slotState (some 3) [⟨6, 5⟩]).repeats 30 = false ∧ (slotState (some 3) [⟨6, 5⟩]).captureFor 30 = 6
    ∧ (slotState (some 3) [⟨6, 5⟩]).inserterAt 6 20 = some 3 ∧ (slotState (some 3) [⟨6, 5⟩]).isUnreachable 3 = false
    ∧ ((slotState (some 3) [⟨6, 5⟩]).present.slots.get 20).filed.find? (fun y => y.capture == 6) = some ⟨6, 5⟩
    ∧ (slotState (some 3) []).inserterAt 6 20 = some 3 ∧ ((slotState (some 3) []).present.slots.get 20).filed = []
    ∧ (slotState none []).inserterAt 6 20 = none := by decide +kernel

theorem test_missing_sample_concealed :
    ((slotState (some 3) []).presentSlots 30).present.slots.get 20 = ⟨.conceal, 700000, []⟩ := by decide +kernel

/-- The MON desk at global frame count 100 in a ring of four: slots 0 and 2 filled by nodes 0 and 2, slot 3 by an UNREACHABLE
node 3, slot 1 by itself. -/
def lapped : State :=
  let s := inFrame (closed desk) 2 4
  let e := fun n => (⟨some n, .localIn 1⟩ : SlotEntry)
  (s.setPlan { s.plan with slotA := (((s.plan.slotA.put 0 (e 0)).put 1 (e 1)).put 2 (e 2)).put 3 (e 3) }).setMembers
    { s.members with ringMap := [0, 1, 2, 3], reach := s.members.reach.put 3 ⟨.unreachable, some .stage, 0, 8⟩ }

/-- The first lap at both ends of the storage window and beyond them, the second lap, and the slots that are not filed. -/
theorem witness_SlotsPresentedOrConcealed_filed :
    FiledLaw lapped ∧ lapped.id ≠ 0 ∧ lapped.count = 100
    ∧ (∀ c ∈ [76, 77, 100, 123, 124],
        lapped.inserterAt c 0 = some 0 ∧ before lapped.members.ringMap 0 lapped.id = true ∧ lapped.isUnreachable 0 = false)
    ∧ [76, 77, 123, 124].map (inWindow lapped.count lapped.present.delay) = [false, true, true, false]
    ∧ lapped.inserterAt 100 2 = some 2 ∧ before lapped.members.ringMap 2 lapped.id = false ∧ lapped.inserterAt 99 2 = some 2
    ∧ (2 : NodeId) ≠ lapped.id ∧ lapped.isUnreachable 2 = false
    ∧ lapped.inserterAt 99 3 = some 3 ∧ lapped.isUnreachable 3 = true ∧ lapped.inserterAt 100 1 = some lapped.id
    ∧ lapped.inserterAt 100 4 = none ∧ lapped.inserterAt 99 4 = none
    ∧ (closed (booted 0 .stage)).id = 0 := by
  refine ⟨by unfold FiledLaw; decide +kernel, ?_⟩
  decide +kernel

/-- Slot 0 is filed under the frame's count, slot 2 under the one before, slots 1 and 3 not at all; a late frame counts once and
stores nothing (R76, R77). -/
theorem test_samples_filed :
    let t := lapped.fileRing 100 (.ofFn 128 fun i => BitVec.ofNat 24 (i + 7))
    let late := lapped.fileRing 76 (.fill 128 5)
    [0, 1, 2, 3].map (fun i => (t.present.slots.get i).filed) = [[⟨100, 7⟩], [], [⟨99, 9⟩], []]
    ∧ t.counter .lateFrames = 0 ∧ late.counter .lateFrames = 1 ∧ (late.present.slots.get 0).filed = [] := by decide +kernel

/-- The slot of `slotState` watched by the checker. -/
def watching (filed : List Filed) (fresh : Bool) : State :=
  let s := inFrame (slotState (some 3) filed) 0 30
  (s.setChecker ⟨true, 20, some 20⟩).setPresent { s.present with lastCapture := 6, fresh := fresh }

/-- The slot's source in service and one of a STALE slot holding. -/
def losing : State :=
  let s := watching [⟨6, 5⟩] true
  s.setTalk ⟨(s.talk.sources.put 0 ⟨true, 0, .ring 20, 1, none⟩).put 1 ⟨true, 0, .ring 9, 1, none⟩,
    s.talk.register.put 0 ⟨some 0, some 1, none⟩⟩

theorem witness_SlotsPresentedOrConcealed_talkers :
    losing.isStage = true ∧ TalkLaw losing ∧ InRow losing.presentFrame 0 0
    ∧ (losing.presentFrame.talkSource 0).audio = .ring 20 := by
  unfold TalkLaw InRow
  decide +kernel

theorem witness_SlotsPresentedOrConcealed_checked :
    (watching [⟨6, 5⟩] true).checker.watch = some 20 ∧ (watching [⟨6, 5⟩] true).repeats (watching [⟨6, 5⟩] true).count = false
    ∧ ((watching [⟨6, 5⟩] true).presentFrame.present.slots.get 20).state = .good
    ∧ ((watching [] true).presentFrame.present.slots.get 20).state ≠ .good
    ∧ (watching [] false).repeats (watching [] false).count = true ∧ stage.checker.watch = none := by decide +kernel

/-- A wrong value is a mismatch, a missing one a concealed frame, and a repeat neither (R22, R80). -/
theorem test_pattern_checked :
    (watching [⟨6, 5⟩] true).presentFrame.counter .patternMismatches = 1
    ∧ (watching [⟨6, BitVec.ofInt 24 (6 * 5 - 8388608)⟩] true).presentFrame.counters = stage.counters
    ∧ (watching [] true).presentFrame.counter .patternConcealed = 1
    ∧ (watching [] false).presentFrame.counters = stage.counters := by decide +kernel

/-- The source of the slot presented stays, that of the STALE slot leaves (R161). -/
theorem test_lost_source_released : losing.presentFrame.talkRow 0 = ⟨some 0, none, none⟩ := by decide +kernel

/-! ### Ring -/

/-- A closed node whose master has been away for 8 frames. -/
def absent : State :=
  let s := closed stage
  s.setTiming { s.timing with masterAbsence := 8, clock := .locked }

theorem witness_MasterAbsenceEndsTheRing :
    absent.timing.masterAbsence = 8 ∧ absent.timing.masterInPeriod = false ∧ absent.ring.state ≠ .dark ∧ absent.ring.state ≠ .isolated := by decide +kernel

theorem test_master_absence :
    (after .masterAbsenceExpiry absent).ring.state = .isolated ∧ (after .masterAbsenceExpiry absent).timing.clock = .holdover := by
  decide +kernel

/-- A master frame with the local numbers and one with others. -/
theorem witness_MasterAbsenceEndsTheRing_clock :
    absent.timing.superframe = 0 ∧ absent.timing.frame = 0 ∧ absent.timing.clock = .locked
    ∧ primary.header.superframe ≠ absent.timing.superframe := by decide +kernel

/-- The first master frame leaves the clock LOCKED although the count still stands at 8 (R35). -/
theorem test_lock_lasts :
    let s := absent.setTiming { absent.timing with clock := .holdover }
    let t := s.deliver .w primary
    t.timing.clock = .locked ∧ (after .masterAbsenceExpiry t).timing.clock = .locked := by decide +kernel

/-- A stage box ISOLATED for 8 superframes, its input 5 HELD by the MON desk. -/
def cutOff : State :=
  let s := (knowing stage 1 .desk).setEntry 5 { stage.entry 5 with owner := some 1, ownerState := .held }
  s.setMembers { s.members with isolation := 8, isolationOwed := true }

theorem witness_IsolationLosesTheOthers :
    cutOff.members.isolationOwed = true ∧ cutOff.isStage = true ∧ (1 : NodeId) ≠ cutOff.id ∧ cutOff.isUnreachable 1 = false
    ∧ (cutOff.entry 5).owner = some 1 ∧ (cutOff.entry 5).ownerState = .held ∧ cutOff.sets.orphanGrace ≠ 0
    ∧ (cutOff.setSets { cutOff.sets with orphanGrace := 0 }).sets.orphanGrace = 0 := by decide +kernel

theorem test_isolation_starts_the_grace :
    let t := after .isolationCountExpiry cutOff
    t.isUnreachable 1 = true ∧ (t.entry 5).ownerState = .grace ∧ (t.entry 5).grace = 2000 := by decide +kernel

/-- A roster that marks nodes 0 and 2, at a box that has seen the MON desk's mark missing seven times. -/
theorem witness_IsolationLosesTheOthers_roster :
    markRole 0x12#8 0 = some .desk ∧ markRole 0x12#8 1 = none ∧ (0 : NodeId) ≠ stage.id ∧ (1 : NodeId) ≠ stage.id := by
  decide +kernel

/-- Inputs 4, 5 and 6 of the stage box, owned by nodes 0, 1 and 3 in GRACE, HELD and ORPHANED, before a roster that brings
node 0 back, loses node 1 and shows node 3 as a stage. -/
def rostered : State :=
  let s := stage.setMembers { stage.members with
    reach := ((stage.members.reach.put 0 ⟨.unreachable, some .desk, 1, 0⟩).put 1 ⟨.reachable, some .desk, 0, 7⟩).put 3
      ⟨.reachable, some .desk, 2, 0⟩ }
  let owned := fun n o st (s : State) => s.setEntry n { s.entry n with owner := some o, ownerState := st, grace := 9 }
  owned 4 0 .grace (owned 5 1 .held (owned 6 3 .orphaned s))

theorem witness_IsolationLosesTheOthers_owners :
    rostered.isStage = true ∧ (rostered.entry 4).owner = some 0 ∧ (rostered.entry 4).ownerState = .grace
    ∧ (rostered.entry 5).owner = some 1 ∧ (rostered.entry 5).ownerState = .held ∧ (rostered.entry 6).owner = some 3
    ∧ ((rostered.takeRoster 0x52).reachOf 0).state = .reachable ∧ ((rostered.takeRoster 0x52).reachOf 1).state = .unreachable
    ∧ ((rostered.takeRoster 0x52).reachOf 3).role = some .stage ∧ rostered.sets.orphanGrace ≠ 0
    ∧ (stage.setEntry 5 (rostered.entry 5)).isReachable 1 = false := by decide +kernel

/-- The owner back holds its input again, the lost one keeps it in GRACE, the stage owns none (R110, R111). -/
theorem test_owners_follow_a_roster :
    let t := rostered.takeRoster 0x52
    [4, 5, 6].map (fun n => ((t.entry n).owner, (t.entry n).ownerState, (t.entry n).grace))
      = [(some 0, .held, 0), (some 1, .grace, 2000), (none, .held, 0)] := by decide +kernel

/-- The second mark in a row makes a node REACHABLE, the eighth missing one UNREACHABLE (R32). -/
theorem test_roster_taken :
    let s := (knowing stage 1 .desk).setMembers { (knowing stage 1 .desk).members with
      reach := (stage.members.reach.put 1 ⟨.reachable, some .desk, 0, 7⟩).put 0 ⟨.unknown, some .desk, 1, 0⟩ }
    (s.takeRoster 0x12).reachOf 0 = ⟨.reachable, some .desk, 2, 0⟩
    ∧ (s.takeRoster 0x12).reachOf 1 = ⟨.unreachable, some .desk, 0, 8⟩ := by decide +kernel

/-- A closed node whose span E has this record. -/
def withSpanE (x : Span) : State := (closed stage).setSpan .e x

theorem witness_SpanHoldsExpire :
    (let s := (withSpanE { Span.afterReset with state := .defect }).setPortE hunting;
      (s.span .e).state = .defect ∧ (s.span .e).holdoff = 0 ∧ s.localDefect .e = true ∧ s.ring.state ≠ .dark)
    ∧ (let s := withSpanE { Span.afterReset with state := .restoring, partner := some 3, partnerReady := true }
      (s.span .e).state = .restoring ∧ (s.span .e).ready = false ∧ (s.span .e).restore = 0
      ∧ (s.span .e).partner = some 3 ∧ (s.span .e).partnerReady = true ∧ s.id < 3)
    ∧ ((withSpanE { Span.afterReset with state := .restoring }).span .e).partner = none := by decide +kernel

/-- A frame 2 that names an unwrap of side W for this superframe, sent in superframe 5. -/
def unwrapHeader (n : Nat) : Header :=
  { (marker 5).header with frame := 2, rest := frame2Rest (some (.w, n)) }

/-- The stage box ready on span E toward node 1. -/
def adopting : State := withSpanE { Span.afterReset with state := .restoring, ready := true, partner := some 1 }

theorem witness_SpanHoldsExpire_adoption :
    (adopting.span .e).state = .restoring ∧ (adopting.span .e).ready = true ∧ (adopting.span .e).partner = some 1
    ∧ (unwrapHeader 9).frame = 2 ∧ (unwrapHeader 9).unwrap = some (oppositeSide .e, 9) ∧ (1 : NodeId) < adopting.id
    ∧ (unwrapHeader 10).unwrap = some (oppositeSide .e, 10) ∧ (unwrapHeader 5).unwrap = some (oppositeSide .e, 5)
    ∧ ((closed stage).span .e).state ≠ .restoring := by decide +kernel

/-- Four superframes ahead is adopted, five and none are not (R52). -/
theorem test_unwrap_adopted :
    ((adopting.adoptUnwrap .e (unwrapHeader 9)).span .e).unwrap = some 4
    ∧ adopting.adoptUnwrap .e (unwrapHeader 10) = adopting ∧ adopting.adoptUnwrap .e (unwrapHeader 5) = adopting := by
  decide +kernel

theorem test_holdoff_wraps :
    (after (.wrapHoldoffExpiry .e) ((withSpanE { Span.afterReset with state := .defect }).setPortE hunting)).ring.state
      = .wrappedE := by decide +kernel

theorem test_restore_names_the_unwrap :
    (after (.restoreHoldExpiry .e)
      (withSpanE { Span.afterReset with state := .restoring, partner := some 3, partnerReady := true })).ring.spanE.unwrap
      = some 4 := by decide +kernel

/-- A span that unwraps at superframe 9, at its frame 0. -/
def unwrapping : State :=
  inFrame (withSpanE { Span.afterReset with state := .unwrapPending, ready := true, unwrap := some 9, partner := some 3 }) 9 0

theorem witness_UnwrapRestoresTheSpan :
    (unwrapping.span .e).state = .unwrapPending ∧ (unwrapping.span .e).unwrap = some unwrapping.timing.superframe
    ∧ unwrapping.timing.frame = 0 ∧ unwrapping.localDefect .e = false ∧ (unwrapping.port .e).flags.farFault = false
    ∧ unwrapping.ring.state ≠ .dark ∧ (unwrapping.span .w).unwrap ≠ some unwrapping.timing.superframe := by decide +kernel

theorem test_unwrap_closes_the_ring :
    (after (.unwrapApply .e) unwrapping).ring.spanE.state = .good := by decide +kernel

theorem witness_ArbiterGrants :
    (Tab.ofList 4 0 [2, 0, 1, 3]).toList.Perm [0, 1, 2, 3] ∧ (marker 5).header.frame = 0
    ∧ (marker 5).header.superframe = (master 5 9).timing.superframe ∧ (marker 5).header.superframe ≠ (master 6 0).timing.superframe
    ∧ (master 6 0).timing.frameOwed = false ∧ primary.header.frame ≠ 0 := by decide +kernel

/-- Node 0 with W out of service and a turned frame at E. -/
theorem witness_ArbiterGrants_wrapped :
    let s := (closed (booted 0 .stage)).setSpan .w { Span.afterReset with state := .failed }
    s.id = 0 ∧ (s.port .e).listens ∧ (s.port .e).lock = .locked ∧ (s.port .e).loop = .off ∧ (s.span .e).state = .good
    ∧ (s.span .e).partner ≠ some s.id ∧ (s.span .e).partnerReady = false ∧ s.ring.spanW.state ≠ .good
    ∧ s.ring.spanW.state ≠ .defect ∧ judgeFrame ((s.port .e).hears (opening true).bytes) = some (opening true)
    ∧ (opening true).header.turned = (Side.e == .e) ∧ (opening true).header.farFault = false :=
  ⟨by decide +kernel, lockedPort_listens, rfl, rfl, rfl, by decide +kernel, rfl, by decide +kernel, by decide +kernel,
    test_opening_judged true, rfl, rfl⟩

/-- Node 0 with a primary frame at its port W; node 3 with the highest rank of those that ask, and no level at all. -/
theorem witness_ArbiterGrants_awards :
    (let s := closed (booted 0 .stage);
      s.id = 0 ∧ s.portW.listens ∧ s.portW.lock = .locked ∧ s.portW.loop = .off ∧ s.ring.spanE.state = .good
      ∧ s.ring.spanW.state = .good ∧ s.ring.spanW.partner ≠ some s.id ∧ s.ring.spanW.partnerReady = false
      ∧ judgeFrame (s.portW.hears primary.bytes) = some primary ∧ primary.header.turned = false
      ∧ primary.header.farFault = false)
    ∧ (let levels : Tab Nat 4 := .ofList 4 0 [1, 0, 3, 3];
      let ranks : Tab Nat 4 := .ofList 4 0 [2, 0, 1, 3];
      0 < levels.get 3 ∧ ∀ n : NodeId, 0 < levels.get n.val → ranks.get n.val ≤ ranks.get 3)
    ∧ ∀ n, n < 4 → (Tab.fill 4 0).get n = 0 :=
  ⟨⟨by decide +kernel, lockedPort_listens, rfl, rfl, rfl, rfl, by decide +kernel, rfl, test_primary_judged, rfl, rfl⟩,
    by decide +kernel, by decide +kernel⟩

/-- A frame 0 of superframe 5 back in time grants for superframe 6, and one that comes too late grants nothing (R40). -/
theorem test_return_grants :
    let h := { (marker 5).header with request := 0x40, rest := frame0Rest (.fill 6 none) [0] [0, 3] }
    ((master 5 9).takeReturn h (.fill 128 0)).members.nextGrants = some ⟨6, .ofList 6 none [some 3]⟩
    ∧ ((master 5 9).takeReturn h (.fill 128 0)).members.ranks ≠ (master 5 9).members.ranks
    ∧ ((master 6 0).takeReturn h (.fill 128 0)).members.ranks = (master 6 0).members.ranks
    ∧ ((master 6 0).takeReturn h (.fill 128 0)).members.ringMap = [0, 3] := by decide +kernel

/-! ### Banks, preamps, tracking -/

/-- A swap pending for superframe 9, at its frame 0. -/
def swapping : State := inFrame (stage.setPlan { stage.plan with swap := some 9 }) 9 0

theorem witness_BankSwapApplies :
    swapping.plan.swap = some swapping.timing.superframe ∧ swapping.timing.frame = 0
    ∧ stage.plan.swap ≠ some stage.timing.superframe := by decide +kernel

theorem test_bank_swapped :
    (after .bankSwapApply swapping).plan.active = .b ∧ (after .bankSwapApply swapping).plan.swap = none := by decide +kernel

/-- A swap pending for superframe 1 right after a load from superframe 0 to these numbers. -/
def swapJumped (superframe frame : Nat) : State := inFrame (stage.setPlan { stage.plan with swap := some 1 }) superframe frame

/-- Landing on frame 0, frame 1 of the same superframe, a superframe later, 32768 later, and one that is still ahead. -/
theorem witness_BankSwapApplies_jump :
    (swapJumped 1 0).plan.swap = some 1 ∧ (1 : Nat) = (swapJumped 1 0).timing.superframe ∧ (swapJumped 1 0).timing.frame = 0
    ∧ (1 + 65536 - (0 + 1) % 65536) % 65536 < 32768
    ∧ ((1 : Nat) = (swapJumped 1 1).timing.superframe ∧ 0 < (swapJumped 1 1).timing.frame)
    ∧ 32768 ≤ (1 + 65536 - (swapJumped 2 0).timing.superframe % 65536) % 65536
    ∧ 32768 ≤ (1 + 65536 - (swapJumped 32769 0).timing.superframe % 65536) % 65536
    ∧ (1 + 65536 - (swapJumped 32770 0).timing.superframe % 65536) % 65536 < 32768 := by decide +kernel

/-- A jump of exactly 32768 superframes past the apply superframe misses the swap (section 2.2, R73). -/
theorem test_swap_missed_at_a_jump :
    ((swapJumped 32769 0).swapJump 0).plan.swap = none ∧ ((swapJumped 32769 0).swapJump 0).plan.active = .a
    ∧ ((swapJumped 1 0).swapJump 0).plan.active = .b ∧ ((swapJumped 32770 0).swapJump 0).plan.swap = some 1 := by
  decide +kernel

/-- A load that finds the swap untaken at its frame 0 flips the banks first (R72). -/
theorem test_due_swap_taken_at_a_load :
    (swapping.jump 20 7).plan.active = .b ∧ (swapping.jump 20 7).plan.swap = none
    ∧ (swapping.jump 20 7).plan.outgoing = none := by decide +kernel

/-- A change of input 3 by 4 steps for superframe 9, exempting node 0, at frame 0 of superframe 9. -/
def changing (delta : Int) (steps : Nat) : State :=
  inFrame (stage.setEntry 3 { stage.entry 3 with
    gain := ⟨20, false, false⟩, pending := some ⟨⟨steps, false, false⟩, delta, 9, 0⟩ }) 9 0

theorem witness_PreampChangeApplies :
    ((changing 4 24).entry 3).pending = some ⟨⟨24, false, false⟩, 4, 9, 0⟩ ∧ ((changing 4 24).entry 3).next = none
    ∧ (changing 4 24).timing.frame = 0 ∧ (changing 4 24).timing.superframe = 9 ∧ (changing 4 24).party ≠ (0 : NodeId).val
    ∧ (changing 4 24).party = (1 : NodeId).val := by decide +kernel

/-- The change of section 7.6 in small: four steps up take sixteen codes off the stage trim (R125). -/
theorem test_change_compensated :
    ((after (.preampChangeApply 3) (changing 4 24)).entry 3).gain.steps = 24
    ∧ (after (.preampChangeApply 3) (changing 4 24)).tracking.strim.get 3 = -16 := by decide +kernel

/-- The same change at a jump to one and four superframes before it, and to a superframe that has passed it. -/
theorem witness_PreampChangeApplies_jump :
    (9 + 65536 - (inFrame (changing 4 24) 8 0).timing.superframe % 65536) % 65536 = 1
    ∧ (9 + 65536 - (inFrame (changing 4 24) 5 0).timing.superframe % 65536) % 65536 = 4
    ∧ (9 + 65536 - (inFrame (changing 4 24) 9 1).timing.superframe % 65536) % 65536 = 0
    ∧ 4 < (9 + 65536 - (inFrame (changing 4 24) 4 0).timing.superframe % 65536) % 65536
    ∧ ((inFrame (changing 4 24) 4 0).entry 3).pending = some ⟨⟨24, false, false⟩, 4, 9, 0⟩ ∧ stage.isStage = true := by
  decide +kernel

/-- Four superframes ahead the change waits; five ahead it applies and is reported SKIPPED (R118). -/
theorem test_change_at_a_jump :
    ((inFrame (changing 4 24) 5 0).preampJump.entry 3).pending.isSome = true
    ∧ ((inFrame (changing 4 24) 4 0).preampJump.entry 3).gain.steps = 24
    ∧ (inFrame (changing 4 24) 4 0).preampJump.counter .converterFaults = 1 := by decide +kernel

/-- A change that a load finds untaken at its frame 0 applies and is not SKIPPED (R117, R118). -/
theorem test_due_change_taken_at_a_load :
    (((changing 4 24).jump 20 7).entry 3).gain.steps = 24 ∧ ((changing 4 24).jump 20 7).counter .converterFaults = 0 := by
  decide +kernel

/-- Node 1's next target for input 63 of the stage box, which knows the desks 0 and 1, held by this owner in this state. -/
def nextWaiting (owner : NodeId) (st : OwnerState) (queued : List StepRecord) : State :=
  let s := (knowing (knowing stage 1 .desk) 0 .desk).setEntry 63
    { PreampEntry.afterReset with owner := some owner, ownerState := st, next := some ⟨⟨8, false, false⟩, 1⟩ }
  s.setStepQueue queued

theorem witness_PreampChangeApplies_next :
    ((nextWaiting 1 .grace []).entry 63).next = some ⟨⟨8, false, false⟩, 1⟩
    ∧ ((nextWaiting 1 .grace []).entry 63).pending = none ∧ ((nextWaiting 1 .grace []).entry 63).owner = some 1
    ∧ ((nextWaiting 1 .grace []).entry 63).ownerState ≠ .orphaned ∧ (nextWaiting 1 .grace []).preamp.queue.length < 16
    ∧ ((nextWaiting 0 .held []).entry 63).owner ≠ some 1 ∧ ((nextWaiting 1 .orphaned []).entry 63).ownerState = .orphaned
    ∧ 32 ≤ (nextWaiting 1 .held (List.replicate 32 ⟨3, 3, 4, 9, 0⟩)).service.stepQueue.length := by decide +kernel

/-- A next target with room goes out, one without room waits, and one of another owner is dropped (R116). -/
theorem test_next_target_examined :
    (State.promoteOne 63 (nextWaiting 1 .grace [])).service.stepQueue = [⟨0, 63, 8, 4, 1⟩]
    ∧ ((State.promoteOne 63 (nextWaiting 1 .grace [])).entry 63).pending = some ⟨⟨8, false, false⟩, 8, 4, 1⟩
    ∧ ((State.promoteOne 63 (nextWaiting 1 .held (List.replicate 32 ⟨3, 3, 4, 9, 0⟩))).entry 63).next.isSome = true
    ∧ ((State.promoteOne 63 (nextWaiting 0 .held [])).entry 63).next = none := by decide +kernel

/-- An entry in GRACE with its timer at 0. -/
def expiring : State := stage.setEntry 7 { stage.entry 7 with owner := some 1, ownerState := .grace }

theorem witness_GraceExpires :
    (expiring.entry 7).owner.isSome = true ∧ (expiring.entry 7).ownerState = .grace ∧ (expiring.entry 7).grace = 0
    ∧ (expiring.entry 8).owner = none := by decide +kernel

theorem test_grace_expired : ((after (.graceExpiry 7) expiring).entry 7).ownerState = .orphaned := by decide +kernel

/-- A compensation for superframe 1 with capture frame 48 about to be presented, and one for superframe 2. -/
def compensating : State :=
  let s := inFrame stage 1 23
  s.setTracking { s.tracking with schedule := [⟨2, 5, -16, 1⟩, ⟨2, 5, 4, 2⟩] }

theorem witness_TrackingApplies :
    compensating.timing.running = true ∧ compensating.comingCapture = 48
    ∧ compensating.tracking.schedule.filter (fun y => decide ((48 + 3145728 - y.apply * 48 % 3145728) % 3145728 < 1572864)
        && y.stage.val * 64 + y.input == 133) = [⟨2, 5, -16, 1⟩]
    ∧ gfAtOrAfter 48 (globalCount 1 0) = true ∧ gfAtOrAfter 48 (globalCount 2 0) = false := by decide +kernel

/-- At a jump the entry behind the window applies, and the one within it waits (R132). -/
theorem test_tracking_at_a_jump :
    (inFrame compensating 1 24).trackJump.tracking.table.get 133 = -16
    ∧ (inFrame compensating 1 24).trackJump.tracking.schedule = [⟨2, 5, 4, 2⟩] := by decide +kernel

theorem test_tracking_applied :
    (after .trackingApply compensating).tracking.table.get 133 = -16
    ∧ (after .trackingApply compensating).tracking.schedule = [⟨2, 5, 4, 2⟩] := by decide +kernel

/-- A bus whose send drains and whose master climbs. -/
def ramping : State :=
  stage.setBus 4 { stage.bus 4 with masterTarget := 192, prescaler := 3, sends := [⟨.localIn 1, 0, 1, true⟩, ⟨.ring 9, 10, 4, false⟩] }

theorem witness_RampsExpire :
    ramping.isStage = true ∧ ramping.timing.running = true ∧ (ramping.bus 4).ramp = 0 ∧ (ramping.bus 4).rampTaken = false := by
  decide +kernel

theorem test_ramp_expired :
    let b := (after (.rampExpiry 4) ramping).bus 4
    b.masterApplied = 1 ∧ b.ramp = 3 ∧ b.sends = [⟨.ring 9, 10, 5, false⟩] := by decide +kernel

/-- A talker that comes or is lost after the expiry taken ahead moves the duck once, by its presence at the boundary (R144). -/
theorem test_duck_moves_once :
    let b := (after (.rampExpiry 4) (ramping.setBus 4 { ramping.bus 4 with duckApplied := 9, duckDepth := 32 })).bus 4
    b.duckApplied = 8 ∧ (b.boundary true).duckApplied = 10 ∧ (b.boundary false).duckApplied = 8 := by decide +kernel

/-- A bus in mid-ramp; its one send applied at unity. -/
def mixing : State :=
  let s := stage.setBus 4 { stage.bus 4 with masterApplied := 192, ramp := 2, sends := [⟨.localIn 1, 192, 192, false⟩] }
  s.setAudio { s.audio with localIn := s.audio.localIn.put 1 1000 }

/-- Output 5 of section 4.7.1: DTRIM −8, tracking −16 on slot 12, which carries input 3 of the stage box; output 6 the
input, 7 the bus, at a stage box or a desk. -/
def dropping (s : State) : State :=
  let s := s.setPlan { s.plan with
    slotA := s.plan.slotA.put 12 ⟨some 2, .localIn 3⟩, dtrim := s.plan.dtrim.put 5 (-8)
    dropA := ((s.plan.dropA.put 5 (.ring 12)).put 6 (.localIn 15)).put 7 (.bus 4) }
  let s := (s.setPresent { s.present with slots := s.present.slots.put 12 ⟨.good, 1000000, []⟩ }).setTracking
    { s.tracking with table := s.tracking.table.put 131 (-16) }
  s.setAudio { s.audio with localIn := s.audio.localIn.put 15 99, busOut := s.audio.busOut.put 4 98 }

theorem witness_BusesMixed_outputs :
    (dropping stage).activeDrops.get 5 = .ring 12 ∧ (dropping stage).isDesk = false
    ∧ ((dropping stage).reachOf 2).role = some .stage ∧ (dropping desk).isDesk = true
    ∧ (dropping desk).activeDrops.get 6 = .localIn 15 ∧ (dropping desk).activeDrops.get 7 = .bus 4
    ∧ (dropping desk).activeDrops.get 15 = .silent := by decide +kernel

/-- The output of section 4.7.1, and inputs and buses at both roles (R85, R86). -/
theorem test_outputs :
    [5, 6, 7].map (fun n => ((dropping stage).outputs.audio.localOut.get n).toInt) = [353554, 99, 98]
    ∧ [6, 7].map (fun n => ((dropping desk).outputs.audio.localOut.get n).toInt) = [0, 0] := by decide +kernel

/-- A bus in mid-ramp, one whose expiry falls at the boundary, and one whose expiry has been taken ahead of it. -/
theorem witness_BusesMixed :
    (4 : Nat) < 16 ∧ 0 < (mixing.bus 4).ramp ∧ (mixing.bus 4).rampTaken = false
    ∧ (ramping.bus 4).ramp = 0 ∧ (ramping.bus 4).rampTaken = false
    ∧ ((after (.rampExpiry 4) ramping).bus 4).rampTaken = true := by decide +kernel

/-- Sources of classes 1 and 2 in service, of which the lower alone speaks into bus 9 (R163). -/
theorem test_talkers :
    let s := stage.setTalk ⟨((stage.talk.sources.put 0 ⟨true, 1, .localIn 0, 0x0208, none⟩).put 5 ⟨true, 2, .localIn 1, 8, none⟩),
      ((stage.talk.register.put 1 ⟨some 0, none, none⟩).put 2 ⟨some 5, none, none⟩)⟩
    s.talker 3 = some 5 ∧ s.talker 9 = some 0 ∧ s.talker 0 = none := by decide +kernel

theorem test_bus_mixed : (State.mixBus 4 mixing).audio.busOut.get 4 = 1000#24 := by decide +kernel

/-! ### Talkback and lines -/

/-- Source 3 of class 2 in service with a timer run out, source 5 of that class holding; source 6 of class 1. -/
def talking : State :=
  let s := stage
  let src : Nat → TalkSource := fun k => ⟨true, if k = 6 then 1 else 2, .localIn 8, 1, if k = 6 then some 0 else none⟩
  s.setTalk ⟨.ofFn 8 src, (Tab.fill 4 TalkRow.empty).put 2 ⟨some 3, some 5, some 0⟩⟩

theorem witness_MaxHoldTimesOut :
    (talking.talkRow 2).timer = some 0 ∧ (talking.talkRow 2).inService = some 3 ∧ (talking.talkSource 3).cls = 2 := by
  decide +kernel

theorem test_max_hold_promotes : (after (.maxHoldExpiry 2) talking).talkRow 2 = ⟨some 5, none, none⟩ := by decide +kernel

/-- Line 0 is a talk button of source 6, sampled against its state four times. -/
def button (pressed : Bool) (row : TalkRow) : State :=
  let s := talking.setTalk { talking.talk with register := talking.talk.register.put 1 row }
  s.setLine 0 ⟨.talkButton 6, pressed, 4, some (!pressed), none⟩

/-- The source i speaks from slot 9, which is STALE. -/
def ringing (s : State) (i : Fin 8) : State :=
  s.setTalk { s.talk with sources := s.talk.sources.put i.val { s.talkSource i with audio := .ring 9 } }

theorem witness_DebouncedLinesPress :
    ((button false .empty).line 0).changes = 4 ∧ ((button false .empty).line 0).function = .talkButton 6
    ∧ ((button false .empty).talkSource 6).trigger = some 0 ∧ ((button false .empty).line 0).pressed = false
    ∧ ((button false .empty).talkSource 6).enabled = true ∧ ((button false .empty).talkSource 6).cls < 4
    ∧ ((button false .empty).talkSource 6).audio = .localIn 8 ∧ ((button false .empty).rowOf 6).inService = none
    ∧ ((button false .empty).rowOf 6).holding = none
    ∧ ((button true ⟨some 6, none, none⟩).line 0).pressed = true
    ∧ ((button true ⟨some 6, none, none⟩).rowOf 6).inService = some 6
    ∧ ((button false .empty).setLine 1 ⟨.talkButton 6, false, 4, none, none⟩ |>.talkSource 6).trigger ≠ some 1 := by
  decide +kernel

/-- A press onto a row with both entries taken, of a source that holds, and of a ring source whose slot is STALE; releases of
a source that holds, of one in service with another holding, and of one that is neither. -/
theorem witness_DebouncedLinesPress_rows :
    ((button false ⟨some 3, some 5, none⟩).rowOf 6).holding = some 5 ∧ ((button false ⟨some 3, some 6, none⟩).rowOf 6).holding = some 6
    ∧ ((button true ⟨some 3, some 6, none⟩).rowOf 6).holding = some 6 ∧ ((button true ⟨some 6, some 5, none⟩).rowOf 6).inService = some 6
    ∧ ((button true .empty).rowOf 6).inService ≠ some 6 ∧ ((button true .empty).rowOf 6).holding ≠ some 6
    ∧ (ringing (button false .empty) 6).talkSource 6 = ⟨true, 1, .ring 9, 1, some 0⟩
    ∧ ((ringing (button false .empty) 6).present.slots.get 9).state = .stale := by decide +kernel

/-- A refused line press counts and raises its notice, one of a STALE source does nothing (R158, R166). -/
theorem test_button_refused :
    let t := after (.debounceFlip 0) ((button false ⟨some 3, some 5, none⟩).setNotices [])
    t.notices = [⟨.talkRefused, 6, [1, 3, 5], 1⟩] ∧ t.counter .talkRefusals = 1
    ∧ (after (.debounceFlip 0) (ringing (button false .empty) 6)).talkRow 1 = .empty := by decide +kernel

theorem test_button_presses : (after (.debounceFlip 0) (button false .empty)).talkRow 1 = ⟨some 6, none, none⟩ := by
  decide +kernel

theorem test_button_releases : (after (.debounceFlip 0) (button true ⟨some 6, none, none⟩)).talkRow 1 = .empty := by
  decide +kernel

/-! ### Converters -/

/-- A command of channel 15 of address 3 behind one of address 0, the older one at its deadline. -/
def commanded : State :=
  stage.setPreamp { stage.preamp with
    outstanding := [⟨⟨0, 15, ⟨7, false, false⟩, 9⟩, 0⟩, ⟨⟨3, 15, ⟨8, true, false⟩, 9⟩, 1⟩] }

theorem witness_ConverterAnswers :
    (∃ before after o, commanded.preamp.outstanding = before ++ o :: after ∧ o.command.address = (3 : Fin 4).val
      ∧ o.command.channel = (15 : Fin 16).val ∧ ∀ x ∈ before, x.command.address ≠ 3 ∨ x.command.channel ≠ 15)
    ∧ (∀ x ∈ commanded.preamp.outstanding, x.command.address ≠ (1 : Fin 4).val ∨ x.command.channel ≠ (15 : Fin 16).val)
    ∧ (∃ o rest, commanded.preamp.outstanding = o :: rest ∧ o.left = 0 ∧ o.command.address < 4 ∧ o.command.channel < 16)
    ∧ (let s := inFrame stage 64 0;
      s.isStage = true ∧ s.preamp.reloadStarted = false ∧ s.timing.running = true ∧ s.id ≠ 0 ∧ s.timing.superframe = 64
      ∧ s.timing.clock = .holdover ∧ (marker 64).header.superframe = 64 ∧ (marker 64).header.frame = s.timing.frame
      ∧ (inFrame stage 64 9).timing.frame ≠ 0) :=
  ⟨⟨[_], [], _, rfl, rfl, rfl, by decide +kernel⟩, by decide +kernel, ⟨_, _, rfl, rfl, by decide, by decide⟩,
    by decide +kernel⟩

/-- The stage box at superframe 9 with a command of the pass or of the queue for this superframe. -/
def lining (pass queue : Nat) : State :=
  let c : Nat → ConvCommand := fun a => ⟨3, 15, ⟨8, true, false⟩, a⟩
  (inFrame stage 9 0).setPreamp { stage.preamp with
    reload := if pass = 0 then [] else [c pass], queue := if queue = 0 then [] else [c queue] }

/-- One and 32767 superframes ahead, the current superframe, and 32768 ahead. -/
theorem witness_ConverterAnswers_line :
    (lining 10 0).isStage = true ∧ (lining 10 0).preamp.outstanding.length < 48
    ∧ (∀ n, n < 64 → ((lining 10 0).entry n).next = none)
    ∧ (10 + 65536 - (lining 10 0).timing.superframe % 65536) % 65536 = 1
    ∧ (32776 + 65536 - (lining 0 32776).timing.superframe % 65536) % 65536 = 32767
    ∧ (9 + 65536 - (lining 0 9).timing.superframe % 65536) % 65536 = 0
    ∧ (32777 + 65536 - (lining 0 32777).timing.superframe % 65536) % 65536 = 32768
    ∧ (lining 0 9).preamp.reload = [] ∧ (lining 0 9).preamp.queue = [⟨3, 15, ⟨8, true, false⟩, 9⟩] := by decide +kernel

/-- A command goes out with four bits of its superframe, or leaves late and is counted (R119). -/
theorem test_converter_line :
    (lining 0 25).converterLine.preamp.transfer = some ⟨3, 15, ⟨8, true, false⟩, 9⟩
    ∧ (lining 0 25).converterLine.preamp.outstanding = [⟨⟨3, 15, ⟨8, true, false⟩, 25⟩, 48⟩]
    ∧ (lining 0 9).converterLine.preamp.transfer = none ∧ (lining 0 9).converterLine.counter .converterFaults = 1 := by
  decide +kernel

theorem test_ack_confirms :
    ((after (.converterAck 3 15) commanded).entry 63).confirmed = true
    ∧ (after (.converterAck 3 15) commanded).preamp.outstanding.length = 1 := by decide +kernel

theorem test_deadline_counts_a_fault : (after .ackDeadlineExpiry commanded).counter .converterFaults = 1 := by decide +kernel

/-! ### Cells of the ring and of the host -/

/-- The eight lane parts of a cell. -/
def parts (c : Cell) : Tab Lane 8 := .ofFn 8 (laneSlice c.encode)

/-- The stage box in the last frame of cell time 5, granted to node 1, with these lane parts. -/
def hearing (p : Tab (Option Lane) 8) : State :=
  let s := inFrame stage 9 47
  (s.setMembers { s.members with grants := s.members.grants.put 5 (some 1) }).setService
    { s.service with laneIn := { s.service.laneIn with parts := p } }

/-- A press of talk source 3, and the same with its relayed flag clear and one payload byte off. -/
def pressCell : Cell := cell .act [0x30, 3]

/-- The parts of a cell with the last one, its CRC, replaced. -/
def spoilt : Tab Lane 8 := (parts pressCell).put 7 (.fill 3 1)

/-- All parts there with a good CRC, a damaged cell, and a missing part. -/
theorem witness_RingCellsJudged :
    let s := hearing ((parts pressCell).map some)
    s.id ≠ 0 ∧ s.timing.running = true ∧ s.timing.frameOwed = false ∧ s.timing.frame % 8 = 7
    ∧ s.service.laneIn.judged = false ∧ s.laneWriter = some 1 ∧ 1 ≠ s.id
    ∧ (let bytes := (parts pressCell).toList.flatMap Tab.toList;
      cellCrcOk bytes = true ∧ (cellFields bytes).relayed = false ∧ (cellFields bytes).dest = toNode s.id
      ∧ (cellFields bytes).isRequest = true ∧ s.service.work.length < 16 ∧ bytes.all (· == 0) = false)
    ∧ (let bytes := spoilt.toList.flatMap Tab.toList;
      cellCrcOk bytes = false ∧ (cellFields bytes).relayed = false ∧ bytes.all (· == 0) = false)
    ∧ (hearing (.fill 8 none)).service.laneIn.parts.get 7 = none := by decide +kernel

/-- Node 0 in the last frame of cell time 5 of superframe 9, granted to node 3, with the press for node 2 back, its path
order 0, 2, 3. -/
def relaying (map : List NodeId) : State :=
  let s := inFrame (closed (booted 0 .desk)) 9 47
  (s.setMembers { s.members with grants := s.members.grants.put 5 (some 3), ringMap := map }).setService
    { s.service with laneIn := { s.service.laneIn with parts := (parts pressCell).map some } }

theorem witness_RingCellsJudged_relay :
    (relaying [0, 2, 3]).id = 0 ∧ (relaying [0, 2, 3]).service.laneLate = none
    ∧ (relaying [0, 2, 3]).service.laneIn.judged = false ∧ (relaying [0, 2, 3]).laneWriter = some 3
    ∧ (cellFields ((parts pressCell).toList.flatMap Tab.toList)).dest = toNode 2
    ∧ before [0, 2, 3] 0 2 = true ∧ before [0, 2, 3] 2 3 = true ∧ before [0, 3, 2] 2 3 = false
    ∧ (relaying [0, 2, 3]).service.relay.length < 16
    ∧ (after .ringCellComplete (hearing (.fill 8 none))).service.laneIn.judged = true := by decide +kernel

/-- A cell for a node before its writer is relayed, and one for a node after it is not (R38). -/
theorem test_cell_relayed :
    (after .ringCellComplete (relaying [0, 2, 3])).service.relay = [{ pressCell with relayed := true }]
    ∧ (after .ringCellComplete (relaying [0, 3, 2])).service.relay = [] := by decide +kernel

theorem test_ring_cell_queued_or_counted :
    (after .ringCellComplete (hearing ((parts pressCell).map some))).service.work = [pressCell]
    ∧ (after .ringCellComplete (hearing (spoilt.map some))).counter .cellErrors = 1 := by decide +kernel

/-- The MON desk in the last frame of a console cell time with these bytes from its host. -/
def hosting (p : Tab Lane 8) : State :=
  let s := inFrame (knowing desk 2 .stage) 9 7
  s.setService { s.service with consoleIn := ⟨p.map some, false⟩ }

/-- A request for the node itself. -/
def ownCell : Cell := { cell .act [0x01] with dest := 1 }

/-- Relayed copies from a node after this one and before it in path order, and cells of the kinds for a host. -/
theorem witness_RingCellsJudged_routed :
    let copy : Cell := { pressCell with relayed := true }
    let bytes := (parts copy).toList.flatMap Tab.toList
    cellCrcOk bytes = true ∧ (cellFields bytes).relayed = true ∧ bytes.all (· == 0) = false
    ∧ (let s := (hearing ((parts copy).map some)); s.service.laneIn.parts = (parts copy).map some
      ∧ before (s.setMembers { s.members with ringMap := [0, 2, 1] }).members.ringMap s.id (cellFields bytes).origin = true
      ∧ before (s.setMembers { s.members with ringMap := [0, 1, 2] }).members.ringMap s.id (cellFields bytes).origin = false)
    ∧ (let b := (parts { cell .answer [0, 0, 1] with dest := 0, destConsole := true }).toList.flatMap Tab.toList;
      cellCrcOk b = true ∧ (cellFields b).kind.toNat = 5 ∧ (cellFields b).dest = toNode 0 ∧ (cellFields b).destConsole = true)
    ∧ (List.replicate 16 pressCell).length = 16 := by decide +kernel

/-- A full work queue answers a request from the ring BUSY with the intake mark (R92), and a copy from a node that lies before
this one is ignored (R39). -/
theorem test_ring_cell_refused_or_ignored :
    let s := hearing ((parts pressCell).map some)
    let u := hearing ((parts { pressCell with relayed := true }).map some)
    lastAnswer (after .ringCellComplete (s.setService { s.service with work := List.replicate 16 pressCell })) = [0x10, 1, 0, 0]
    ∧ (after .ringCellComplete (u.setMembers { u.members with ringMap := [0, 1, 2] })).service.work = []
    ∧ (after .ringCellComplete (u.setMembers { u.members with ringMap := [0, 2, 1] })).service.work.length = 1 := by decide +kernel

/-- A cell for ALL in a ring and at a node alone, one for a node not REACHABLE, one for neither, and a cell that is no request. -/
theorem witness_HostCellsTaken_routed :
    let sent := fun (d : Fin 8) => ({ pressCell with dest := d } : Cell)
    let heard := fun c => cellFields (hosting (parts c)).consoleJoin
    (heard (sent 7)).dest = toAll ∧ (hosting (parts (sent 7))).ring.state ≠ .isolated
    ∧ ((hosting (parts (sent 7))).setRing { desk.ring with state := .isolated }).ring.state = .isolated
    ∧ (heard (sent 3)).dest = toNode 3 ∧ 3 ≠ desk.id ∧ (hosting (parts (sent 3))).isReachable 3 = false
    ∧ (heard (sent 5)).dest ≠ toAll ∧ (∀ d : NodeId, (heard (sent 5)).dest ≠ toNode d) ∧ (heard (sent 5)).kind.toNat = 4
    ∧ (heard { pressCell with kind := 3 }).kind.toNat = 3
    ∧ (after .consoleCellReceived (hosting (parts pressCell))).service.consoleIn.judged = true := by decide +kernel

/-- A request for ALL enters both queues, and one for a node not REACHABLE is answered so (R91). -/
theorem test_host_cell_for_all :
    let t := after .consoleCellReceived (hosting (parts { pressCell with dest := 7 }))
    let u := after .consoleCellReceived (hosting (parts { pressCell with dest := 3 }))
    t.service.work.length = 1 ∧ t.service.outbound.length = 1
    ∧ (u.service.console.map fun c => c.payload.toList.take 3) = [[0x22, 0, 3]] := by decide +kernel

theorem witness_HostCellsTaken :
    let s := hosting (parts pressCell)
    s.isDesk = true ∧ s.timing.running = true ∧ s.timing.frameOwed = false ∧ s.timing.frame % 8 = 7
    ∧ s.service.consoleIn.judged = false ∧ s.ring.state ≠ .dark
    ∧ (let bytes := s.consoleJoin;
      bytes.all (· == 0) = false ∧ cellCrcOk bytes = true ∧ (cellFields bytes).isRequest = true
      ∧ (cellFields bytes).dest = toNode 2 ∧ 2 ≠ s.id ∧ s.isReachable 2 = true ∧ s.ring.state ≠ .isolated
      ∧ s.service.outbound.length < 16)
    ∧ (let bytes := (hosting (parts ownCell)).consoleJoin;
      bytes.all (· == 0) = false ∧ cellCrcOk bytes = true ∧ (cellFields bytes).isRequest = true
      ∧ (cellFields bytes).dest = toNode s.id ∧ s.service.work.length < 16)
    ∧ (let bytes := (hosting spoilt).consoleJoin;
      bytes.all (· == 0) = false ∧ cellCrcOk bytes = false) := by decide +kernel

theorem test_host_cell_sent_on :
    (after .consoleCellReceived (hosting (parts pressCell))).service.outbound = [pressCell] := by decide +kernel

/-! ### Requests -/

/-- The stage box, which knows the MON desk, with an ACT at the head. -/
def asked (args : List Nat) : State := withHead (knowing stage 1 .desk) (cell .act args)

/-- A WRITE of one entry. -/
def entry (table index : Nat) (bytes : List Nat) : Cell := cell .write ([table, index % 256, index / 256, 1] ++ bytes)

/-- The stage box with a WRITE of one entry at the head. -/
def written (table index : Nat) (bytes : List Nat) : State := withHead stage (entry table index bytes)

theorem witness_RefusedTablesAndActions :
    (written 0x7F 0 [0]).request = some (entry 0x7F 0 [0]) ∧ (entry 0x7F 0 [0]).kind? = some .write
    ∧ (entry 0x7F 0 [0]).table? = none
    ∧ (written 0x70 0 [0]).request = some (entry 0x70 0 [0]) ∧ (entry 0x70 0 [0]).table? = some .count
    ∧ (entry 0x41 0 [0]).table? = some .talkreg ∧ stage.isStage = true
    ∧ (written 0x20 63 [0]).request = some (entry 0x20 63 [0]) ∧ (entry 0x20 63 [0]).table? = some .preamp
    ∧ (asked [0x43]).request = some (cell .act [0x43]) ∧ (cell .act [0x43]).kind? = some .act
    ∧ (cell .act [0x43]).arg 0 ∉ [1, 2, 3, 4, 5, 0x10, 0x11, 0x12, 0x20, 0x30, 0x31, 0x40, 0x41, 0x42]
    ∧ (withHead desk (cell .act [0x10, 0, 0])).request = some (cell .act [0x10, 0, 0])
    ∧ (cell .act [0x10, 0, 0]).arg 0 = 0x10 ∧ desk.isDesk = true := by decide +kernel

/-- A WRITE of two bus records, a READ past the last output and of a STAGE node's table at a desk, and a SWAP_BANK without its
second byte. -/
theorem witness_RefusedTablesAndActions_checks :
    let two := cell .write ([0x30, 15, 0, 2] ++ [1, 2, 3, 4, 5, 6, 7, 8])
    (withHead stage two).request = some two ∧ two.kind? = some .write ∧ two.table? = some .bus
    ∧ Table.entries .bus < two.first + two.count ∧ (withHead desk two).request = some two
    ∧ (let r := cell .read [0x13, 63, 0, 2];
      (withHead desk r).request = some r ∧ r.kind? = some .read ∧ r.table? = some .dropB
      ∧ Table.entries .dropB < r.first + r.count)
    ∧ (let r := cell .read [0x20, 63, 0, 1]; (withHead desk r).request = some r ∧ r.table? = some .preamp)
    ∧ (cell .read [0x7F, 0, 0, 1]).table? = none
    ∧ (asked [2, 9]).request = some (cell .act [2, 9]) ∧ (cell .act [2, 9]).length < 1 + 2
    ∧ (asked [0x10, 9]).request = some (cell .act [0x10, 9]) ∧ (cell .act [0x10, 9]).length < 1 + 2 := by decide +kernel

/-- BAD_INDEX for entries past the table and for missing arguments, ROLE at a desk (R96). -/
theorem test_checks_refuse :
    lastAnswer (after .readTable (withHead stage (cell .read [0x13, 63, 0, 2]))) = [0x21, 0, 0, 0]
    ∧ lastAnswer (after .swapBank (asked [2, 9])) = [0x21, 0, 0, 0]
    ∧ ((after .readTable (withHead desk (cell .read [0x20, 63, 0, 1]))).service.console.map fun c => c.arg 0) = [0x30] := by
  decide +kernel

theorem test_unknown_table_refused : lastAnswer (after .writeTable (written 0x7F 0 [0])) = [0x20, 0, 0, 0] := by
  decide +kernel

theorem test_unknown_action_refused : lastAnswer (after .unknownAction (asked [0x43])) = [0x20, 0, 0, 0] := by decide +kernel

/-- Slot 127 filled by node 3 from its input 63, and output 63 from ring slot 127. -/
theorem witness_SlotAndDropWrites :
    WriteReady (written 0x11 127 [3, 0, 63]) (entry 0x11 127 [3, 0, 63]) .slotB 127
    ∧ (entry 0x11 127 [3, 0, 63]).entryWritten .slotA = SlotEntry.record ⟨some 3, .localIn 63⟩
    ∧ WriteReady (written 0x10 0 [0xFF, 3, 0]) (entry 0x10 0 [0xFF, 3, 0]) .slotA 0
    ∧ (entry 0x10 0 [0xFF, 3, 0]).entryWritten .slotA = SlotEntry.empty.record
    ∧ WriteReady (written 0x13 63 [0, 127]) (entry 0x13 63 [0, 127]) .dropB 63
    ∧ (entry 0x13 63 [0, 127]).entryWritten .dropA = (DropSource.ring 127).record
    ∧ WriteReady (written 0x12 0 [3, 0]) (entry 0x12 0 [3, 0]) .dropA 0
    ∧ (entry 0x12 0 [3, 0]).entryWritten .dropA = DropSource.silent.record
    ∧ WriteReady (withHead desk (entry 0x13 0 [1, 15])) (entry 0x13 0 [1, 15]) .dropB 0
    ∧ (entry 0x13 0 [1, 15]).entryWritten .dropA = (DropSource.bus 15).record ∧ desk.isDesk = true
    ∧ stage.plan.active = .a ∧ desk.plan.active = .a := by
  unfold WriteReady
  decide +kernel

/-- A WRITE of several entries. -/
def entries (table index count : Nat) (bytes : List Nat) : Cell :=
  cell .write ([table, index % 256, index / 256, count] ++ bytes)

/-- Bus 15, silence, bus 16 which there is none of, and slot 128 which there is none of, to the last four outputs of B; one
entry to A; bus 15 at a desk. -/
theorem witness_SlotAndDropWrites_several :
    let c := entries 0x13 60 4 [1, 15, 3, 9, 1, 16, 0, 128]
    WritesReady (withHead stage c) c .dropB 60 4
    ∧ WritesReady (withHead desk c) c .dropB 60 4
    ∧ WritesReady (withHead stage (entries 0x12 0 1 [3, 0])) (entries 0x12 0 1 [3, 0]) .dropA 0 1
    ∧ stage.plan.active ≠ .b ∧ stage.plan.active = .a ∧ c.arg 4 = 1 ∧ c.arg 7 = 9 ∧ c.arg 9 = 16 := by
  unfold WritesReady
  decide +kernel

/-- Input 63, inserter 4, the pattern with a number, and bus 16 to the last four slots of B; one entry to A. -/
theorem witness_SlotAndDropWrites_slots :
    let c := entries 0x11 124 4 [3, 0, 63, 4, 3, 0, 0xFF, 2, 9, 0, 1, 16]
    WritesReady (withHead stage c) c .slotB 124 4 ∧ c.arg 4 = 3 ∧ c.arg 7 = 4 ∧ c.arg 11 = 2 ∧ c.arg 15 = 16
    ∧ WritesReady (withHead stage (entries 0x10 0 1 [0xFF, 3, 0])) (entries 0x10 0 1 [0xFF, 3, 0]) .slotA 0 1 := by
  unfold WritesReady
  decide +kernel

theorem test_slot_entries_partly_written :
    let t := after .writeSlotEntry (withHead stage (entries 0x11 124 4 [3, 0, 63, 4, 3, 0, 0xFF, 2, 9, 0, 1, 16]))
    t.plan.slotB.get 124 = ⟨some 3, .localIn 63⟩ ∧ t.plan.slotB.get 126 = ⟨none, .pattern⟩
    ∧ lastAnswer t = [2, 0, 125, 0x21] := by decide +kernel

/-- Two of four entries refused: PARTIAL with index 62, BAD_INDEX and 2 (R97). -/
theorem test_drop_entries_partly_written :
    (after .writeDropEntry (withHead stage (entries 0x13 60 4 [1, 15, 3, 9, 1, 16, 0, 128]))).plan.dropB.get 60 = .bus 15
    ∧ lastAnswer (after .writeDropEntry (withHead stage (entries 0x13 60 4 [1, 15, 3, 9, 1, 16, 0, 128]))) = [2, 0, 62, 0x21] := by
  decide +kernel

theorem test_slot_entry_written :
    (after .writeSlotEntry (written 0x11 127 [3, 0, 63])).plan.slotB.get 127 = ⟨some 3, .localIn 63⟩ := by decide +kernel

theorem test_active_bank_refused : lastAnswer (after .writeSlotEntry (written 0x10 0 [0xFF, 3, 0])) = [0x33, 0, 0, 1] := by
  decide +kernel

theorem test_drop_entry_written : (after .writeDropEntry (written 0x13 63 [0, 127])).plan.dropB.get 63 = .ring 127 := by
  decide +kernel

/-- The trims at their largest written byte, and a bus record with both duck values above their bound. -/
theorem witness_TrimAndBusWrites :
    WriteReady (written 0x14 63 [64]) (entry 0x14 63 [64]) .dtrim 63
    ∧ WriteReady (written 0x21 63 [128]) (entry 0x21 63 [128]) .strim 63
    ∧ WriteReady (written 0x22 255 [127]) (entry 0x22 255 [127]) .track 255
    ∧ WriteReady (written 0x30 15 [192, 0, 192, 65, 65, 0x51, 9, 1, 2]) (entry 0x30 15 [192, 0, 192, 65, 65, 0x51, 9, 1, 2])
      .bus 15 ∧ stage.isStage = true := by
  unfold WriteReady
  decide +kernel

/-- Twelve drop trims at the end of the table, 64 the second of them. -/
theorem witness_TrimAndBusWrites_several :
    let c := entries 0x14 52 12 [63, 64, 128, 0, 0, 0, 0, 0, 0, 0, 0, 70]
    WritesReady (withHead stage c) c .dtrim 52 12
    ∧ (∀ x ∈ [(0, Taken.taken)], x.2 = .taken) ∧ (∀ x ∈ [(2, Taken.clamped)], x.2 = .taken ∨ x.2 = .clamped) := by
  unfold WritesReady
  decide +kernel

/-- Two stage trims and two tracking entries at the ends of their tables. -/
theorem witness_TrimAndBusWrites_trims :
    WritesReady (withHead stage (entries 0x21 62 2 [128, 127])) (entries 0x21 62 2 [128, 127]) .strim 62 2
    ∧ WritesReady (withHead desk (entries 0x22 254 2 [128, 127])) (entries 0x22 254 2 [128, 127]) .track 254 2 := by
  unfold WritesReady
  decide +kernel

theorem test_trims_written :
    (let t := after .writeStrim (withHead stage (entries 0x21 62 2 [128, 127]));
      t.tracking.strim.get 62 = -128 ∧ t.tracking.strim.get 63 = 127 ∧ lastAnswer t = [0, 0, 2, 0])
    ∧ (after .writeTrack (withHead desk (entries 0x22 254 2 [128, 127]))).tracking.table.get 255 = 127 := by decide +kernel

theorem test_drop_trims_clamped :
    let c := entries 0x14 52 12 [63, 64, 128, 0, 0, 0, 0, 0, 0, 0, 0, 70]
    lastAnswer (after .writeDtrim (withHead stage c)) = [1, 0, 53, 0]
    ∧ (after .writeDtrim (withHead stage c)).plan.dtrim.get 54 = -128 := by decide +kernel

theorem test_drop_trim_clamped : (after .writeDtrim (written 0x14 63 [64])).plan.dtrim.get 63 = 63 := by decide +kernel

theorem test_stage_trim_written : (after .writeStrim (written 0x21 63 [128])).tracking.strim.get 63 = -128 := by decide +kernel

theorem test_track_written : (after .writeTrack (written 0x22 255 [127])).tracking.table.get 255 = 127 := by decide +kernel

theorem test_bus_written :
    (after .writeBus (written 0x30 15 [192, 0, 192, 65, 65, 0x51, 9, 1, 2])).bus 15
      = ⟨192, 0, 192, 64, 64, 1, 5, 513, [], false, none⟩ := by decide +kernel

/-- Bus 15 with one send, of local input 63, draining or not. -/
def sending (draining : Bool) (c : Cell) : State :=
  (withHead stage c).setBus 15 { Bus.afterReset with sends := [⟨.localIn 63, 0, 5, draining⟩] }

theorem sending_law (draining : Bool) (c : Cell) : SendLaw (sending draining c) := by
  have h : ∀ b, b < 16 → ((sending draining c).bus b).sends = []
      ∨ ((sending draining c).bus b).sends = [⟨.localIn 63, 0, 5, draining⟩] := by
    have k : ∀ b, b < 16 → ((stage.buses.put 15 { Bus.afterReset with sends := [⟨.localIn 63, 0, 5, draining⟩] }).get b).sends = []
        ∨ ((stage.buses.put 15 { Bus.afterReset with sends := [⟨.localIn 63, 0, 5, draining⟩] }).get b).sends
          = [⟨.localIn 63, 0, 5, draining⟩] := by
      cases draining <;> decide +kernel
    exact k
  intro b hb
  rcases h b hb with e | e <;> rw [e] <;> simp

/-- A SEND entry of bus 15. -/
def sendEntry (position kind number : Nat) : Cell := entry 0x31 (480 + position) [kind, number, 192, 0, 0]

/-- Position 0, the send count 1 and a position above it; the source there, another and none. -/
theorem witness_SendWrites :
    WriteReady (sending false (sendEntry 0 0 63)) (sendEntry 0 0 63) .send (15 * 32 + 0)
    ∧ WriteReady (sending true (sendEntry 1 0 63)) (sendEntry 1 0 63) .send (15 * 32 + 1)
    ∧ WriteReady (sending false (sendEntry 31 1 127)) (sendEntry 31 1 127) .send (15 * 32 + 31)
    ∧ ((sendEntry 0 0 63).entryWritten .send).take 2 = (AudioSource.localIn 63).bytes
    ∧ ((sendEntry 31 1 127).entryWritten .send).take 2 = (AudioSource.ring 127).bytes
    ∧ stage.isStage = true ∧ ((sending true (sendEntry 1 0 63)).bus 15).sends.length = 1 := by
  unfold WriteReady
  decide +kernel

/-- Bytes that spell no source: a local input above 63. -/
theorem witness_SendWrites_no_source :
    WriteReady (sending false (sendEntry 0 0 64)) (sendEntry 0 0 64) .send (15 * 32 + 0)
    ∧ ∀ a : AudioSource, ((sendEntry 0 0 64).entryWritten .send).take 2 ≠ a.bytes := by
  refine ⟨by unfold WriteReady; decide +kernel, ?_⟩
  have e : ((sendEntry 0 0 64).entryWritten .send).take 2 = [0, 64] := by decide +kernel
  rw [e]
  rintro (n | n) h
  · revert h n
    decide
  · simp [AudioSource.bytes] at h

/-- Two entries at the send count of bus 15, of two sources and of one. -/
theorem witness_SendWrites_two :
    let two := entries 0x31 481 2 [0, 0, 192, 0, 0, 1, 127, 90, 0, 0]
    let same := entries 0x31 481 2 [1, 127, 192, 0, 0, 1, 127, 90, 0, 0]
    WritesReady (sending false two) two .send (15 * 32 + 1) 2 ∧ WritesReady (sending false same) same .send (15 * 32 + 1) 2
    ∧ 1 = ((sending false two).bus 15).sends.length ∧ (sending false two).isStage = true
    ∧ (∀ z ∈ ((sending false two).bus 15).sends, z.source ≠ .localIn 0 ∧ z.source ≠ .ring 127)
    ∧ (two.payload.toList.drop 4).take 2 = (AudioSource.localIn 0).bytes
    ∧ (same.payload.toList.drop 4).take 2 = (AudioSource.ring 127).bytes
    ∧ (two.payload.toList.drop 9).take 2 = (AudioSource.ring 127).bytes := by
  unfold WritesReady
  decide +kernel

/-- Bus 15 with a list of 32 sends, the first of slot 0, and another source written at its position, in the list or not. -/
def sendingFull (c : Cell) : State :=
  (withHead stage c).setBus 15 { Bus.afterReset with sends := (List.finRange 32).map fun n => ⟨.ring ⟨n.val, by omega⟩, 0, 5, false⟩ }

theorem witness_SendWrites_full :
    WriteReady (sendingFull (sendEntry 0 0 63)) (sendEntry 0 0 63) .send (15 * 32 + 0)
    ∧ WriteReady (sendingFull (sendEntry 0 1 31)) (sendEntry 0 1 31) .send (15 * 32 + 0)
    ∧ ((sendEntry 0 0 63).entryWritten .send).take 2 = (AudioSource.localIn 63).bytes
    ∧ ((sendEntry 0 1 31).entryWritten .send).take 2 = (AudioSource.ring 31).bytes
    ∧ ((sendingFull (sendEntry 0 0 63)).bus 15).sends.length = 32
    ∧ ((sendingFull (sendEntry 0 0 63)).bus 15).sends[0]? = some ⟨.ring 0, 0, 5, false⟩
    ∧ (∀ y ∈ ((sendingFull (sendEntry 0 0 63)).bus 15).sends, y.source ≠ .localIn 63)
    ∧ (∃ y ∈ ((sendingFull (sendEntry 0 0 63)).bus 15).sends, y.source = .ring 31)
    ∧ ((sendingFull (sendEntry 0 0 63)).bus 15).sends.Pairwise fun a b => a.source ≠ b.source := by
  unfold WriteReady
  decide +kernel

/-- A full list answers FULL for an absent source and SOURCE_FIXED for one it holds elsewhere (R138). -/
theorem test_send_full_or_fixed :
    (lastAnswer (after .writeSend (sendingFull (sendEntry 0 0 63)))).head? = some Status.full.code
    ∧ (lastAnswer (after .writeSend (sendingFull (sendEntry 0 1 31)))).head? = some Status.sourceFixed.code := by
  decide +kernel

theorem test_send_taken_over_or_appended :
    ((after .writeSend (sending true (sendEntry 1 0 63))).bus 15).sends = [⟨.localIn 63, 192, 5, false⟩]
    ∧ ((after .writeSend (sending false (sendEntry 1 1 127))).bus 15).sends
      = [⟨.localIn 63, 0, 5, false⟩, ⟨.ring 127, 192, 0, false⟩] := by decide +kernel

/-- Source 7 of the stage box made a source of class 3 in service, its entry then written as another class. -/
def talkWritten (c : Cell) : State :=
  (withHead stage c).setTalk
    ⟨stage.talk.sources.put 7 ⟨true, 3, .localIn 8, 1, none⟩, stage.talk.register.put 3 ⟨some 7, none, none⟩⟩

/-- The entry of an enabled source of class 2 on ring slot 127, to all buses, pressed by line 7. -/
def talkEntry : Cell := entry 0x40 7 [0x82, 1, 127, 0xFF, 0xFF, 0x87]

theorem witness_TalkSourceWrites :
    TalkLaw (talkWritten talkEntry) ∧ WriteReady (talkWritten talkEntry) talkEntry .talksrc 7 ∧ stage.isStage = true
    ∧ ((talkWritten talkEntry).talkSource 7).cls < 4
    ∧ talkEntry.entryWritten .talksrc = TalkSource.record ⟨true, 2, .ring 127, 0xFFFF, some 7⟩ := by
  unfold TalkLaw InRow WriteReady
  decide +kernel

theorem test_talk_source_rewritten :
    (after .writeTalksrc (talkWritten talkEntry)).talkRow 3 = .empty
    ∧ ((after .writeTalksrc (talkWritten talkEntry)).talkSource 7).cls = 2 := by decide +kernel

/-- A TALLY at the stage box, a FAULT line, and a TALK_BUTTON at a desk. -/
theorem witness_LineWrites :
    WriteReady (written 0x50 7 [2, 7, 0, 0]) (entry 0x50 7 [2, 7, 0, 0]) .lines 7
    ∧ ((entry 0x50 7 [2, 7, 0, 0]).entryWritten .lines).take 2 = (LineFunction.tally 7).bytes
    ∧ WriteReady (withHead desk (entry 0x50 0 [1, 7, 0, 0])) (entry 0x50 0 [1, 7, 0, 0]) .lines 0
    ∧ ((entry 0x50 0 [1, 7, 0, 0]).entryWritten .lines).take 2 = (LineFunction.talkButton 7).bytes ∧ desk.isDesk = true
    ∧ WriteReady (written 0x50 0 [3, 0, 0, 0]) (entry 0x50 0 [3, 0, 0, 0]) .lines 0
    ∧ ((entry 0x50 0 [3, 0, 0, 0]).entryWritten .lines).take 2 = LineFunction.fault.bytes ∧ stage.ring.state ≠ .dark := by
  unfold WriteReady
  decide +kernel

theorem test_tally_written : (after .writeLines (written 0x50 7 [2, 7, 0, 0])).line 7 = ⟨.tally 7, false, 0, none, some false⟩ := by
  decide +kernel

/-- Below, in and above a range, and the enable mask. -/
theorem witness_SettingsWrites :
    WriteReady (written 0x60 0 [15, 0]) (entry 0x60 0 [15, 0]) .sets 0
    ∧ WriteReady (written 0x60 3 [0x60, 0xEA]) (entry 0x60 3 [0x60, 0xEA]) .sets 3
    ∧ WriteReady (written 0x60 6 [4, 0]) (entry 0x60 6 [4, 0]) .sets 6
    ∧ WriteReady (written 0x60 7 [0xFF, 0xFF]) (entry 0x60 7 [0xFF, 0xFF]) .sets 7 := by
  unfold WriteReady
  decide +kernel

theorem test_setting_clamped :
    (after .writeSets (written 0x60 0 [15, 0])).sets.presentationDelay = 16
    ∧ lastAnswer (after .writeSets (written 0x60 0 [15, 0])) = [0x01, 0, 0, 0] := by decide +kernel

/-- A READ of some entries. -/
def readCell (table first count : Nat) : Cell := cell .read [table, first % 256, first / 256, count]

theorem witness_ReadsBegin :
    (withHead stage (readCell 0x31 0x1FE 2)).request = some (readCell 0x31 0x1FE 2)
    ∧ (readCell 0x31 0x1FE 2).kind? = some .read ∧ (readCell 0x31 0x1FE 2).table? = some .send
    ∧ (Table.send.stageOnly = true → stage.isStage = true) ∧ 1 ≤ (readCell 0x31 0x1FE 2).count
    ∧ (readCell 0x31 0x1FE 2).first + (readCell 0x31 0x1FE 2).count ≤ Table.send.entries
    ∧ (readCell 0x31 0x1FE 2).length = 4
    ∧ (withHead desk (readCell 0x02 1 1)).request = some (readCell 0x02 1 1) ∧ (readCell 0x02 1 1).table? = some .ports
    ∧ (readCell 0x02 1 1).first + (readCell 0x02 1 1).count ≤ Table.ports.entries
    ∧ (withHead desk (readCell 0x70 0 1)).request = some (readCell 0x70 0 1) ∧ (readCell 0x70 0 1).table? = some .count
    ∧ (withHead desk (readCell 0x01 0 1)).request = some (readCell 0x01 0 1) ∧ (readCell 0x01 0 1).table? = some .node := by
  decide +kernel

/-- A port with deltas, read. -/
theorem test_ports_read_clears_deltas :
    (after .readTable (withHead (after (.lightDetected .w) stage) (readCell 0x02 1 1))).portW.deltas = .clear
    ∧ ((after .readTable (withHead (after (.lightDetected .w) stage) (readCell 0x02 1 1))).service.outbound.getLast?.map
        fun c => c.payload.toList.take 7) = some [0x02, 1, 0, 1, 0, 0x11, 0] := by decide +kernel

/-- A READ of 20 track entries after its first DATA cell, and after its second. -/
def readingOn : State := after .readTable (withHead stage (readCell 0x22 0 20))
def readAll : State := after .dataCellNext readingOn

theorem witness_ReadsGoOnAndEnd :
    readingOn.service.work = [readCell 0x22 0 20] ∧ readingOn.service.reading = some ⟨12, 8, 1, []⟩
    ∧ (readCell 0x22 0 20).table? = some .track ∧ readingOn.answerRoom (readCell 0x22 0 20) = true
    ∧ readAll.service.work = [readCell 0x22 0 20] ∧ readAll.service.reading = some ⟨20, 0, 2, []⟩
    ∧ readAll.answerRoom (readCell 0x22 0 20) = true := by decide +kernel

/-- A READ of COUNT after its first segment, and one of both ports after one record of E. -/
theorem witness_ReadsGoOnAndEnd_segments :
    let s := after .readTable (withHead stage (readCell 0x70 0 1))
    let u := (withHead stage (readCell 0x02 0 2)).setService
      { (withHead stage (readCell 0x02 0 2)).service with reading := some ⟨1, 1, 1, []⟩ }
    s.service.reading = some ⟨1, 2, 1, s.countRecord⟩ ∧ s.service.work = [readCell 0x70 0 1]
    ∧ s.answerRoom (readCell 0x70 0 1) = true ∧ (readCell 0x70 0 1).table? = some .count
    ∧ u.service.work = [readCell 0x02 0 2] ∧ u.answerRoom (readCell 0x02 0 2) = true
    ∧ (readCell 0x02 0 2).table? = some .ports ∧ 1 ≤ sideCode .w ∧ sideCode .w < 1 + min (12 / Table.ports.size) 1 := by
  decide +kernel

/-- The third segment of COUNT is marked 2 and holds the last four bytes (R98, R187). -/
theorem test_count_segments :
    let t := after .dataCellNext (after .dataCellNext (after .readTable
      ((withHead stage (readCell 0x70 0 1)).bump .patternConcealed)))
    (t.service.outbound.getLast?.map fun c => c.payload.toList.take 8) = some [0x70, 0, 0, 0x82, 0, 0, 1, 0]
    ∧ t.service.reading.map Reading.left = some 0 := by decide +kernel

theorem test_read_ends : (after .readDoneAnswer readAll).service.work = []
    ∧ lastAnswer (after .readDoneAnswer readAll) = [0, 0, 2, 0] := by decide +kernel

/-! ### Actions -/

/-- Apply superframes 0, 1, 32767, 32768 and 32769 against superframe 0. -/
theorem witness_BanksCopiedAndSwapped :
    ActReady (asked [0x01]) (cell .act [0x01]) 0x01 0 ∧ ActReady (asked [0x02, 1, 0]) (cell .act [0x02, 1, 0]) 0x02 2
    ∧ ActReady (asked [0x02, 1, 0x80]) (cell .act [0x02, 1, 0x80]) 0x02 2
    ∧ ActReady (asked [0x02, 0xFF, 0x7F]) (cell .act [0x02, 0xFF, 0x7F]) 0x02 2
    ∧ ActReady (asked [0x02, 0, 0x80]) (cell .act [0x02, 0, 0x80]) 0x02 2
    ∧ ActReady (asked [0x02, 0, 0]) (cell .act [0x02, 0, 0]) 0x02 2
    ∧ (asked [0x02, 1, 0]).plan.swap = none ∧ (asked [0x02, 1, 0]).timing.superframe = 0
    ∧ ActReady ((asked [0x02, 1, 0]).setPlan { stage.plan with swap := some 9 }) (cell .act [0x02, 1, 0]) 0x02 2 := by
  unfold ActReady
  decide +kernel

theorem test_swap_taken_and_late :
    (after .swapBank (asked [0x02, 1, 0])).plan.swap = some 1
    ∧ (after .swapBank (asked [0x02, 0xFF, 0x7F])).plan.swap = some 32767
    ∧ lastAnswer (after .swapBank (asked [0x02, 0, 0x80])) = [0x11, 0, 0, 0]
    ∧ lastAnswer (after .swapBank (asked [0x02, 0, 0])) = [0x11, 0, 0, 0] := by decide +kernel

theorem test_bank_copied :
    (after .copyBank ((asked [0x01]).setPlan { stage.plan with slotA := stage.plan.slotA.put 5 ⟨some 2, .pattern⟩ })).plan.slotB.get 5
      = ⟨some 2, .pattern⟩ := by decide +kernel

/-- Port W INTERNAL at an ISOLATED node, at a span that is FAILED, and at neither. -/
theorem witness_LoopsTaken :
    ActReady (asked [0x03, 1, 1]) (cell .act [0x03, 1, 1]) 0x03 2 ∧ ActReady (asked [0x03, 1, 3]) (cell .act [0x03, 1, 3]) 0x03 2
    ∧ ActReady (asked [0x03, 2, 0]) (cell .act [0x03, 2, 0]) 0x03 2
    ∧ (cell .act [0x03, 1, 1]).arg 1 = sideCode .w ∧ (cell .act [0x03, 1, 1]).arg 2 = LoopMode.internal.code
    ∧ ((asked [0x03, 1, 1]).span .w).state ≠ .failed ∧ (asked [0x03, 1, 1]).ring.state ≠ .isolated
    ∧ (((asked [0x03, 1, 1]).setSpan .w { Span.afterReset with state := .failed }).span .w).state = .failed
    ∧ ((asked [0x03, 1, 1]).setRing { stage.ring with state := .isolated }).ring.state = .isolated
    ∧ ((asked [0x03, 1, 1]).port .w).loop = .off := by
  unfold ActReady
  decide +kernel

theorem test_internal_loop_lights :
    (after .loop ((asked [0x03, 1, 1]).setSpan .w { Span.afterReset with state := .failed })).portW.flags
      = ⟨true, false, false, false⟩ := by decide +kernel

theorem test_loop_in_service : lastAnswer (after .loop (asked [0x03, 1, 2])) = [0x12, 0, 0, 0] := by decide +kernel

theorem witness_CheckerAndCountersCommanded :
    ActReady (asked [0x04, 127, 1]) (cell .act [0x04, 127, 1]) 0x04 2
    ∧ ActReady (asked [0x04, 128, 1]) (cell .act [0x04, 128, 1]) 0x04 2
    ∧ ActReady (asked [0x04, 128, 0]) (cell .act [0x04, 128, 0]) 0x04 2 ∧ ActReady (asked [0x05]) (cell .act [0x05]) 0x05 0
    ∧ ActReady (withHead desk { cell .act [0x05] with dest := 1 }) { cell .act [0x05] with dest := 1 } 0x05 0
    ∧ (cell .act [0x04, 127, 1]).arg 1 = 127 ∧ (cell .act [0x04, 128, 1]).arg 2 = 1
    ∧ (inFrame stage 5 47).timing.running = true ∧ (inFrame stage 5 47).timing.frameOwed = false
    ∧ (inFrame stage 5 47).timing.frame = 47 ∧ stage.timing.frameOwed = true ∧ State.reset.timing.running = false := by
  unfold ActReady
  decide +kernel

/-- A checker turned on between the two halves of a boundary counts nothing in that frame 0 (R21). -/
theorem test_checker_on :
    let s := after (.superframeBoundary (.fill 8 false)) (inFrame (asked [0x04, 127, 1]) 5 47)
    let t := after .patternCheck s
    let u := after (.localFrameBoundary (.fill 64 0)) t
    s.timing.frameOwed = true ∧ t.checker = ⟨true, 127, none⟩ ∧ u.timing.frame = 0 ∧ u.counters = t.counters
    ∧ (after (.localFrameBoundary (.fill 64 0)) u).checker = ⟨true, 127, some 127⟩
    ∧ (after (.localFrameBoundary (.fill 64 0)) u).counter .patternConcealed = 1 := by decide +kernel

theorem test_counters_cleared :
    (after .clearCounters ((asked [0x05]).bump .cellErrors)).counter .cellErrors = 0 := by decide +kernel

/-- Node 1 claims inputs 62 to 63, the first of them HELD by node 0. -/
def claiming (args : List Nat) : State :=
  (asked args).setEntry 62 { PreampEntry.afterReset with owner := some 0 }

theorem witness_ClaimsGranted :
    ActReady (claiming [0x10, 62, 63]) (cell .act [0x10, 62, 63]) 0x10 2 ∧ (claiming [0x10, 62, 63]).isStage = true
    ∧ ActReady (claiming [0x10, 63, 64]) (cell .act [0x10, 63, 64]) 0x10 2
    ∧ ActReady (claiming [0x10, 62, 62]) (cell .act [0x10, 62, 62]) 0x10 2
    ∧ ActReady (claiming [0x10, 63, 63]) (cell .act [0x10, 63, 63]) 0x10 2
    ∧ ActReady (withHead stage (cell .act [0x10, 0, 0])) (cell .act [0x10, 0, 0]) 0x10 2
    ∧ (claiming [0x10, 62, 63]).isReachableDesk 1 = true ∧ stage.isReachableDesk 1 = false
    ∧ ((claiming [0x10, 62, 63]).entry 62).owner = some 0 ∧ ((claiming [0x10, 62, 63]).entry 62).ownerState ≠ .orphaned
    ∧ ((claiming [0x10, 62, 63]).entry 63).owner = none := by
  unfold ActReady
  decide +kernel

theorem test_claim_in_part :
    ((after .claim (claiming [0x10, 62, 63])).entry 63).owner = some 1
    ∧ ((after .claim (claiming [0x10, 62, 63])).entry 62).owner = some 0
    ∧ lastAnswer (after .claim (claiming [0x10, 62, 63])) = [0x02, 0, 0, 0] := by decide +kernel

theorem witness_ReleasesGiveUpOwnership :
    let s := (asked [0x11, 62, 63]).setEntry 62 { PreampEntry.afterReset with owner := some 1, ownerState := .grace, grace := 5 }
    ActReady s (cell .act [0x11, 62, 63]) 0x11 2 ∧ s.isStage = true ∧ s.isReachableDesk 1 = true
    ∧ (s.entry 62).owner = some 1 ∧ (s.entry 63).owner ≠ some 1 := by
  unfold ActReady
  decide +kernel

theorem test_release :
    let s := (asked [0x11, 62, 63]).setEntry 62 { PreampEntry.afterReset with owner := some 1, ownerState := .grace, grace := 5 }
    ((after .release s).entry 62).owner = none ∧ lastAnswer (after .release s) = [0, 0, 1, 0] := by decide +kernel

/-- Node 1 holds input 63; the target is 41 steps, clamped to 40. -/
def raising (pending : Option PendingChange) : State :=
  (asked [0x12, 63, 41, 0, 1]).setEntry 63 { PreampEntry.afterReset with owner := some 1, pending := pending }

theorem witness_GainRequestsTaken :
    (let s := raising none;
      ActReady s (cell .act [0x12, 63, 41, 0, 1]) 0x12 4 ∧ s.isStage = true ∧ 63 / 16 < s.image.optn.converters
      ∧ (s.entry 63).owner = some 1 ∧ (s.entry 63).ownerState = .held ∧ (s.entry 63).pending = none
      ∧ s.service.stepQueue.length ≤ 29 ∧ s.preamp.queue.length < 16)
    ∧ ActReady (raising (some ⟨⟨2, false, false⟩, 2, 9, 0⟩)) (cell .act [0x12, 63, 41, 0, 1]) 0x12 4
    ∧ ((raising (some ⟨⟨2, false, false⟩, 2, 9, 0⟩)).entry 63).pending ≠ none
    ∧ ActReady (asked [0x12, 0, 0, 1, 0]) (cell .act [0x12, 0, 0, 1, 0]) 0x12 4
    ∧ ((asked [0x12, 0, 0, 1, 0]).entry 0).owner ≠ some 1 := by
  unfold ActReady
  decide +kernel

theorem test_gain_pending :
    ((after .setPreamp (raising none)).entry 63).pending = some ⟨⟨40, false, true⟩, 40, 4, 1⟩
    ∧ (after .setPreamp (raising none)).preamp.queue = [⟨3, 15, ⟨40, false, true⟩, 4⟩] := by decide +kernel

theorem test_gain_waits :
    ((after .setPreamp (raising (some ⟨⟨2, false, false⟩, 2, 9, 0⟩))).entry 63).next = some ⟨⟨40, false, true⟩, 1⟩ := by
  decide +kernel

/-- Bus 15 with a send at 0 and one above. -/
def removing (args : List Nat) : State :=
  (asked args).setBus 15 { Bus.afterReset with sends := [⟨.localIn 1, 9, 0, false⟩, ⟨.ring 2, 9, 1, false⟩] }

theorem witness_SendsRemoved :
    ActReady (removing [0x20, 15, 0]) (cell .act [0x20, 15, 0]) 0x20 2 ∧ (removing [0x20, 15, 0]).isStage = true
    ∧ ActReady (removing [0x20, 15, 1]) (cell .act [0x20, 15, 1]) 0x20 2
    ∧ ActReady (removing [0x20, 15, 2]) (cell .act [0x20, 15, 2]) 0x20 2
    ∧ ActReady (removing [0x20, 16, 0]) (cell .act [0x20, 16, 0]) 0x20 2
    ∧ ((removing [0x20, 15, 0]).bus 15).sends[0]? = some ⟨.localIn 1, 9, 0, false⟩
    ∧ ((removing [0x20, 15, 1]).bus 15).sends[1]? = some ⟨.ring 2, 9, 1, false⟩ := by
  unfold ActReady
  decide +kernel

theorem test_send_removed_and_drained :
    ((after .removeSend (removing [0x20, 15, 0])).bus 15).sends = [⟨.ring 2, 9, 1, false⟩]
    ∧ ((after .removeSend (removing [0x20, 15, 1])).bus 15).sends
        = [⟨.localIn 1, 9, 0, false⟩, ⟨.ring 2, 0, 1, true⟩] := by decide +kernel

/-- A talk action on the sources of `talking`, with this row for class 2. -/
def talked (args : List Nat) (row : TalkRow) : State :=
  withHead (talking.setTalk { talking.talk with register := talking.talk.register.put 2 row }) (cell .act args)

theorem witness_TalkPressesAndReleases :
    ActReady (talked [0x30, 7] .empty) (cell .act [0x30, 7]) 0x30 1 ∧ (talked [0x30, 7] .empty).isStage = true
    ∧ (cell .act [0x30, 7]).arg 1 = (7 : Fin 8).val ∧ ((talked [0x30, 7] .empty).talkSource 7).cls < 4
    ∧ ((talked [0x30, 7] .empty).talkSource 7).audio = .localIn 8 ∧ ((talked [0x30, 7] .empty).talkSource 7).enabled = true
    ∧ ActReady (talked [0x30, 7] ⟨some 3, some 5, none⟩) (cell .act [0x30, 7]) 0x30 1
    ∧ ((talked [0x30, 7] ⟨some 3, some 5, none⟩).rowOf 7).holding = some 5
    ∧ ActReady (talked [0x31, 7] ⟨some 7, some 5, none⟩) (cell .act [0x31, 7]) 0x31 1
    ∧ ActReady (talked [0x31, 7] ⟨some 3, some 7, none⟩) (cell .act [0x31, 7]) 0x31 1
    ∧ ActReady (talked [0x31, 7] .empty) (cell .act [0x31, 7]) 0x31 1
    ∧ ActReady (withHead stage (cell .act [0x30, 7])) (cell .act [0x30, 7]) 0x30 1 ∧ (stage.talkSource 7).enabled = false := by
  unfold ActReady
  decide +kernel

/-- A ring source whose slot is STALE, and one whose slot is GOOD; a source that holds; a source 8. -/
theorem witness_TalkPressesAndReleases_ring :
    let s := ringing (talked [0x30, 7] .empty) 7
    ActReady s (cell .act [0x30, 7]) 0x30 1 ∧ (s.talkSource 7).audio = .ring 9 ∧ (s.present.slots.get 9).state = .stale
    ∧ ((s.setPresent { s.present with slots := s.present.slots.put 9 ⟨.good, 5, []⟩ }).present.slots.get 9).state ≠ .stale
    ∧ ActReady (talked [0x30, 7] ⟨some 3, some 7, none⟩) (cell .act [0x30, 7]) 0x30 1
    ∧ ActReady (talked [0x30, 8] .empty) (cell .act [0x30, 8]) 0x30 1 ∧ 7 < (cell .act [0x30, 8]).arg 1
    ∧ ActReady (talked [0x31, 8] .empty) (cell .act [0x31, 8]) 0x31 1 := by
  unfold ActReady
  decide +kernel

/-- NOT_ACTIVE while the slot is STALE, in service once it is not, and DONE for a source that holds already (R158). -/
theorem test_ring_source_pressed :
    let s := ringing (talked [0x30, 7] .empty) 7
    lastAnswer (after .talkPress s) = [0x43, 0, 0, 0]
    ∧ (after .talkPress (s.setPresent { s.present with slots := s.present.slots.put 9 ⟨.good, 5, []⟩ })).talkRow 2
        = ⟨some 7, none, none⟩
    ∧ lastAnswer (after .talkPress (talked [0x30, 7] ⟨some 3, some 7, none⟩)) = [0, 0, 1, 0] := by decide +kernel

theorem test_press_refused :
    let t := after .talkPress (talked [0x30, 7] ⟨some 3, some 5, none⟩)
    t.counter .talkRefusals = 1 ∧ lastAnswer t = [0x41, 0, 2, 3] := by decide +kernel

theorem test_release_promotes :
    (after .talkRelease (talked [0x31, 7] ⟨some 7, some 5, none⟩)).talkRow 2 = ⟨some 5, none, none⟩ := by decide +kernel

/-- The main stage box with a STEP cell of one record from the other stage box: input 63, Δ, apply superframe 1. -/
def stepped (delta exempt : Nat) : State :=
  withHead (knowing stage 3 .stage) { cell .step [1, 63, delta, 1, 0, exempt] with origin := 3, originConsole := false }

theorem witness_StepCellsTaken :
    let s := stepped 200 0
    let c : Cell := { cell .step [1, 63, 200, 1, 0, 0] with origin := 3, originConsole := false }
    s.service.work = [c] ∧ c.kind? = some .step ∧ (s.reachOf c.origin).role = some .stage
    ∧ (s.reachOf c.origin).state ≠ .unknown ∧ c.arg 0 = 1 ∧ c.arg 1 ≤ 63
    ∧ (byteAt c.payload.toList 2).toInt = -56 ∧ c.arg 5 ≠ s.party
    ∧ gfDistance s.present.lastCapture (c.arg16 3 * 48) = 48 ∧ s.tracking.schedule.length < 32
    ∧ ({ cell .step [1, 63, 200, 1, 0, 1] with origin := 3, originConsole := false } : Cell).arg 5 = (stepped 200 1).party := by
  decide +kernel

/-- The same record, 48 frames ahead, with the schedule full, its frame already presented, its frame 233 ahead, and cut off
by its Length. -/
theorem witness_StepCellsTaken_late :
    (let p := (stepped 200 0).present.lastCapture; p = 0) ∧ gfDistance 0 48 = 48
    ∧ (48 + 3145728 - 1 * 48 % 3145728) % 3145728 < 1572864
    ∧ 232 < gfDistance 0 (5 * 48) ∧ ¬ (0 + 3145728 - 5 * 48 % 3145728) % 3145728 < 1572864
    ∧ 6 ≤ (cell .step [1, 63, 200, 1, 0, 0]).length ∧ (cell .step [1, 63, 200, 1, 0]).length < 6 := by decide +kernel

/-- A compensation on time is scheduled (R130); a late one goes in at once, is counted and reported by stage and input (R129,
R133). -/
theorem test_step_scheduled_or_late :
    let s := (stepped 200 0).setPresent { stage.present with lastCapture := 48 }
    let t := after .step s
    (after .step (stepped 200 0)).tracking.schedule = [⟨3, 63, 224, 1⟩] ∧ t.tracking.table.get 255 = 127 ∧ t.tracking.schedule = [] ∧ t.counter .lateCompensations = 1
    ∧ t.notices.getLast? = some ⟨.stepLate, 255, [0, 224, 0, 1, 0, 48, 0, 0], 1⟩ := by decide +kernel

/-- A record that exempts this party changes no level (R129), and neither does one beyond the Length (R183). -/
theorem test_step_exempt_or_cut_off :
    (after .step (stepped 200 1)).tracking = stage.tracking
    ∧ (after .step (withHead (knowing stage 3 .stage)
      { cell .step [1, 63, 200, 1, 0, 0] with origin := 3, originConsole := false, length := 5 })).tracking = stage.tracking := by
  decide +kernel

/-! ### Image, report, restart, notices -/

/-- A desk with a STORE at its head, so that the area is small. -/
def storing (args : List Nat) (protect : Bool) : State :=
  let s := withHead desk { cell .act args with dest := 1 }
  s.setStraps ⟨1, .desk, protect⟩

def storeCell (args : List Nat) : Cell := { cell .act args with dest := 1 }

theorem witness_ImagesStored :
    ActReady (storing [0x40, 1, 1, 5, 15] false) (storeCell [0x40, 1, 1, 5, 15]) 0x40 4
    ∧ (storeCell [0x40, 1, 1, 5, 15]).arg 1 ≤ 1 ∧ (storeCell [0x40, 1, 1, 5, 15]).arg 2 ≤ 1
    ∧ ActReady (storing [0x40, 0, 0, 0, 0] false) (storeCell [0x40, 0, 0, 0, 0]) 0x40 4
    ∧ ActReady (storing [0x40, 1, 1, 5, 15] true) (storeCell [0x40, 1, 1, 5, 15]) 0x40 4
    ∧ (storing [0x40, 1, 1, 5, 15] false).image.loader = .idle
    ∧ (after .store (storing [0x40, 1, 1, 5, 15] false)).image.loader = .storing
    ∧ ActReady (withHead ((storing [] false).setImage { desk.image with loader := .storing }) (storeCell [0x40, 0, 0, 0, 0]))
      (storeCell [0x40, 0, 0, 0, 0]) 0x40 4 := by
  unfold ActReady
  decide +kernel

/-- The protect strap with an OPTN chunk in the retained image, and with a retained image that has none. -/
theorem witness_ImagesStored_protected :
    chunk (chunksOf (chunkBytes .optn [1, 2, 50])) .optn = some [1, 2, 50] ∧ chunk (chunksOf []) .optn = none
    ∧ desk.image.retained = none ∧ (storing [0x40, 0, 0, 0, 0] true).straps.protect = true := by decide +kernel

/-- The retained OPTN goes into the buffer unchanged, else the values of the last hard reset (R180). -/
theorem test_store_protected :
    let s := storing [0x40, 1, 1, 5, 15] true
    ((after .store (s.setImage { s.image with retained := some (chunkBytes .optn [1, 2, 50]) })).image.buffer.drop 17).take 3
      = [1, 2, 50]
    ∧ ((after .store s).image.buffer.drop 17).take 3 = [0, 4, 24] := by decide +kernel

theorem test_store_clamps_optn :
    ((after .store (storing [0x40, 1, 1, 5, 15] false)).image.buffer.drop 11 |>.take 9) = [0x4F, 0x50, 0x54, 0x4E, 3, 0, 1, 4, 16] := by
  decide +kernel

theorem test_store_writes_the_header :
    (after .store (storing [0x40, 0, 0, 0, 0] false)).image.buffer.take 5 = [0x4F, 0x4C, 0x54, 0x49, 1] := by decide +kernel

/-- A desk that is STORING an image of a small area. -/
def writing (area : List Byte) : State := desk.setImage { desk.image with loader := .storing, buffer := imageBytes area }

theorem witness_ImagesStored_end :
    (writing [1, 2, 3]).image.loader = .storing ∧ (writing [1, 2, 3]).image.buffer = imageHeader [1, 2, 3] ++ [1, 2, 3]
    ∧ (imageHeader [1, 2, 3]).length = 11 ∧ (imageHeader [1, 2, 3]).drop 7 = crc32Bytes [1, 2, 3]
    ∧ [1, 2, 3].length + 11 ≤ (imageBytes [1, 2, 3]).length ∧ desk.image.loader ≠ .storing := by decide +kernel

/-- The image read back as written is retained; one that differs, or a memory that fails, leaves none (R180). -/
theorem test_store_ends :
    (after (.storeComplete (some (imageBytes [1, 2, 3]))) (writing [1, 2, 3])).image.retained = some [1, 2, 3]
    ∧ (after (.storeComplete (some (imageBytes [1, 9, 3]))) (writing [1, 2, 3])).image.retained = none
    ∧ (after (.storeComplete none) (writing [1, 2, 3])).image.retained = none
    ∧ (after (.storeComplete none) (writing [1, 2, 3])).image.loader = .idle := by decide +kernel

/-- A report in mid-stream: 20 bytes in the buffer, 13 sent, and all sent. -/
def reporting (offset : Nat) : State :=
  stage.setImage { stage.image with loader := .reporting ⟨offset, offset / 13, 1, true, 7⟩, buffer := List.replicate 20 1 }

theorem witness_ReportsStreamed :
    (asked [0x41]).request = some (cell .act [0x41]) ∧ (cell .act [0x41]).acts 0x41 = true ∧ 1 ≤ (cell .act [0x41]).length
    ∧ (asked [0x41]).isStage = true ∧ (asked [0x41]).image.loader = .idle
    ∧ (reporting 13).image.loader = .reporting ⟨13, 1, 1, true, 7⟩ ∧ (reporting 13).service.outbound.length < 16
    ∧ 13 < (reporting 13).image.buffer.length ∧ (reporting 20).image.buffer.length ≤ 20 := by decide +kernel

theorem test_report_begins :
    (after .report (asked [0x41])).image.buffer.take 12 = [0x4E, 0x4F, 0x44, 0x45, 6, 0, 2, 0, 1, 2, 0, 0] := by decide +kernel

theorem test_report_fragment_and_end :
    lastAnswer (after .reportFragment (reporting 13)) = [13, 0, 7, 1]
    ∧ lastAnswer (after .reportDone (reporting 20)) = [0, 0, 20, 0]
    ∧ (after .reportDone (reporting 20)).image.loader = .idle := by decide +kernel

theorem witness_RestartKeepsTheRing :
    ActReady (asked [0x42]) (cell .act [0x42]) 0x42 0 ∧ (asked [0x42]).image.loader ≠ .storing ∧ (asked [0x42]).isStage = true
    ∧ ActReady ((asked [0x42]).setImage { stage.image with loader := .storing }) (cell .act [0x42]) 0x42 0 := by
  unfold ActReady
  decide +kernel

/-- A retained image with one entry of each kind of chunk, a bad slot entry among two, and a send to a bus that is not there. -/
def retaining : State :=
  let area := chunkBytes .slta [3, 0, 63, 4, 0, 0] ++ chunkBytes .drpb [1, 15] ++ chunkBytes .dtrm [64]
    ++ chunkBytes .pamp [41, 3] ++ chunkBytes .strm [128] ++ chunkBytes .buss [192, 1, 65, 16]
    ++ chunkBytes .send [0, 0, 1, 192, 16, 0, 1, 192, 0, 0, 1, 9] ++ chunkBytes .talk [0x84, 1, 127, 8, 0, 0x87]
    ++ chunkBytes .line [2, 7] ++ chunkBytes .sets [50, 0]
  (asked [0x42]).setImage { stage.image with retained := some area }

theorem witness_RestartKeepsTheRing_tables :
    ActReady retaining (cell .act [0x42]) 0x42 0 ∧ storedEntry retaining .slta 3 0 = some [3, 0, 63]
    ∧ storedEntry retaining .slta 3 1 = some [4, 0, 0] ∧ storedEntry retaining .sltb 3 0 = none
    ∧ SlotEntry.record ⟨some 3, .localIn 63⟩ = [3, 0, 63] ∧ DropSource.record (.bus 15) = [1, 15]
    ∧ LineFunction.bytes (.tally 7) = [2, 7] ∧ AudioSource.bytes (.ring 127) = [1, 127] ∧ retaining.ring.state ≠ .dark := by
  unfold ActReady
  decide +kernel

/-- The tables after a RESTART hold what the retained image holds, and their reset values elsewhere (R182). -/
theorem test_restart_reloads :
    let t := after .restart retaining
    [0, 1, 2].map t.plan.slotA.get = [⟨some 3, .localIn 63⟩, ⟨none, .silent⟩, ⟨none, .silent⟩]
    ∧ t.plan.dropB.get 0 = .bus 15 ∧ t.plan.dtrim.get 0 = 63 ∧ (t.entry 0).gain = ⟨40, true, false⟩
    ∧ t.tracking.strim.get 0 = -128 ∧ t.bus 0 = ⟨192, 0, 1, 64, 0, 15, 0, 0, [⟨.localIn 1, 192, 0, false⟩], false, none⟩
    ∧ t.talkSource 0 = ⟨true, 3, .ring 127, 8, some 7⟩ ∧ t.line 0 = ⟨.tally 7, false, 0, none, some false⟩
    ∧ t.sets = ⟨40, 1, 500, 2000, 0, 1, 0, 8191⟩ := by decide +kernel

theorem test_restart :
    let t := after .restart (claiming [0x42])
    t.notices = [⟨.restarted, 2, [1], 1⟩] ∧ (t.entry 62).owner = none ∧ lastAnswer t = [0, 0, 0, 0]
    ∧ t.preamp.reload.length = 64 ∧ t.preamp.reload.getLast? = some ⟨3, 15, ⟨0, false, false⟩, 4⟩ := by decide +kernel

/-- A queue of 16 notices of class 1 and one of class 0 among them. -/
def crowded : State :=
  stage.setNotices (⟨.clip, 0, [], 1⟩ :: (List.range 15).map fun i => ⟨.owner, i, [], 1⟩)

theorem witness_NoticesRaisedAndSent :
    stage.noticeEnabled .port = true ∧ (∃ n ∈ crowded.notices, n.kind = .owner ∧ n.subject = 14)
    ∧ 16 ≤ crowded.notices.length ∧ (∃ n ∈ crowded.notices, n.kind.cls < NoticeKind.owner.cls)
    ∧ (∀ n ∈ crowded.notices, NoticeKind.clip.cls ≤ n.kind.cls) ∧ stage.notices.length < 16
    ∧ (stage.setSets { stage.sets with noticeMask := 0 }).noticeEnabled .port = false
    ∧ stage.notices = [⟨.image, 2, [2, 0], 1⟩] ++ ⟨.ring, 2, [1, 0, 0, 0, 0], 1⟩ :: []
    ∧ (knowing stage 0 .desk).sets.noticeTarget = (0 : NodeId).val ∧ (knowing stage 0 .desk).isReachableDesk 0 = true
    ∧ (let s := booted 0 .desk; s.isDesk = true ∧ s.sets.noticeTarget = s.id.val ∧ s.ring.state ≠ .dark
        ∧ s.service.console.length < 16 ∧ s.notices = [⟨.image, 0, [2, 0], 1⟩] ++ ⟨.ring, 0, [1, 0, 0, 0, 0], 1⟩ :: []) := by
  decide +kernel

theorem test_notice_evicts :
    let t := crowded.intake ⟨.owner, 15, []⟩
    t.notices.length = 16 ∧ t.counter .noticesLost = 1 ∧ t.notices.all (fun n => n.kind == .owner) = true := by
  decide +kernel

/-- A waiting PORT notice keeps its deltas (R14, R170), and one event's notices enter in order of subject (R169). -/
theorem test_notices_merged_and_ordered :
    ((stage.setNotices [⟨.port, 1, [0x41], 1⟩]).intake ⟨.port, 1, [0x32]⟩).notices = [⟨.port, 1, [0x72], 2⟩]
    ∧ ((stage.setNotices []).event fun s => (s.raise .owner 9 [1]).raise .owner 4 [2]).notices
        = [⟨.owner, 4, [2], 1⟩, ⟨.owner, 9, [1], 1⟩] := by decide +kernel

theorem test_notice_sent :
    lastAnswer (after .noticeSend (knowing stage 0 .desk)) = [2, 3, 2, 1] := by decide +kernel

/-! ### Steps -/

/-- A step from the reset state with a command in its queue runs that command. -/
theorem test_step_runs_the_front :
    step (State.reset.setPending [.noticeSend, .loop]) = .next (State.reset.setPending [.loop]) := rfl

/-- The reset state with the image load waiting, whose step answers a next state. -/
def waiting : State := State.reset.setPending [.imageLoadComplete none]

theorem witness_NoticeLawKept : NoticeLaw waiting := by unfold NoticeLaw; decide +kernel

theorem witness_TalkLawKept : TalkLaw waiting := by unfold TalkLaw InRow; decide +kernel

theorem witness_ListsAndQueuesKept : SendLaw waiting ∧ RankLaw waiting ∧ QueueLaw waiting ∧ FiledLaw waiting :=
  ⟨by unfold SendLaw; decide +kernel, by unfold RankLaw; decide +kernel, by unfold QueueLaw; decide +kernel,
    by unfold FiledLaw; decide +kernel⟩

theorem witness_NumbersPortsAndSpansKept : NumberLaw waiting ∧ PortLaw waiting ∧ SpanLaw waiting :=
  ⟨by unfold NumberLaw; decide +kernel, by unfold PortLaw Port.flagLaw; decide +kernel,
    by unfold SpanLaw Span.law; decide +kernel⟩

theorem witness_step_answers_next : ∃ t, step waiting = .next t := ⟨_, rfl⟩

/-- The law of the pending changes holds with a pending change at 4 steps from the applied ones. -/
theorem witness_LevelsHeldAcrossGainChanges : DeltaLaw (changing 4 24) := by
  have h : ∀ n, n < 64 → ((changing 4 24).entry n).pending.all (fun c =>
      c.delta == c.target.effective - ((changing 4 24).entry n).gain.effective) = true := by decide +kernel
  intro n hn c hc
  have e := h n hn
  rw [hc] at e
  simpa using e

/-- Rounding at the largest gain code, and a frame number on either side of the bound. -/
theorem witness_bounds :
    (255 : Nat) ≤ 255 ∧ pressCell.length < 256 ∧ (marker 65535).header.superframe < 65536 ∧ (marker 5).header.frame ≤ 47
    ∧ (Frame.withHeader (marker 5) { (marker 5).header with frame := 47 }).header.frame ≤ 47
    ∧ 48 ≤ (Frame.withHeader (marker 5) { (marker 5).header with frame := 48 }).header.frame := by decide +kernel

theorem test_frame_48_is_bad :
    judgeFrame (Frame.withHeader (marker 5) { (marker 5).header with frame := 48 }).bytes = none
    ∧ (judgeFrame (Frame.withHeader (marker 5) { (marker 5).header with frame := 47 }).bytes).isSome = true := by decide +kernel

end Sys2Proof.Tests
end

section
/-! What a command touches, so that it keeps every law that speaks only of groups it leaves alone. -/

namespace Sys2Proof.Machine

variable {l : List Group} {s t : State}

/-! ### What a command touches -/

/-- A LOOP cell touches what a change of the loop mode touches, whatever side and mode it names. -/
theorem OnlyIn.loopAct (a b : Nat) (h : [.portE, .portW, .ring, .present, .lines, .notices, .counters] ⊆ l) :
    OnlyIn l s (match sideOf a, loopOf b with
      | some p, some m => t.setLoop p m
      | _, _ => t.refuse .badIndex []).1 ↔ OnlyIn l s t := by
  split
  · exact OnlyIn.setLoop _ _ h
  · rfl

/-- A WRITE whose entries are all refused touches the service queues alone. -/
theorem OnlyIn.refusedWrites (h : Group.service ∈ l) :
    OnlyIn l s (t.runHead Cell.otherWrite (writeAct fun _ _ _ s => (s, .refused .badIndex))) ↔ OnlyIn l s t := by
  refine OnlyIn.runHead _ _ h fun c u => ?_
  unfold writeAct
  dsimp only
  (repeat' split) <;> first | rfl | exact OnlyIn.writeAll _ (fun _ _ _ => Iff.rfl) _ _

/-- An event on the state itself touches what its doings touch, and the notice queue. -/
theorem OnlyIn.event_self {f : State → State} (h : [.notices, .counters] ⊆ l) (hf : ∀ u, OnlyIn l s (f u) ↔ OnlyIn l s u) :
    OnlyIn l s (s.event f) := (OnlyIn.event f hf h).mpr OnlyIn.refl

/-- Every command answers a next state, which differs from the state before in the groups of its footprint alone. -/
theorem exec_onlyIn_touches (c : Instr) (s : State) : ∃ t, exec c s = .next t ∧ OnlyIn (touches c) s t := by
  cases c
  case hardReset => exact ⟨_, rfl, fun g hg => by cases g <;> simp [touches] at hg; rfl⟩
  case trackingApply =>
    refine ⟨_, rfl, ?_⟩
    simp only [touches]
    split <;> simp
  case writeTable => exact ⟨_, rfl, (OnlyIn.refusedWrites (by simp [touches])).mpr OnlyIn.refl⟩
  case loop =>
    exact ⟨_, rfl, OnlyIn.event_self (by simp [touches]) fun u =>
      OnlyIn.runAct _ _ _ _ (by simp [touches]) fun c t => OnlyIn.loopAct _ _ (by simp [touches])⟩
  case writeTalksrc | writeLines | claim | release | talkPress | talkRelease | restart =>
    exact ⟨_, rfl, OnlyIn.event_self (by simp [touches]) fun u => by simp [touches, OnlyIn.runAct, OnlyIn.runWrite]⟩
  all_goals
    refine ⟨_, rfl, ?_⟩
    simp [touches, OnlyIn.runAct, OnlyIn.runWrite, OnlyIn.runHead, State.refuse]

/-- What a command answers differs from the state before in the groups of its footprint alone. -/
theorem exec_onlyIn {c : Instr} (h : exec c s = .next t) : OnlyIn (touches c) s t := by
  obtain ⟨u, hu, ho⟩ := exec_onlyIn_touches c s
  rw [h] at hu
  cases hu
  exact ho

/-- What an action keeps, and a change of the service queues too, the request taken at the head keeps (R93). -/
theorem State.runAct_keeps {P : State → Prop} {code args : Nat} {stageOnly : Bool} {act : Cell → State → State × Reply}
    (hs : ∀ {u v}, P u → OnlyIn [.service] u v → P v) (ha : ∀ c u, P u → P (act c u).1) (h : P s) :
    P (s.runAct code stageOnly args act) := by
  have k : P s.popWork := hs h (by simp)
  unfold State.runAct State.runHead State.checked
  split
  · split
    · refine hs (u := Prod.fst _) ?_ ((OnlyIn.answer _ _ (by simp)).mpr OnlyIn.refl)
      dsimp only
      split
      · exact k
      · split
        · exact k
        · exact ha _ _ k
    · exact h
  · exact h

end Sys2Proof.Machine
end

section
/-! What the operations of a port and of the ring controller do to ports, spans and counters (sections 1.3, 1.4 and 2.6): sharper
than their footprints in Laws/Frames.lean, which name both ports and the counters. -/

namespace Sys2Proof.Machine

variable {l : List Group} {s t u : State} {p q : Side}

/-! ### A port and a span replaced -/

@[simp] theorem State.setPort_port_same (x : Port) : (s.setPort p x).port p = x := by cases p <;> rfl

theorem State.setPort_port_ne (x : Port) (h : q ≠ p) : (s.setPort p x).port q = s.port q := by
  cases p <;> cases q <;> first | rfl | exact absurd rfl h

@[simp] theorem State.setPort_present (x : Port) : (s.setPort p x).present = s.present := by cases p <;> rfl
@[simp] theorem State.setPort_counters (x : Port) : (s.setPort p x).counters = s.counters := by cases p <;> rfl
@[simp] theorem State.setPort_raised (x : Port) : (s.setPort p x).raised = s.raised := by cases p <;> rfl
@[simp] theorem State.setPort_span (x : Port) : (s.setPort p x).span q = s.span q := by cases p <;> rfl
@[simp] theorem State.setRaised_port (x : List Raised) : (s.setRaised x).port q = s.port q := by cases q <;> rfl
@[simp] theorem State.setRaised_span (x : List Raised) : (s.setRaised x).span q = s.span q := by cases q <;> rfl
@[simp] theorem State.raise_port (k n d) : (s.raise k n d).port q = s.port q := by cases q <;> rfl
@[simp] theorem State.raise_span (k n d) : (s.raise k n d).span q = s.span q := by cases q <;> rfl
@[simp] theorem State.bump_port (k) : (s.bump k).port q = s.port q := by cases q <;> rfl
@[simp] theorem State.bump_span (k) : (s.bump k).span q = s.span q := by cases q <;> rfl
@[simp] theorem State.event_port (f : State → State) : (s.event f).port q = (f (s.setRaised [])).port q := by
  cases q <;> simp [State.port]
@[simp] theorem State.event_span (f : State → State) : (s.event f).span q = (f (s.setRaised [])).span q := by
  cases q <;> simp [State.span]

@[simp] theorem State.setSpan_span_same (x : Span) : (s.setSpan p x).span p = x := by cases p <;> rfl

theorem State.setSpan_span_ne (x : Span) (h : q ≠ p) : (s.setSpan p x).span q = s.span q := by
  cases p <;> cases q <;> first | rfl | exact absurd rfl h

@[simp] theorem State.setSpan_port (x : Span) : (s.setSpan p x).port q = s.port q := by cases p <;> rfl

theorem oppositeSide_ne : oppositeSide p ≠ p := by cases p <;> decide

/-- A state that agrees on a side's group has that side's port. -/
theorem OnlyIn.port_eq (h : OnlyIn l s t) (hp : portGroup p ∉ l) : t.port p = s.port p := by
  cases p <;> exact h.at _ hp

/-- A state that agrees on the ring has its span records. -/
theorem OnlyIn.span_eq (h : OnlyIn l s t) (hr : .ring ∉ l) : t.span p = s.span p := by
  have e : t.ring = s.ring := h.at .ring hr
  cases p <;> simp [State.span, e]

theorem OnlyIn.counter_eq (h : OnlyIn l s t) (hc : .counters ∉ l) (k : CounterId) : t.counter k = s.counter k := by
  have e : t.counters = s.counters := h.at .counters hc
  simp [State.counter, e]

theorem OnlyIn.trans (h : OnlyIn l s t) (k : OnlyIn l t u) : OnlyIn l s u := (OnlyIn.iff_of k).mpr h

theorem OnlyIn.mono {m : List Group} (h : OnlyIn l s t) (hm : l ⊆ m) : OnlyIn m s t := fun g hg => h g fun k => hg (hm k)

/-! ### Sharper footprints -/

@[simp] theorem OnlyIn.setPort_side (x : Port) (h : portGroup p ∈ l) : OnlyIn l s (t.setPort p x) ↔ OnlyIn l s t := by
  cases p
  · exact OnlyIn.setPortE x h
  · exact OnlyIn.setPortW x h

@[simp] theorem OnlyIn.setFlags_side (x : PortFlags) (h : [portGroup p, .notices] ⊆ l) :
    OnlyIn l s (t.setFlags p x) ↔ OnlyIn l s t := by
  simp at h
  dsimp only [State.setFlags]
  split <;> simp [h]

/-- The change of the ring state raises its notice and counts nothing. -/
@[simp] theorem OnlyIn.redetermine_quiet (h : [.ring, .present, .lines, .notices] ⊆ l) :
    OnlyIn l s t.redetermine ↔ OnlyIn l s t := by
  simp at h
  unfold State.redetermine
  split
  · rfl
  · simp [State.setRingState, h]

@[simp] theorem OnlyIn.failSpan_quiet (h : [.ring, .present, .lines, .notices] ⊆ l) :
    OnlyIn l s (t.failSpan p) ↔ OnlyIn l s t := by
  simp at h
  simp [State.failSpan, h]

@[simp] theorem OnlyIn.evaluate_quiet (h : [.ring, .present, .lines, .notices] ⊆ l) :
    OnlyIn l s (t.evaluate p) ↔ OnlyIn l s t := by
  simp at h
  unfold State.evaluate
  split
  · rfl
  · simp [h]

@[simp] theorem OnlyIn.control_quiet (f : Frame) (h : [.ring, .present, .lines, .notices] ⊆ l) :
    OnlyIn l s (t.control p f) ↔ OnlyIn l s t := by
  simp at h
  unfold State.control
  dsimp only
  split <;> simp [h]

@[simp] theorem OnlyIn.absenceExpiry_quiet (h : [.timing, .ring, .present, .lines, .notices] ⊆ l) :
    OnlyIn l s t.absenceExpiry ↔ OnlyIn l s t := by
  simp at h
  unfold State.absenceExpiry State.setClock
  (repeat' split) <;> simp [h]

/-- Leaving LOCKED moves the port, its span's partner fields, the notice of its flags and, where it counts, a counter. -/
@[simp] theorem OnlyIn.toHunt_side (light loss : Bool) (h : [portGroup p, .ring, .notices, .counters] ⊆ l) :
    OnlyIn l s (t.toHunt p light loss) ↔ OnlyIn l s t := by
  simp at h
  unfold State.toHunt
  dsimp only
  (repeat' split) <;> simp [h]

/-! ### Flags and HUNT (R10, R11, R12) -/

/-- The flags take their new values, and each changed flag sets its delta (R12). -/
theorem State.setFlags_port (x : PortFlags) : (s.setFlags p x).port p =
    { s.port p with flags := x, deltas := (s.port p).deltas.union ((s.port p).flags.changed x) } := by
  unfold State.setFlags
  dsimp only
  split
  · simp
  · next h =>
    obtain ⟨hl, hk, hf, ht⟩ : (s.port p).flags.light = x.light ∧ (s.port p).flags.locked = x.locked
        ∧ (s.port p).flags.farFault = x.farFault ∧ (s.port p).flags.turned = x.turned := by
      simpa [PortFlags.any, PortFlags.changed, and_assoc] using h
    obtain rfl : (s.port p).flags = x := by cases x; cases h : (s.port p).flags; simp_all
    simp [PortFlags.union, PortFlags.changed]

theorem State.setFlags_port_ne (x : PortFlags) (h : q ≠ p) : (s.setFlags p x).port q = s.port q := by
  unfold State.setFlags
  dsimp only
  split
  · simp [State.setPort_port_ne _ h]
  · rfl

theorem State.setFlags_span (x : PortFlags) : (s.setFlags p x).span q = s.span q := by
  unfold State.setFlags
  dsimp only
  split <;> simp

theorem State.setFlags_counters (x : PortFlags) : (s.setFlags p x).counters = s.counters := by
  unfold State.setFlags
  dsimp only
  split <;> simp

/-- A port in HUNT has no reference and no bad run, and LIGHT alone of its flags as given (R10, R11). -/
theorem State.toHunt_port (light loss : Bool) : (s.toHunt p light loss).port p =
    { s.port p with
      lock := .hunt, reference := none, badRun := 0, flags := ⟨light, false, false, false⟩
      deltas := (s.port p).deltas.union ((s.port p).flags.changed ⟨light, false, false, false⟩) } := by
  unfold State.toHunt
  dsimp only
  (repeat' split) <;> simp [State.setFlags_port]

theorem State.toHunt_port_ne (light loss : Bool) (h : q ≠ p) : (s.toHunt p light loss).port q = s.port q := by
  unfold State.toHunt
  dsimp only
  (repeat' split) <;> simp [State.setFlags_port_ne _ h, State.setPort_port_ne _ h]

/-- A port that leaves LOCKED forgets its partner (R45); no other span field moves. -/
theorem State.toHunt_span (light loss : Bool) : (s.toHunt p light loss).span p =
    if (s.port p).lock = .locked then { s.span p with partner := none, partnerReady := false } else s.span p := by
  unfold State.toHunt
  by_cases h : (s.port p).lock = .locked <;> cases loss <;> simp [h, State.setFlags_span]

theorem State.toHunt_span_ne (light loss : Bool) (h : q ≠ p) : (s.toHunt p light loss).span q = s.span q := by
  unfold State.toHunt
  dsimp only
  (repeat' split) <;> simp [State.setSpan_span_ne _ h, State.setFlags_span]

/-- The lock-loss counter goes up where the port leaves LOCKED in a way that counts, and no counter moves otherwise (R15). -/
theorem State.toHunt_counters (light loss : Bool) : (s.toHunt p light loss).counters =
    if (s.port p).lock = .locked ∧ loss = true then (s.bump (lossCounter p)).counters else s.counters := by
  unfold State.toHunt
  by_cases h : (s.port p).lock = .locked
  all_goals cases loss <;> simp [h, State.setFlags_counters, State.bump, State.setSpan]
  all_goals cases p <;> simp [State.setFlags_counters]

end Sys2Proof.Machine
end

section
/-! Every step keeps both ports' flags in step with their lock state (R8, R11). -/

namespace Sys2Proof.Machine

variable {l : List Group} {s t u : State} {p q : Side}

/-! ### Frames sent -/

/-- Each port is as it was but for the frame it is given to send. -/
def OnlySends (s t : State) : Prop := ∀ q, t.port q = { s.port q with tx := (t.port q).tx }

theorem OnlySends.trans (h : OnlySends s t) (k : OnlySends t u) : OnlySends s u := fun q => by
  rw [k q, h q]

theorem OnlySends.refl : OnlySends s s := fun _ => rfl

/-- Every group but the ports. -/
def groupsButPorts : List Group := [.straps, .timing, .ring, .members, .service, .plan, .present, .checker, .audio, .preamp,
  .tracking, .buses, .talk, .lines, .sets, .notices, .counters, .image, .pending]

theorem OnlyIn.port_of_butPorts (h : OnlyIn groupsButPorts s t) : t.port p = s.port p :=
  h.port_eq (by cases p <;> decide)

theorem OnlySends.of_onlyIn (h : OnlyIn groupsButPorts s t) : OnlySends s t := fun q => by
  rw [h.port_of_butPorts]

theorem State.transmit_sends (p : Side) (f : Frame) : OnlySends s (s.transmit p f) := fun q => by
  unfold State.transmit
  by_cases h : q = p
  · subst h; simp
  · rw [State.setPort_port_ne _ h]

theorem State.forward_sends (h : Header) (slots : Tab Sample 128) (lane : Lane) : OnlySends s (s.forward h slots lane) := by
  unfold State.forward
  split
  · refine .trans ?_ (State.transmit_sends _ _)
    exact .of_onlyIn (by simp [groupsButPorts])
  · exact .refl

theorem State.passTurned_sends (p : Side) (f : Frame) : OnlySends s (s.passTurned p f) := by
  unfold State.passTurned
  split
  · exact State.transmit_sends _ _
  · exact .refl

theorem State.ringTraffic_sends (h : Header) (slots : Tab Sample 128) (lane : Lane) :
    OnlySends s (s.ringTraffic h slots lane) := by
  unfold State.ringTraffic
  dsimp only
  split
  · exact .of_onlyIn (by split <;> simp [groupsButPorts])
  · refine .trans ?_ (State.forward_sends _ _ _)
    exact .of_onlyIn (by split <;> simp [groupsButPorts])

/-- What a node does with a delivered frame leaves its ports as they are but for what they send. -/
theorem State.takeFrame_sends (p : Side) (f : Frame) : OnlySends s (s.takeFrame p f) := by
  unfold State.takeFrame
  dsimp only
  split
  · split
    · exact .trans (State.passTurned_sends _ _) (State.ringTraffic_sends _ _ _)
    · exact State.passTurned_sends _ _
  · exact State.passTurned_sends _ _

theorem State.sendSupervision_sends : OnlySends s s.sendSupervision := by
  unfold State.sendSupervision State.forSides
  exact .trans (State.transmit_sends _ _) (State.transmit_sends _ _)

theorem State.originate_sends : OnlySends s s.originate := by
  unfold State.originate
  dsimp only
  split
  · refine .trans (t := s.originLists.laneTurn s.originLists.timing.frame) (.of_onlyIn (by simp [groupsButPorts])) ?_
    refine .trans ?_ (.of_onlyIn ((OnlyIn.originRoster (by simp [groupsButPorts])).mpr OnlyIn.refl))
    split
    · exact State.transmit_sends _ _
    · exact .refl
  · exact .refl

theorem State.frameWork_sends (inputs : Tab Sample 64) : OnlySends s (s.frameWork inputs) := by
  unfold State.frameWork
  refine .trans (.of_onlyIn (t := ((s.setAudio { s.audio with localIn := inputs }).converterLine.presentFrame).mix.fileOwn.consoleFrame.outputs)
    (by simp [groupsButPorts])) ?_
  refine .trans State.sendSupervision_sends (.trans State.originate_sends (.of_onlyIn (by simp [groupsButPorts])))

/-! ### The law of one port -/

/-- The law speaks of lock state and flags alone. -/
theorem Port.flagLaw_congr {x y : Port} (hl : y.lock = x.lock) (hf : y.flags = x.flags) : y.flagLaw ↔ x.flagLaw := by
  simp [Port.flagLaw, hl, hf]

theorem PortLaw_iff : PortLaw s ↔ ∀ p, (s.port p).flagLaw :=
  ⟨fun ⟨he, hw⟩ p => by cases p <;> assumption, fun h => ⟨h .e, h .w⟩⟩

/-- A port in HUNT with LIGHT alone of its flags meets the law. -/
theorem Port.flagLaw_hunt {x : Port} {light : Bool} (hl : x.lock = .hunt) (hf : x.flags = ⟨light, false, false, false⟩) :
    x.flagLaw := by simp [Port.flagLaw, hl, hf]

theorem PortLaw.of_sends (h : PortLaw s) (o : OnlySends s t) : PortLaw t :=
  PortLaw_iff.mpr fun p => by
    rw [o p]
    exact (Port.flagLaw_congr rfl rfl).mpr (PortLaw_iff.mp h p)

theorem PortLaw.of_onlyIn (h : PortLaw s) (o : OnlyIn groupsButPorts s t) : PortLaw t := h.of_sends (.of_onlyIn o)

theorem PortLaw.bump (h : PortLaw s) (k : CounterId) : PortLaw (s.bump k) := h.of_onlyIn (by simp [groupsButPorts])

/-- An operation on one side keeps the law where it keeps it at that side and leaves the other. -/
theorem PortLaw.of_side (h : PortLaw s) (hp : (t.port p).flagLaw) (hq : ∀ q, q ≠ p → t.port q = s.port q) : PortLaw t :=
  PortLaw_iff.mpr fun q => by
    by_cases e : q = p
    · exact e ▸ hp
    · exact hq q e ▸ PortLaw_iff.mp h q

theorem PortLaw.setPort (h : PortLaw s) {x : Port} (hl : x.lock = (s.port p).lock) (hf : x.flags = (s.port p).flags) :
    PortLaw (s.setPort p x) :=
  h.of_side (by rw [State.setPort_port_same]; exact (Port.flagLaw_congr hl hf).mpr (PortLaw_iff.mp h p))
    fun _ => State.setPort_port_ne x

theorem PortLaw.event (h : PortLaw s) {f : State → State} (hf : ∀ u, PortLaw u → PortLaw (f u)) : PortLaw (s.event f) :=
  (hf _ (h.of_onlyIn (t := s.setRaised []) (by simp [groupsButPorts]))).of_onlyIn ((State.event_only f).mono (by decide))

/-! ### Operations of a port -/

theorem PortLaw.toHunt (h : PortLaw s) (light loss : Bool) : PortLaw (s.toHunt p light loss) :=
  h.of_side (by rw [State.toHunt_port]; exact Port.flagLaw_hunt rfl rfl) fun _ => State.toHunt_port_ne _ _

theorem PortLaw.lightOn (h : PortLaw s) : PortLaw (s.lightOn p) := by
  unfold State.lightOn
  dsimp only
  split
  · exact h
  · have k : PortLaw (s.setPort p { s.port p with fibreLight := true }) := h.setPort rfl rfl
    split
    · exact k
    · refine k.of_side ?_ fun _ => State.setFlags_port_ne _
      rw [State.setFlags_port]
      exact PortLaw_iff.mp k p

theorem PortLaw.evaluate (h : PortLaw s) : PortLaw (s.evaluate p) := h.of_onlyIn (by simp [groupsButPorts])

theorem PortLaw.lightOff (h : PortLaw s) : PortLaw (s.lightOff p) := by
  unfold State.lightOff
  dsimp only
  split
  · exact h
  · have k : PortLaw (s.setPort p { s.port p with fibreLight := false, received := [] }) := h.setPort rfl rfl
    split
    · exact k
    · exact (k.toHunt _ _).evaluate

/-- A delivered frame leaves its port LOCKED, with LOCKED set and the other two flags as the frame says. -/
theorem PortLaw.deliver (h : PortLaw s) (f : Frame) : PortLaw (s.deliver p f) := by
  unfold State.deliver
  dsimp only
  have k (x : PortFlags) (hx : x.locked = true) :
      PortLaw ((s.setPort p { s.port p with lock := .locked, reference := none, badRun := 0 }).setFlags p x) := by
    refine h.of_side ?_ fun q hq => by rw [State.setFlags_port_ne _ hq, State.setPort_port_ne _ hq]
    rw [State.setFlags_port, State.setPort_port_same]
    simp [Port.flagLaw, hx]
  have c (x : PortFlags) (hx : x.locked = true) := (k x hx).of_onlyIn
    ((OnlyIn.control_quiet (p := p) f (by simp [groupsButPorts])).mpr OnlyIn.refl)
  split
  · exact c _ rfl
  · exact (c _ rfl).of_sends (State.takeFrame_sends p f)

theorem PortLaw.badFrame (h : PortLaw s) : PortLaw (s.badFrame p) := by
  unfold State.badFrame
  dsimp only
  have a : PortLaw (s.setPort p { s.port p with badRun := (s.port p).badRun + 1 }) := h.setPort rfl rfl
  have k := a.bump (crcCounter p)
  split
  · exact (k.toHunt _ _).evaluate
  · exact k

/-- A port outside LOCKED may go to PRESYNC, since its three flags are clear. -/
theorem PortLaw.setReference (h : PortLaw s) (hp : (s.port p).lock ≠ .locked) (r : Reference) :
    PortLaw (s.setReference p r) := by
  refine h.of_side (p := p) ?_ fun _ => State.setPort_port_ne _
  obtain ⟨hl, hc⟩ := PortLaw_iff.mp h p
  simp [State.setReference, Port.flagLaw, hl, hc hp, hp]

theorem PortLaw.searchFrame (h : PortLaw s) (hp : (s.port p).lock ≠ .locked) (r : Option Reference) (f : Frame) :
    PortLaw (s.searchFrame p r f) := by
  unfold State.searchFrame
  (repeat' split) <;> first | exact h.deliver f | exact h.setReference hp _ | exact h

theorem PortLaw.receive (h : PortLaw s) (period : List Byte) : PortLaw (s.receive p period) := by
  unfold State.receive
  split
  · exact h.deliver _
  · exact h.badFrame
  · next e _ => exact h.searchFrame (by simp [e]) _ _
  · next e _ => split <;> first | exact h.setReference (by simp [e]) _ | exact h
  · next e _ => exact h.searchFrame (by simp [e]) _ _
  · exact h

theorem PortLaw.keepReceived (h : PortLaw s) (period : List Byte) : PortLaw (s.keepReceived p period) := by
  unfold State.keepReceived
  split
  · exact h.setPort rfl rfl
  · exact h

theorem PortLaw.receivePeriod (h : PortLaw s) (period : List Byte) : PortLaw (s.receivePeriod p period) := by
  unfold State.receivePeriod
  dsimp only
  have k : PortLaw ((s.event State.absenceExpiry).keepReceived p period) :=
    PortLaw.keepReceived (h.event fun u hu => hu.of_onlyIn (by simp [groupsButPorts])) period
  split
  · exact h
  · split
    · exact k.event fun u hu => hu.receive _
    · exact k

/-! ### Boundaries, reading, loops, start -/

theorem PortLaw.localBoundary (h : PortLaw s) (inputs : Tab Sample 64) : PortLaw (s.localBoundary inputs) := by
  unfold State.localBoundary
  dsimp only
  have settle (u : State) (hu : PortLaw u) : PortLaw u.settle := hu.of_onlyIn (by simp [groupsButPorts])
  have work (u : State) (hu : PortLaw u) : PortLaw (u.event (·.frameWork inputs)) :=
    hu.event fun v hv => hv.of_sends (State.frameWork_sends inputs)
  have k : PortLaw (s.begin s.lines.levels) := h.of_onlyIn (by simp [groupsButPorts])
  split
  · exact h
  · split
    · exact work _ (settle _ h)
    · split
      · exact work _ (settle _ k)
      · exact work _ k

theorem PortLaw.clearDeltas (h : PortLaw s) : PortLaw (s.clearDeltas p) := h.setPort rfl rfl

theorem PortLaw.dataCell (h : PortLaw s) (tb : Table) (c : Cell) (r : Reading) : PortLaw (s.dataCell tb c r) := by
  have k : PortLaw (s.readEffect tb r.next (r.batch tb)) := by
    unfold State.readEffect
    dsimp only
    (repeat' split) <;> first | exact h.clearDeltas.clearDeltas | exact h.clearDeltas | exact h
  exact k.of_onlyIn (by simp [State.dataCell, groupsButPorts])

theorem PortLaw.startRead (h : PortLaw s) : PortLaw s.startRead := by
  have a (c : Cell) (r : Reply) : PortLaw (s.popWork.answer c r) := h.of_onlyIn (by simp [groupsButPorts])
  unfold State.startRead
  split
  · split
    · split
      · exact a _ _
      · split
        · exact a _ _
        · split
          · exact h.dataCell _ _ _
          · exact a _ _
    · exact h
  · exact h

theorem PortLaw.nextData (h : PortLaw s) : PortLaw s.nextData := by
  unfold State.nextData
  (repeat' split) <;> first | exact h.dataCell _ _ _ | exact h

theorem PortLaw.changeLoop (h : PortLaw s) (m : LoopMode) : PortLaw (s.changeLoop p m) := by
  unfold State.changeLoop
  dsimp only
  have k : PortLaw ((s.setPort p { s.port p with loop := m, received := [] }).switchReceiver p (s.port p).loop m) := by
    have h' : PortLaw (s.setPort p { s.port p with loop := m, received := [] }) := h.setPort rfl rfl
    unfold State.switchReceiver
    split
    · exact h'
    · exact h'.toHunt _ _
  refine PortLaw.evaluate ?_
  split
  · exact k.of_onlyIn (by simp [groupsButPorts])
  · exact k

theorem PortLaw.setLoop (h : PortLaw s) (m : LoopMode) : PortLaw (s.setLoop p m).1 := by
  unfold State.setLoop
  split
  · exact h
  · split
    · exact h
    · exact h.changeLoop m

theorem PortLaw.enablePorts (h : PortLaw s) : PortLaw s.enablePorts := by
  have e (u : State) (hu : PortLaw u) (p : Side) : PortLaw (u.setPort p { u.port p with enabled := true }) :=
    hu.setPort rfl rfl
  have k : PortLaw (s.forSides fun p s => s.setPort p { s.port p with enabled := true }) := e _ (e _ h .e) .w
  unfold State.enablePorts
  dsimp only
  refine k.of_onlyIn ?_
  split <;> simp [groupsButPorts, State.forSides]

theorem PortLaw.loadComplete (h : PortLaw s) (memory : Option (List Byte)) : PortLaw (s.loadComplete memory) := by
  unfold State.loadComplete
  split
  · exact PortLaw.enablePorts (h.of_onlyIn (by simp [groupsButPorts]))
  · exact h

/-- Every command keeps the law of the ports. -/
theorem exec_keeps_portLaw {c : Instr} (hx : exec c s = .next t) (h : PortLaw s) : PortLaw t := by
  cases c
  case hardReset => cases hx; exact PortLaw_iff.mpr fun p => by cases p <;> exact Port.flagLaw_hunt rfl rfl
  case imageLoadComplete => cases hx; exact h.event fun u hu => hu.loadComplete _
  case lightDetected => cases hx; exact h.event fun u hu => hu.lightOn
  case lossOfLight => cases hx; exact h.event fun u hu => hu.lightOff
  case receiveFrame => cases hx; exact h.receivePeriod _
  case localFrameBoundary => cases hx; exact h.localBoundary _
  case readTable => cases hx; exact h.startRead
  case dataCellNext => cases hx; exact h.nextData
  case loop => 
    cases hx
    refine h.event fun u hu => State.runAct_keeps (fun hv o => hv.of_onlyIn (o.mono (by decide)))
      (fun c v hv => ?_) hu
    split
    · exact hv.setLoop _
    · exact hv
  all_goals exact h.of_onlyIn ((exec_onlyIn hx).mono (by simp [touches, groupsButPorts]))

end Sys2Proof.Machine
end

section
/-! Every step keeps ready, unwrap superframe and namer of each span to the states that have them (R49, R50, R53). -/

namespace Sys2Proof.Machine

variable {l : List Group} {s t u : State} {p q : Side}

/-! ### What leaves the span records -/

/-- Every group but the ring. -/
def groupsButRing : List Group := [.straps, .portE, .portW, .timing, .members, .service, .plan, .present, .checker, .audio,
  .preamp, .tracking, .buses, .talk, .lines, .sets, .notices, .counters, .image, .pending]

theorem OnlyIn.span_of_butRing (h : OnlyIn groupsButRing s t) : t.span q = s.span q := h.span_eq (by decide)

/-- The ring state follows without a move of a span record. -/
@[simp] theorem State.redetermine_span : s.redetermine.span q = s.span q := by
  unfold State.redetermine State.setRingState
  split
  · rfl
  · dsimp only
    rw [OnlyIn.span_of_butRing (s := s.setRing { s.ring with state := s.determined }) (by simp [groupsButRing])]
    cases q <;> rfl

@[simp] theorem State.absenceExpiry_span : s.absenceExpiry.span q = s.span q := by
  unfold State.absenceExpiry
  split
  · rw [State.redetermine_span]
    split
    · exact OnlyIn.span_of_butRing (by simp [groupsButRing])
    · rfl
  · rfl

@[simp] theorem State.masterSeen_span : s.masterSeen.span q = s.span q := by
  unfold State.masterSeen
  rw [State.redetermine_span]
  cases q <;> rfl

/-- What a load takes first moves a span only by its unwrap (R53). -/
theorem State.reached_span : s.reached.span q = (s.forSides fun p s => s.unwrapNow p).span q := by
  unfold State.reached
  refine OnlyIn.span_of_butRing ?_
  rw [OnlyIn.reloadTimeout (by simp [groupsButRing]), OnlyIn.forEach _ _ (by intro i t; simp [groupsButRing])]
  simp [groupsButRing]

/-- A load of the counters moves the spans, if at all, by what it takes first (R53). -/
theorem State.loadCounters_span (h : Header) :
    (∀ q, (s.loadCounters h).span q = s.span q) ∨ ∀ q, (s.loadCounters h).span q = s.reached.span q := by
  unfold State.loadCounters
  split
  · exact .inl fun q => OnlyIn.span_of_butRing (by simp [groupsButRing])
  · refine .inr fun q => OnlyIn.span_of_butRing ?_
    unfold State.jump
    dsimp only
    split <;> simp [groupsButRing]

theorem State.clockLock_span (h : Header) : (s.clockLock h).span q = (s.loadCounters h).span q := by
  unfold State.clockLock
  dsimp only
  split
  · rfl
  · exact OnlyIn.span_of_butRing (by simp [groupsButRing])

theorem State.ringTraffic_span (h : Header) (slots : Tab Sample 128) (lane : Lane) :
    (∀ q, (s.ringTraffic h slots lane).span q = s.span q) ∨ ∀ q, (s.ringTraffic h slots lane).span q = s.reached.span q := by
  unfold State.ringTraffic
  dsimp only
  split
  · refine .inl fun q => (OnlyIn.span_of_butRing (s := if h.masterOrigin = true then (s.takeReturn h slots).masterSeen else
      s.takeReturn h slots) (by simp [groupsButRing])).trans ?_
    have e : (s.takeReturn h slots).span q = s.span q := OnlyIn.span_of_butRing (by simp [groupsButRing])
    split <;> simp [e]
  · have e (q : Side) := OnlyIn.span_of_butRing (q := q) (s := if h.masterOrigin = true then (s.clockLock h).masterSeen else s)
      (t := ((((if h.masterOrigin = true then (s.clockLock h).masterSeen else s).takeLists h).fileRing
        (globalCount h.superframe h.frame) slots).takeLane h.superframe h.frame lane).forward h slots lane)
      (by simp [groupsButRing])
    simp only [e]
    split
    · simpa [State.clockLock_span] using s.loadCounters_span h
    · exact .inl fun _ => rfl

/-- A delivered frame's traffic moves the spans, if at all, by what a load of the counters takes first (R53). -/
theorem State.takeFrame_span (p : Side) (f : Frame) :
    (∀ q, (s.takeFrame p f).span q = s.span q) ∨ ∃ u, OnlyIn [.portE, .portW] s u
      ∧ ∀ q, (s.takeFrame p f).span q = u.reached.span q := by
  have o : OnlyIn [.portE, .portW] s (s.passTurned p f) := by simp
  have e (q : Side) : (s.passTurned p f).span q = s.span q := o.span_eq (by decide)
  unfold State.takeFrame
  dsimp only
  split
  · split
    · rcases (s.passTurned p _).ringTraffic_span _ _ _ with k | k
      · exact .inl fun q => (k q).trans (e q)
      · exact .inr ⟨_, o, k⟩
    · exact .inl e
  · exact .inl e

/-! ### The law of one span record -/

theorem SpanLaw_iff : SpanLaw s ↔ ∀ p, (s.span p).law :=
  ⟨fun ⟨he, hw⟩ p => by cases p <;> assumption, fun h => ⟨h .e, h .w⟩⟩

theorem SpanLaw.of_spans (h : SpanLaw s) (e : ∀ q, t.span q = s.span q) : SpanLaw t :=
  SpanLaw_iff.mpr fun q => e q ▸ SpanLaw_iff.mp h q

theorem SpanLaw.of_onlyIn (h : SpanLaw s) (o : OnlyIn groupsButRing s t) : SpanLaw t := h.of_spans fun _ => o.span_of_butRing

theorem SpanLaw.setSpan (h : SpanLaw s) {x : Span} (hx : x.law) : SpanLaw (s.setSpan p x) :=
  SpanLaw_iff.mpr fun q => by
    by_cases e : q = p
    · subst e; simpa using hx
    · rw [State.setSpan_span_ne x e]
      exact SpanLaw_iff.mp h q

theorem SpanLaw.event (h : SpanLaw s) {f : State → State} (hf : ∀ u, SpanLaw u → SpanLaw (f u)) : SpanLaw (s.event f) :=
  (hf _ (h.of_onlyIn (t := s.setRaised []) (by simp [groupsButRing]))).of_onlyIn ((State.event_only f).mono (by decide))

theorem SpanLaw.forSides (h : SpanLaw s) {f : Side → State → State} (hf : ∀ p u, SpanLaw u → SpanLaw (f p u)) :
    SpanLaw (s.forSides f) := hf _ _ (hf _ _ h)

/-- The law speaks of state, ready, unwrap and namer alone. -/
theorem Span.law_congr {x y : Span} (h : x.law) (hs : y.state = x.state) (hr : y.ready = x.ready) (hu : y.unwrap = x.unwrap)
    (hn : y.namer = x.namer) : y.law := by simpa [Span.law, hs, hr, hu, hn] using h

/-- Out of RESTORING and UNWRAP_PENDING the law has ready, unwrap and namer clear. -/
theorem Span.law_clear {x : Span} (hr : x.ready = false) (hu : x.unwrap = none) (hn : x.namer = false)
    (hs : x.state ≠ .unwrapPending) : x.law := by simp [Span.law, hr, hu, hn, hs]

theorem Span.law_failed (x : Span) : x.failed.law := Span.law_clear rfl rfl rfl (by simp [Span.failed])

/-- The answer to an evaluation of the defect keeps the law: a span goes to FAILED with all three clear, to RESTORING from
FAILED, and between GOOD and DEFECT (R48, R49). -/
theorem Span.law_react {x : Span} (h : x.law) (defect : Bool) (sets : Sets) : (x.react defect sets).law := by
  obtain ⟨hr, hu, hn⟩ := h
  unfold Span.react
  split
  · split
    · exact x.law_failed
    · next e _ => simp_all [Span.law]
  · next e _ => simp_all [Span.law]
  · next e _ => simp_all [Span.law]
  · exact x.law_failed
  · exact x.law_failed
  · exact ⟨hr, hu, hn⟩

/-! ### Operations of the ring controller -/

theorem SpanLaw.redetermine (h : SpanLaw s) : SpanLaw s.redetermine := h.of_spans fun _ => State.redetermine_span

theorem SpanLaw.failSpan (h : SpanLaw s) : SpanLaw (s.failSpan p) := (h.setSpan (Span.law_failed _)).redetermine

theorem SpanLaw.react (h : SpanLaw s) : SpanLaw (s.react p) := h.setSpan (Span.law_react (SpanLaw_iff.mp h p) _ _)

theorem SpanLaw.evaluate (h : SpanLaw s) : SpanLaw (s.evaluate p) := by
  unfold State.evaluate
  split
  · exact h
  · exact h.react.react.redetermine

theorem SpanLaw.nameUnwrap (h : SpanLaw s) : SpanLaw (s.nameUnwrap p) := by
  unfold State.nameUnwrap
  dsimp only
  (repeat' split) <;> first | exact h | exact h.setSpan (by simp [Span.law])

theorem SpanLaw.adoptUnwrap (h : SpanLaw s) (hd : Header) : SpanLaw (s.adoptUnwrap p hd) := by
  unfold State.adoptUnwrap
  dsimp only
  (repeat' split) <;> first | exact h | exact h.setSpan (by simp [Span.law])

/-- The partner fields are none of the law's. -/
theorem SpanLaw.setPartner (h : SpanLaw s) (partner : Option NodeId) (ready : Bool) :
    SpanLaw (s.setSpan p { s.span p with partner := partner, partnerReady := ready }) :=
  h.setSpan (Span.law_congr (SpanLaw_iff.mp h p) rfl rfl rfl rfl)

theorem SpanLaw.updatePartner (h : SpanLaw s) (f : Frame) : SpanLaw (s.updatePartner p f) := by
  unfold State.updatePartner
  dsimp only
  split
  · exact h.setPartner _ _
  · split
    · exact h.setPartner _ _
    · exact h

theorem SpanLaw.control (h : SpanLaw s) (f : Frame) : SpanLaw (s.control p f) := by
  unfold State.control
  dsimp only
  have k := (h.updatePartner (p := p) f).evaluate (p := p) |>.nameUnwrap (p := p)
  split
  · exact k.adoptUnwrap _
  · exact k

theorem SpanLaw.holdoffExpiry (h : SpanLaw s) : SpanLaw (s.holdoffExpiry p) := by
  unfold State.holdoffExpiry
  split
  · exact h.failSpan.evaluate
  · exact h

/-- Ready is set on a span in RESTORING alone (R50). -/
theorem SpanLaw.restoreExpiry (h : SpanLaw s) : SpanLaw (s.restoreExpiry p) := by
  unfold State.restoreExpiry
  split
  · next hd =>
    have hr : (s.span p).state = .restoring := by
      simp only [State.restoreDue, Bool.and_eq_true, beq_iff_eq] at hd
      exact hd.1.1
    have k := SpanLaw_iff.mp h p
    exact (h.setSpan (by simp_all [Span.law])).nameUnwrap
  · exact h

theorem SpanLaw.unwrapNow (h : SpanLaw s) : SpanLaw (s.unwrapNow p) := by
  unfold State.unwrapNow
  split
  · exact ((h.setSpan (Span.law_clear rfl rfl rfl (by simp))).redetermine).evaluate
  · exact h

theorem SpanLaw.absenceExpiry (h : SpanLaw s) : SpanLaw s.absenceExpiry := h.of_spans fun _ => State.absenceExpiry_span

theorem SpanLaw.reached (h : SpanLaw s) : SpanLaw s.reached :=
  (h.forSides (f := fun p s => s.unwrapNow p) fun _ _ hu => hu.unwrapNow).of_spans fun _ => State.reached_span

theorem SpanLaw.takeFrame (h : SpanLaw s) (f : Frame) : SpanLaw (s.takeFrame p f) := by
  rcases s.takeFrame_span p f with e | ⟨u, o, e⟩
  · exact h.of_spans e
  · exact (h.of_onlyIn (o.mono (by decide))).reached.of_spans e

theorem SpanLaw.toHunt (h : SpanLaw s) (light loss : Bool) : SpanLaw (s.toHunt p light loss) := by
  refine SpanLaw_iff.mpr fun q => ?_
  by_cases e : q = p
  · subst e
    rw [State.toHunt_span]
    split
    · exact Span.law_congr (SpanLaw_iff.mp h q) rfl rfl rfl rfl
    · exact SpanLaw_iff.mp h q
  · rw [State.toHunt_span_ne _ _ e]
    exact SpanLaw_iff.mp h q

/-! ### Received frames and light -/

theorem SpanLaw.deliver (h : SpanLaw s) (f : Frame) : SpanLaw (s.deliver p f) := by
  unfold State.deliver
  dsimp only
  have k (x : Port) (y : PortFlags) : SpanLaw (((s.setPort p x).setFlags p y).control p f) :=
    (h.of_onlyIn (by simp [groupsButRing])).control f
  split
  · exact k _ _
  · exact (k _ _).takeFrame f

theorem SpanLaw.badFrame (h : SpanLaw s) : SpanLaw (s.badFrame p) := by
  unfold State.badFrame
  dsimp only
  have k (x : Port) (c : CounterId) : SpanLaw ((s.setPort p x).bump c) := h.of_onlyIn (by simp [groupsButRing])
  split
  · exact ((k _ _).toHunt _ _).evaluate
  · exact k _ _

theorem SpanLaw.setReference (h : SpanLaw s) (r : Reference) : SpanLaw (s.setReference p r) :=
  h.of_onlyIn (by simp [groupsButRing])

theorem SpanLaw.searchFrame (h : SpanLaw s) (r : Option Reference) (f : Frame) : SpanLaw (s.searchFrame p r f) := by
  unfold State.searchFrame
  (repeat' split) <;> first | exact h.deliver f | exact h.setReference _ | exact h

theorem SpanLaw.receive (h : SpanLaw s) (period : List Byte) : SpanLaw (s.receive p period) := by
  unfold State.receive
  split
  · exact h.deliver _
  · exact h.badFrame
  · exact h.searchFrame _ _
  · split
    · exact h.setReference _
    · exact h
  · exact h.searchFrame _ _
  · exact h

theorem SpanLaw.receivePeriod (h : SpanLaw s) (period : List Byte) : SpanLaw (s.receivePeriod p period) := by
  unfold State.receivePeriod
  dsimp only
  have a : SpanLaw (s.event State.absenceExpiry) := h.event fun _ hu => hu.absenceExpiry
  have k : SpanLaw ((s.event State.absenceExpiry).keepReceived p period) := a.of_onlyIn (by simp [groupsButRing])
  split
  · exact h
  · split
    · exact k.event fun u hu => hu.receive _
    · exact k

theorem SpanLaw.lightOff (h : SpanLaw s) : SpanLaw (s.lightOff p) := by
  unfold State.lightOff
  dsimp only
  have k (x : Port) : SpanLaw (s.setPort p x) := h.of_onlyIn (by simp [groupsButRing])
  split
  · exact h
  · split
    · exact k _
    · exact ((k _).toHunt _ _).evaluate

/-! ### Boundaries, loops, start -/

theorem SpanLaw.settleRing (h : SpanLaw s) : SpanLaw s.settleRing := by
  unfold State.settleRing
  dsimp only
  have a : SpanLaw ((s.ringCell.consoleCell).event State.absenceExpiry) :=
    SpanLaw.event (h.of_onlyIn (by simp [groupsButRing])) fun _ hu => hu.absenceExpiry
  refine SpanLaw.forSides (SpanLaw.forSides (SpanLaw.forSides (a.of_onlyIn (by simp [groupsButRing])) ?_) ?_) ?_
  · exact fun p u hu => hu.event fun _ hv => hv.holdoffExpiry
  · exact fun p u hu => hu.restoreExpiry
  · exact fun p u hu => hu.event fun _ hv => hv.unwrapNow

theorem SpanLaw.settle (h : SpanLaw s) : SpanLaw s.settle :=
  h.settleRing.of_onlyIn ((OnlyIn.settleBlocks (by simp [groupsButRing])).mpr OnlyIn.refl)

theorem SpanLaw.advance (h : SpanLaw s) : SpanLaw s.advance := by
  have k (u : State) (hu : OnlyIn groupsButRing s u) : SpanLaw (if u.timing.masterAbsence = 0 then u.redetermine else u) := by
    split
    · exact (h.of_onlyIn hu).redetermine
    · exact h.of_onlyIn hu
  unfold State.advance
  exact k _ (by split <;> simp [groupsButRing])

/-- The counts of a boundary are none of the law's. -/
theorem Span.law_boundary {x : Span} (h : x.law) : x.boundary.law := by
  unfold Span.boundary
  (repeat' split) <;> exact h

theorem State.superframe_ring (levels : Tab Bool 8) : (s.superframe levels).ring =
    { s.ring with spanE := s.ring.spanE.boundary, spanW := s.ring.spanW.boundary } := by
  have k (u : State) : u.pulseStrobe.ring = u.ring := (show OnlyIn [.preamp] u u.pulseStrobe by simp).at .ring (by decide)
  unfold State.superframe
  dsimp only
  rw [k]
  rfl

theorem SpanLaw.superframe (h : SpanLaw s) (levels : Tab Bool 8) : SpanLaw (s.superframe levels) := by
  unfold SpanLaw
  rw [State.superframe_ring]
  exact ⟨Span.law_boundary h.1, Span.law_boundary h.2⟩

theorem SpanLaw.begin (h : SpanLaw s) (levels : Tab Bool 8) : SpanLaw (s.begin levels) := by
  unfold State.begin
  dsimp only
  have k : SpanLaw (s.settle.event State.advance) := h.settle.event fun _ hu => hu.advance
  split
  · exact k.superframe levels
  · exact k

theorem SpanLaw.localBoundary (h : SpanLaw s) (inputs : Tab Sample 64) : SpanLaw (s.localBoundary inputs) := by
  unfold State.localBoundary
  dsimp only
  have work (u : State) (hu : SpanLaw u) : SpanLaw (u.event (·.frameWork inputs)) := hu.of_onlyIn (by simp [groupsButRing])
  have k := h.begin s.lines.levels
  split
  · exact h
  · split
    · exact work _ h.settle
    · split
      · exact work _ k.settle
      · exact work _ k

theorem SpanLaw.superframeBoundary (h : SpanLaw s) (levels : Tab Bool 8) : SpanLaw (s.superframeBoundary levels) := by
  unfold State.superframeBoundary
  split
  · exact h.begin levels
  · exact h

theorem SpanLaw.changeLoop (h : SpanLaw s) (m : LoopMode) : SpanLaw (s.changeLoop p m) := by
  unfold State.changeLoop
  dsimp only
  have k (x : Port) (m' : LoopMode) : SpanLaw ((s.setPort p x).switchReceiver p m' m) := by
    have a : SpanLaw (s.setPort p x) := h.of_onlyIn (by simp [groupsButRing])
    unfold State.switchReceiver
    split
    · exact a
    · exact a.toHunt _ _
  refine SpanLaw.evaluate ?_
  split
  · exact (k _ _).failSpan
  · exact k _ _

theorem SpanLaw.setLoop (h : SpanLaw s) (m : LoopMode) : SpanLaw (s.setLoop p m).1 := by
  unfold State.setLoop
  split
  · exact h
  · split
    · exact h
    · exact h.changeLoop m

theorem SpanLaw.setRingState (h : SpanLaw s) (r : RingState) : SpanLaw (s.setRingState r) := by
  have k : SpanLaw (s.setRing { s.ring with state := r }) := h
  exact k.of_onlyIn (by simp [State.setRingState, groupsButRing])

theorem SpanLaw.enablePorts (h : SpanLaw s) : SpanLaw s.enablePorts := by
  unfold State.enablePorts
  dsimp only
  have k (u : State) (hu : SpanLaw u) : SpanLaw ((u.setRingState .forming).forSides fun p s => s.examine p).redetermine :=
    ((hu.setRingState _).forSides (f := fun p s => s.examine p) fun _ _ hv => hv.react.react).redetermine
  split
  · refine SpanLaw.of_onlyIn (k _ (h.of_onlyIn ?_)) ((OnlyIn.startupReload _ (by simp [groupsButRing])).mpr OnlyIn.refl)
    simp [groupsButRing, State.forSides]
  · refine k _ (h.of_onlyIn ?_)
    simp [groupsButRing, State.forSides]

theorem SpanLaw.loadComplete (h : SpanLaw s) (memory : Option (List Byte)) : SpanLaw (s.loadComplete memory) := by
  unfold State.loadComplete
  split
  · exact SpanLaw.enablePorts (h.of_onlyIn (by simp [groupsButRing]))
  · exact h

/-- Every command keeps the law of the span records. -/
theorem exec_keeps_spanLaw {c : Instr} (hx : exec c s = .next t) (h : SpanLaw s) : SpanLaw t := by
  cases c
  case hardReset => cases hx; exact ⟨Span.law_clear rfl rfl rfl nofun, Span.law_clear rfl rfl rfl nofun⟩
  case imageLoadComplete => cases hx; exact h.event fun u hu => hu.loadComplete _
  case lossOfLight => cases hx; exact h.event fun u hu => hu.lightOff
  case receiveFrame => cases hx; exact h.receivePeriod _
  case localFrameBoundary => cases hx; exact h.localBoundary _
  case superframeBoundary => cases hx; exact h.superframeBoundary _
  case masterAbsenceExpiry => cases hx; exact h.event fun u hu => hu.absenceExpiry
  case wrapHoldoffExpiry => cases hx; exact h.event fun u hu => hu.holdoffExpiry
  case restoreHoldExpiry => cases hx; exact h.restoreExpiry
  case unwrapApply => cases hx; exact h.event fun u hu => hu.unwrapNow
  case loop =>
    cases hx
    refine h.event fun u hu => State.runAct_keeps (fun hv o => hv.of_onlyIn (o.mono (by decide))) (fun c v hv => ?_) hu
    split
    · exact hv.setLoop _
    · exact hv
  all_goals exact h.of_onlyIn ((exec_onlyIn hx).mono (by simp [touches, groupsButRing]))

end Sys2Proof.Machine
end

section
/-! Every step keeps the local numbers and the two counts within their ranges (R24, R33, R35). -/

namespace Sys2Proof.Machine

variable {l : List Group} {s t u : State} {p q : Side}

/-! ### A good frame's numbers (R3) -/

theorem wordAt_lt (l : List Byte) (i : Nat) : wordAt l i < 65536 := by
  unfold wordAt
  omega

theorem frameAt_header (l : List Byte) : (frameAt l).header = headerAt (l.take 16) := by
  unfold frameAt
  split <;> rfl

/-- A frame is judged good with a frame number of 47 or less alone (R3), and its superframe number has 16 bits. -/
theorem judgeFrame_bounds {period : List Byte} {f : Frame} (h : judgeFrame period = some f) :
    f.header.frame < 48 ∧ f.header.superframe < 65536 := by
  unfold judgeFrame at h
  dsimp only at h
  split at h
  · next hg =>
    obtain ⟨-, -, -, hn⟩ := hg
    cases h
    rw [frameAt_header]
    have e : byteAt ((period.drop 2).take 16) 0 = byteAt (period.drop 2) 0 := by simp [byteAt]
    refine ⟨?_, wordAt_lt _ _⟩
    simp only [headerAt, e]
    omega
  · cases h

/-! ### What leaves the numbers -/

/-- Every group but the two that hold the numbers. -/
def groupsButNumbers : List Group := [.straps, .portE, .portW, .ring, .service, .plan, .present, .checker, .audio,
  .preamp, .tracking, .buses, .talk, .lines, .sets, .notices, .counters, .image, .pending]

/-- The local numbers and the two counts are as they were. -/
structure SameNumbers (s t : State) : Prop where
  frame : t.timing.frame = s.timing.frame
  superframe : t.timing.superframe = s.timing.superframe
  absence : t.timing.masterAbsence = s.timing.masterAbsence
  isolation : t.members.isolation = s.members.isolation

theorem SameNumbers.refl : SameNumbers s s := ⟨rfl, rfl, rfl, rfl⟩

theorem SameNumbers.trans (h : SameNumbers s t) (k : SameNumbers t u) : SameNumbers s u :=
  ⟨k.frame.trans h.frame, k.superframe.trans h.superframe, k.absence.trans h.absence, k.isolation.trans h.isolation⟩

theorem SameNumbers.of_onlyIn (h : OnlyIn groupsButNumbers s t) : SameNumbers s t := by
  have ht : t.timing = s.timing := h.at .timing (by decide)
  have hm : t.members = s.members := h.at .members (by decide)
  exact ⟨by rw [ht], by rw [ht], by rw [ht], by rw [hm]⟩

/-- A membership record written keeps the numbers where the isolation count stays. -/
theorem SameNumbers.setMembers {x : Members} (h : x.isolation = s.members.isolation) : SameNumbers s (s.setMembers x) :=
  ⟨rfl, rfl, rfl, h⟩

/-- What one operation keeps for each index, a fold of them keeps. -/
theorem SameNumbers.foldl {α : Type} {f : State → α → State} (hf : ∀ u a, SameNumbers u (f u a)) (q : List α) :
    SameNumbers s (q.foldl f s) := foldl_keeps (p := SameNumbers s) (fun u a hu => hu.trans (hf u a)) q .refl

theorem SameNumbers.event {f : State → State} (hf : ∀ u, SameNumbers u (f u)) : SameNumbers s (s.event f) :=
  (SameNumbers.of_onlyIn (t := s.setRaised []) (by simp [groupsButNumbers])).trans
    ((hf _).trans (.of_onlyIn ((State.event_only f).mono (by decide))))

theorem State.setClock_same (c : ClockState) : SameNumbers s (s.setClock c) := by
  unfold State.setClock
  split <;> exact ⟨rfl, rfl, rfl, rfl⟩

theorem State.redetermine_same : SameNumbers s s.redetermine := .of_onlyIn (by simp [groupsButNumbers])

theorem State.absenceExpiry_same : SameNumbers s s.absenceExpiry := by
  unfold State.absenceExpiry
  split
  · refine .trans ?_ State.redetermine_same
    split
    · exact State.setClock_same _
    · exact .refl
  · exact .refl

theorem State.masterSeen_same : SameNumbers s s.masterSeen :=
  .trans (t := (s.setTiming { s.timing with masterInPeriod := true }).setRing { s.ring with masterTaken := true })
    ⟨rfl, rfl, rfl, rfl⟩ State.redetermine_same

/-- A reachability record, and what follows from it, leaves the isolation count. -/
theorem State.setReach_same (n : NodeId) (r : Reach) : SameNumbers s (s.setReach n r) := by
  have k : SameNumbers s (s.setMembers { s.members with reach := s.members.reach.put n.val r }) := .setMembers rfl
  unfold State.setReach
  dsimp only
  refine k.trans (.of_onlyIn ?_)
  (repeat' split) <;> simp [groupsButNumbers]

theorem State.takeRoster_same (roster : Byte) : SameNumbers s (s.takeRoster roster) :=
  .foldl (fun _ _ => State.setReach_same _ _) _

theorem State.isolationExpiry_same : SameNumbers s s.isolationExpiry := by
  unfold State.isolationExpiry
  split
  · refine .trans (SameNumbers.setMembers (x := { s.members with isolationOwed := false }) rfl) (.foldl (fun u n => ?_) _)
    dsimp only
    split
    · exact .refl
    · exact State.setReach_same _ _
  · exact .refl

theorem State.takeReturn_same (h : Header) (slots : Tab Sample 128) : SameNumbers s (s.takeReturn h slots) := by
  unfold State.takeReturn State.arbitrate
  dsimp only
  (repeat' split) <;> exact ⟨rfl, rfl, rfl, rfl⟩

theorem State.takeLists_same (h : Header) : SameNumbers s (s.takeLists h) := by
  unfold State.takeLists
  (repeat' split) <;> first | exact State.takeRoster_same _ | exact ⟨rfl, rfl, rfl, rfl⟩

theorem State.originate_same : SameNumbers s s.originate := by
  unfold State.originate
  dsimp only
  split
  · have a : SameNumbers s s.originLists := by
      unfold State.originLists
      split <;> exact ⟨rfl, rfl, rfl, rfl⟩
    have b : SameNumbers s.originLists (s.originLists.laneTurn s.originLists.timing.frame) :=
      .of_onlyIn (by simp [groupsButNumbers])
    have c (u : State) : SameNumbers u u.originRoster := by
      unfold State.originRoster
      split
      · exact .trans (t := u.setMembers { u.members with returnedMarks := none }) ⟨rfl, rfl, rfl, rfl⟩ (State.takeRoster_same _)
      · exact .refl
    refine .trans (a.trans (b.trans ?_)) (c _)
    split
    · exact .of_onlyIn (by simp [groupsButNumbers])
    · exact .refl
  · exact .refl

theorem State.frameWork_same (inputs : Tab Sample 64) : SameNumbers s (s.frameWork inputs) := by
  have done (u : State) : SameNumbers u (u.dropOutgoing.setTiming { u.dropOutgoing.timing with frameOwed := false }) :=
    .trans (t := u.dropOutgoing) (.of_onlyIn (by simp [groupsButNumbers])) ⟨rfl, rfl, rfl, rfl⟩
  unfold State.frameWork
  exact .trans (.of_onlyIn (by simp [groupsButNumbers])) (.trans State.originate_same (done _))

theorem State.settle_same : SameNumbers s s.settle := by
  have a : SameNumbers s (((s.ringCell.consoleCell).event State.absenceExpiry).event State.isolationExpiry) :=
    .trans (.of_onlyIn (by simp [groupsButNumbers]))
      (.trans (.event fun _ => State.absenceExpiry_same) (.event fun _ => State.isolationExpiry_same))
  have b : SameNumbers s s.settleRing := by
    refine a.trans (.of_onlyIn ?_)
    unfold State.settleRing
    dsimp only
    rw [OnlyIn.forSides, OnlyIn.forSides, OnlyIn.forSides] <;> simp [groupsButNumbers]
  exact b.trans (.of_onlyIn ((OnlyIn.settleBlocks (by simp [groupsButNumbers])).mpr OnlyIn.refl))

/-! ### The law of the numbers -/

theorem NumberLaw.of_same (h : NumberLaw s) (k : SameNumbers s t) : NumberLaw t := by
  simpa [NumberLaw, k.frame, k.superframe, k.absence, k.isolation] using h

theorem NumberLaw.of_onlyIn (h : NumberLaw s) (o : OnlyIn groupsButNumbers s t) : NumberLaw t := h.of_same (.of_onlyIn o)

theorem NumberLaw.event (h : NumberLaw s) {f : State → State} (hf : ∀ u, NumberLaw u → NumberLaw (f u)) :
    NumberLaw (s.event f) :=
  (hf _ (h.of_onlyIn (t := s.setRaised []) (by simp [groupsButNumbers]))).of_onlyIn ((State.event_only f).mono (by decide))

theorem NumberLaw.setNumbers (h : NumberLaw s) {superframe frame : Nat} (hf : frame < 48) (hs : superframe < 65536) :
    NumberLaw (s.setNumbers superframe frame) := by
  obtain ⟨-, -, ha, hi⟩ := h
  unfold State.setNumbers
  dsimp only
  split <;> exact ⟨hf, hs, ha, hi⟩

theorem NumberLaw.jump (h : NumberLaw s) {superframe frame : Nat} (hf : frame < 48) (hs : superframe < 65536) :
    NumberLaw (s.jump superframe frame) := by
  have k : NumberLaw (s.reached.laneJump superframe frame) := h.of_onlyIn (by simp [groupsButNumbers])
  unfold State.jump
  dsimp only
  refine (k.setNumbers hf hs).of_onlyIn ?_
  split <;> simp [groupsButNumbers]

/-- The counters are loaded from a good frame alone, whose numbers are within their ranges (R3, R35). -/
theorem NumberLaw.clockLock (h : NumberLaw s) {hd : Header} (hf : hd.frame < 48) (hs : hd.superframe < 65536) :
    NumberLaw (s.clockLock hd) := by
  have k : NumberLaw (s.loadCounters hd) := by
    unfold State.loadCounters
    split
    · exact h.of_onlyIn (by simp [groupsButNumbers])
    · exact h.jump hf hs
  unfold State.clockLock
  dsimp only
  split
  · exact k
  · exact (k.of_same (State.setClock_same .locked)).of_onlyIn (by simp [groupsButNumbers])

theorem NumberLaw.ringTraffic (h : NumberLaw s) {hd : Header} (hf : hd.frame < 48) (hs : hd.superframe < 65536)
    (slots : Tab Sample 128) (lane : Lane) : NumberLaw (s.ringTraffic hd slots lane) := by
  unfold State.ringTraffic
  dsimp only
  split
  · refine NumberLaw.of_onlyIn (s := if hd.masterOrigin = true then (s.takeReturn hd slots).masterSeen else
      s.takeReturn hd slots) ?_ (by simp [groupsButNumbers])
    have k := h.of_same (State.takeReturn_same hd slots)
    split
    · exact k.of_same State.masterSeen_same
    · exact k
  · refine NumberLaw.of_onlyIn (s := (if hd.masterOrigin = true then (s.clockLock hd).masterSeen else s).takeLists hd) ?_
      (by simp [groupsButNumbers])
    refine NumberLaw.of_same ?_ (State.takeLists_same hd)
    split
    · exact (h.clockLock hf hs).of_same State.masterSeen_same
    · exact h

theorem NumberLaw.takeFrame (h : NumberLaw s) {f : Frame} (hf : f.header.frame < 48) (hs : f.header.superframe < 65536) :
    NumberLaw (s.takeFrame p f) := by
  have k : NumberLaw (s.passTurned p f) := h.of_onlyIn (by simp [groupsButNumbers])
  unfold State.takeFrame
  dsimp only
  split
  · split
    · exact k.ringTraffic hf hs _ _
    · exact k
  · exact k

theorem NumberLaw.deliver (h : NumberLaw s) {f : Frame} (hf : f.header.frame < 48) (hs : f.header.superframe < 65536) :
    NumberLaw (s.deliver p f) := by
  have k (x : Port) (y : PortFlags) : NumberLaw (((s.setPort p x).setFlags p y).control p f) :=
    h.of_onlyIn (by simp [groupsButNumbers])
  unfold State.deliver
  dsimp only
  split
  · exact k _ _
  · exact (k _ _).takeFrame hf hs

theorem NumberLaw.receive (h : NumberLaw s) (period : List Byte) : NumberLaw (s.receive p period) := by
  have search {f : Frame} (hj : judgeFrame period = some f) (r : Option Reference) : NumberLaw (s.searchFrame p r f) := by
    obtain ⟨hf, hs⟩ := judgeFrame_bounds hj
    unfold State.searchFrame
    split
    · split
      · exact h.deliver hf hs
      · exact h.of_onlyIn (by simp [groupsButNumbers])
    · split
      · exact h.of_onlyIn (by simp [groupsButNumbers])
      · exact h
  unfold State.receive
  split
  · next hj => exact h.deliver (judgeFrame_bounds hj).1 (judgeFrame_bounds hj).2
  · exact h.of_onlyIn (by simp [groupsButNumbers])
  · next hj => exact search hj _
  · split
    · exact h.of_onlyIn (by simp [groupsButNumbers])
    · exact h
  · next hj => exact search hj _
  · exact h

theorem NumberLaw.receivePeriod (h : NumberLaw s) (period : List Byte) : NumberLaw (s.receivePeriod p period) := by
  have a : NumberLaw (s.event State.absenceExpiry) := h.event fun _ hu => hu.of_same State.absenceExpiry_same
  have k : NumberLaw ((s.event State.absenceExpiry).keepReceived p period) := a.of_onlyIn (by simp [groupsButNumbers])
  unfold State.receivePeriod
  dsimp only
  split
  · exact h
  · split
    · exact k.event fun u hu => hu.receive _
    · exact k

/-! ### Boundaries and start -/

/-- The counting of a boundary keeps the ranges: frames wrap at 48, superframes at 65536, the absence count stops at 8
(R24, R35). -/
theorem NumberLaw.advance (h : NumberLaw s) : NumberLaw s.advance := by
  have count (u : State) (hu : NumberLaw u) : NumberLaw (u.setTiming u.timing.advance) := by
    obtain ⟨hf, hs, ha, hi⟩ := hu
    refine ⟨Nat.mod_lt _ (by decide), ?_, ?_, hi⟩
    · simp only [State.setTiming_timing, Timing.advance, sfAdd]
      split <;> omega
    · simp only [State.setTiming_timing, Timing.advance, Timing.absence]
      split <;> omega
  have cell : NumberLaw (if s.timing.frame % 8 = 7 then s.nextCellTime else s) := by
    refine h.of_onlyIn ?_
    split <;> simp [groupsButNumbers]
  have last (u v : State) (hu : NumberLaw u) (o : OnlyIn groupsButNumbers u v) :
      NumberLaw (if v.timing.masterAbsence = 0 then v.redetermine else v) := by
    split
    · exact (hu.of_onlyIn o).of_same State.redetermine_same
    · exact hu.of_onlyIn o
  unfold State.advance
  exact last _ _ (count _ cell) (by simp [groupsButNumbers])

/-- The isolation count stops at 8 (R33). -/
theorem NumberLaw.superframe (h : NumberLaw s) (levels : Tab Bool 8) : NumberLaw (s.superframe levels) := by
  obtain ⟨hf, hs, ha, -⟩ := h
  have hi : s.isolationCount ≤ 8 := by
    unfold State.isolationCount
    split <;> omega
  have k : NumberLaw (s.setMembers { s.members with
      isolation := s.isolationCount, isolationOwed := s.isolationReached, grants := .fill 6 none }) := ⟨hf, hs, ha, hi⟩
  unfold State.superframe
  exact k.of_onlyIn (by simp [groupsButNumbers])

theorem NumberLaw.begin (h : NumberLaw s) (levels : Tab Bool 8) : NumberLaw (s.begin levels) := by
  have k : NumberLaw (s.settle.event State.advance) :=
    NumberLaw.event (h.of_same State.settle_same) fun _ hu => hu.advance
  unfold State.begin
  dsimp only
  split
  · exact k.superframe levels
  · exact k

theorem NumberLaw.localBoundary (h : NumberLaw s) (inputs : Tab Sample 64) : NumberLaw (s.localBoundary inputs) := by
  have work (u : State) (hu : NumberLaw u) : NumberLaw (u.event (·.frameWork inputs)) :=
    hu.event fun _ hv => hv.of_same (State.frameWork_same inputs)
  have k := h.begin s.lines.levels
  unfold State.localBoundary
  dsimp only
  split
  · exact h
  · split
    · exact work _ (h.of_same State.settle_same)
    · split
      · exact work _ (k.of_same State.settle_same)
      · exact work _ k

theorem NumberLaw.superframeBoundary (h : NumberLaw s) (levels : Tab Bool 8) : NumberLaw (s.superframeBoundary levels) := by
  unfold State.superframeBoundary
  split
  · exact h.begin levels
  · exact h

theorem State.enablePorts_same : SameNumbers s s.enablePorts := by
  have run (u v : State) (o : OnlyIn groupsButNumbers (u.setTiming { u.timing with running := true, frameOwed := true }) v) :
      SameNumbers u v :=
    .trans (t := u.setTiming { u.timing with running := true, frameOwed := true }) ⟨rfl, rfl, rfl, rfl⟩ (.of_onlyIn o)
  unfold State.enablePorts
  dsimp only
  refine .trans (.of_onlyIn ?_) (run (s.forSides fun p s => s.setPort p { s.port p with enabled := true }) _ ?_)
  · simp [groupsButNumbers, State.forSides]
  · split <;> simp [groupsButNumbers, State.forSides]

theorem NumberLaw.loadComplete (h : NumberLaw s) (memory : Option (List Byte)) : NumberLaw (s.loadComplete memory) := by
  unfold State.loadComplete
  split
  · exact NumberLaw.of_same (h.of_onlyIn (by simp [groupsButNumbers])) State.enablePorts_same
  · exact h

/-- A RESTART clears the grant list of the membership group and nothing else of it or of the timing (R182). -/
theorem State.restartCleared_same : SameNumbers s s.restartCleared := by
  unfold State.restartCleared
  refine .trans (t := s.setMembers { s.members with grants := .fill 6 none }) ⟨rfl, rfl, rfl, rfl⟩ (.of_onlyIn ?_)
  simp [groupsButNumbers]

theorem NumberLaw.restartAct (h : NumberLaw s) : NumberLaw s.restartAct.1 := by
  have cleared (u : State) (hu : NumberLaw u) : NumberLaw u.restartCleared := hu.of_same State.restartCleared_same
  have finish (u : State) (hu : NumberLaw u) : NumberLaw u.restartConverters.raiseRestarted :=
    hu.of_onlyIn (by simp [groupsButNumbers])
  unfold State.restartAct
  split
  · exact h
  · exact finish _ (cleared _ (h.of_onlyIn (by simp [groupsButNumbers])))

/-- Every command keeps the law of the numbers. -/
theorem exec_keeps_numberLaw {c : Instr} (hx : exec c s = .next t) (h : NumberLaw s) : NumberLaw t := by
  cases c
  case hardReset => cases hx; exact ⟨Nat.zero_lt_succ 47, Nat.zero_lt_succ 65535, Nat.zero_le 8, Nat.zero_le 8⟩
  case imageLoadComplete => cases hx; exact h.event fun u hu => hu.loadComplete _
  case receiveFrame => cases hx; exact h.receivePeriod _
  case localFrameBoundary => cases hx; exact h.localBoundary _
  case superframeBoundary => cases hx; exact h.superframeBoundary _
  case masterAbsenceExpiry => cases hx; exact h.event fun u hu => hu.of_same State.absenceExpiry_same
  case isolationCountExpiry => cases hx; exact h.event fun u hu => hu.of_same State.isolationExpiry_same
  case restart =>
    cases hx
    exact h.event fun u hu => State.runAct_keeps (fun hv o => hv.of_onlyIn (o.mono (by decide))) (fun c v hv => hv.restartAct) hu
  all_goals exact h.of_onlyIn ((exec_onlyIn hx).mono (by simp [touches, groupsButNumbers]))

/-! ### The step -/

/-- What every command keeps, and the queue of waiting commands does not matter to, every step keeps. -/
theorem step_keeps {P : State → Prop} (hp : ∀ u q, P u → P (u.setPending q))
    (he : ∀ c u v, exec c u = .next v → P u → P v) (hx : step s = .next t) (h : P s) : P t := by
  unfold step at hx
  split at hx
  · exact he _ _ _ hx (hp _ _ h)
  · cases hx
    exact h

/-- Settles O59: each of the three laws is kept by every command, and the queue of waiting commands is none of theirs. -/
theorem numbersPortsAndSpansKept : Obligations.NumbersPortsAndSpansKept := fun _ _ hx =>
  ⟨step_keeps (fun _ _ h => h) (fun _ _ _ => exec_keeps_numberLaw) hx,
    step_keeps (fun _ _ h => h) (fun _ _ _ => exec_keeps_portLaw) hx,
    step_keeps (fun _ _ h => h) (fun _ _ _ => exec_keeps_spanLaw) hx⟩

end Sys2Proof.Machine
end

section
/-! A frame judged from its bytes is the frame that was sent (R1 to R3, R184). -/

namespace Sys2Proof.Machine

/-! ### Bytes read back (R183) -/

theorem byteAt_drop (l : List Byte) (n i : Nat) : byteAt (l.drop n) i = byteAt l (n + i) := by
  simp [byteAt]

theorem byte_toNat {n : Nat} (h : n < 256) : (byte n).toNat = n := by
  simp only [byte, BitVec.toNat_ofNat]
  omega

/-- A two-byte number reads back (R183). -/
theorem word16_read {n : Nat} (h : n < 65536) : (byte n).toNat + 256 * (byte (n / 256)).toNat = n := by
  simp only [byte, BitVec.toNat_ofNat]
  omega

/-- A sample reads back from its three bytes (R183). -/
theorem sampleAt_sampleBytes (x : Sample) (l : List Byte) : sampleAt (sampleBytes x ++ l) 0 = x := by
  apply BitVec.eq_of_toNat_eq
  have h := x.isLt
  simp only [sampleAt, sampleBytes, word24, byteAt, byte, BitVec.toNat_ofNat, List.cons_append, List.nil_append,
    List.getD_cons_zero, List.getD_cons_succ]
  omega

theorem sampleAt_drop (l : List Byte) (n i : Nat) : sampleAt (l.drop n) i = sampleAt l (n + i) := by
  simp [sampleAt, byteAt_drop, Nat.add_assoc]

@[simp] theorem sampleBytes_length (x : Sample) : (sampleBytes x).length = 3 := rfl

theorem length_flatMap_sampleBytes (xs : List Sample) : (xs.flatMap sampleBytes).length = 3 * xs.length := by
  simp [Nat.mul_comm]

/-- Three bytes a sample: sample i begins at byte 3i. -/
theorem drop_flatMap_sampleBytes (xs : List Sample) (i : Nat) :
    (xs.flatMap sampleBytes).drop (3 * i) = (xs.drop i).flatMap sampleBytes := by
  induction i generalizing xs with
  | zero => rfl
  | succ i ih =>
    cases xs with
    | nil => simp
    | cons x xs => exact ih xs

/-- Sample i of a run of samples that starts at byte 16 (R1). -/
theorem sampleAt_slots {header l : List Byte} (xs : List Sample) {i : Nat} (hh : header.length = 16) (hi : i < xs.length) :
    sampleAt (header ++ xs.flatMap sampleBytes ++ l) (16 + 3 * i) = xs[i] := by
  have e : ((header ++ xs.flatMap sampleBytes ++ l).drop 16).drop (3 * i) = (xs.drop i).flatMap sampleBytes ++ l := by
    rw [List.append_assoc, List.drop_left' hh,
      List.drop_append_of_le_length (by rw [length_flatMap_sampleBytes]; omega), drop_flatMap_sampleBytes]
  have k := sampleAt_drop (header ++ xs.flatMap sampleBytes ++ l) (16 + 3 * i) 0
  rw [← List.drop_drop, e, List.drop_eq_getElem_cons hi, List.flatMap_cons, List.append_assoc, sampleAt_sampleBytes] at k
  exact k.symm

/-- A table reads back from a list that begins with its entries. -/
theorem Tab.ofList_toList {α : Type} [Inhabited α] {n : Nat} (t : Tab α n) (d : α) (l : List α) :
    Tab.ofList n d (t.toList ++ l) = t := by
  refine Tab.ext_get fun i hi => ?_
  have hl : i < t.toList.length := by rw [t.length_eq]; exact hi
  rw [Tab.ofList, Tab.get_ofFn _ hi]
  simp [Tab.get, List.getElem?_append_left hl, hl]

/-! ### Headers (R184) -/

theorem Header.bytes_length (h : Header) (supervision : Bool) : (h.bytes supervision).length = 16 := by
  simp [Header.bytes, word16, h.rest.length_eq]

/-- The five flags stand in bits 0 to 4 of the flags byte (R184). -/
theorem flags_read (m t s f r : Bool) : bitAt (byte (ofFlags [m, t, s, f, r])) 0 = m
    ∧ bitAt (byte (ofFlags [m, t, s, f, r])) 1 = t ∧ bitAt (byte (ofFlags [m, t, s, f, r])) 2 = s
    ∧ bitAt (byte (ofFlags [m, t, s, f, r])) 3 = f ∧ bitAt (byte (ofFlags [m, t, s, f, r])) 4 = r := by
  revert m t s f r
  decide

/-- The 16 bytes of a header read back as it, where its numbers fit theirs (R184). -/
theorem headerAt_bytes (h : Header) (supervision : Bool) (hf : h.frame < 256) (hs : h.superframe < 65536) :
    headerAt (h.bytes supervision) = h := by
  obtain ⟨hm, ht, -, hff, hr⟩ := flags_read h.masterOrigin h.turned supervision h.farFault h.restoreReady
  have hrest : Tab.ofList 10 0 h.rest.toList = h.rest := by simpa using Tab.ofList_toList h.rest 0 []
  cases h
  simp_all [headerAt, Header.bytes, word16, byteAt, wordAt, byte_toNat, word16_read]

/-- The supervision-only flag stands in bit 2 of byte 3 (R184). -/
theorem supervisionFlag_bytes (h : Header) (supervision : Bool) (l : List Byte) :
    bitAt (byteAt (h.bytes supervision ++ l) 3) 2 = supervision :=
  (flags_read h.masterOrigin h.turned supervision h.farFault h.restoreReady).2.2.1

/-! ### Frames -/

/-- The header bytes of a frame of either kind. -/
def Frame.headerBytes (f : Frame) : List Byte := f.header.bytes (!f.isPrimary)

/-- What follows the header among the covered bytes: slots and lane, or nothing (R2). -/
def Frame.body : Frame → List Byte
  | .primary _ slots lane => slots.toList.flatMap sampleBytes ++ lane.toList
  | .supervision _ => []

theorem Frame.covered_eq (f : Frame) : f.covered = f.headerBytes ++ f.body := by
  cases f <;> simp [Frame.covered, Frame.headerBytes, Frame.body, Frame.header, Frame.isPrimary]

theorem Frame.covered_byte0 (f : Frame) (l : List Byte) : byteAt (f.covered ++ l) 0 = byte f.header.frame := by
  rw [f.covered_eq]
  rfl

/-- The length that a frame's own flag gives is that of its covered bytes (R2). -/
theorem Frame.coveredLength_eq (f : Frame) (l : List Byte) : coveredLength (f.covered ++ l) = f.covered.length := by
  unfold coveredLength
  rw [f.covered_eq, List.append_assoc, Frame.headerBytes, supervisionFlag_bytes]
  cases f <;> simp [Frame.body, Frame.isPrimary, Header.bytes_length, Tab.length_eq]

/-- The covered bytes of a frame, whatever follows them, read back as the frame (R184). -/
theorem frameAt_covered (f : Frame) (l : List Byte) (hf : f.header.frame < 256) (hs : f.header.superframe < 65536) :
    frameAt (f.covered ++ l) = f := by
  have hh : headerAt ((f.covered ++ l).take 16) = f.header := by
    rw [f.covered_eq, List.append_assoc, Frame.headerBytes, List.take_left' (Header.bytes_length _ _)]
    exact headerAt_bytes _ _ hf hs
  unfold frameAt
  rw [hh, f.covered_eq, List.append_assoc, Frame.headerBytes, supervisionFlag_bytes]
  cases f with
  | supervision h => rfl
  | primary h slots lane =>
    have hslots : (Tab.ofFn 128 fun i => sampleAt (h.bytes false ++ ((slots.toList.flatMap sampleBytes ++ lane.toList) ++ l))
        (16 + 3 * i)) = slots := by
      refine Tab.ext_get fun i hi => ?_
      have hl : i < slots.toList.length := by rw [slots.length_eq]; exact hi
      rw [Tab.get_ofFn _ hi, List.append_assoc, ← List.append_assoc, sampleAt_slots _ (h.bytes_length _) hl]
      simp [Tab.get, List.getD_eq_getElem?_getD, hl]
    have hlane : Tab.ofList 3 0 ((h.bytes false ++ ((slots.toList.flatMap sampleBytes ++ lane.toList) ++ l)).drop 400) = lane := by
      rw [List.append_assoc, ← List.append_assoc, List.drop_left' (by simp [Header.bytes_length, slots.length_eq])]
      exact Tab.ofList_toList lane 0 l
    simp only [Frame.isPrimary, Frame.body, Frame.header, Bool.not_true, Bool.false_eq_true, if_false, hslots, hlane]

/-- A frame number of 48 or more makes a frame bad, whatever its CRC (R3). -/
theorem judgeFrame_of_badNumber {f : Frame} (h : 48 ≤ f.header.frame) (hf : f.header.frame < 256) :
    judgeFrame f.bytes = none := by
  have e : f.bytes.drop 2 = f.covered ++ crc16Bytes f.covered := rfl
  unfold judgeFrame
  rw [if_neg]
  rintro ⟨-, -, -, hn⟩
  rw [e, f.covered_byte0, byte_toNat hf] at hn
  omega

/-- Settles O7, by reading back the header, the slots and the lane one after the other. -/
theorem framesReadBackAsSent : Obligations.FramesReadBackAsSent := by
  refine fun f hs => ⟨fun hf => ?_, judgeFrame_of_badNumber⟩
  rw [judgeFrame_bytes (f.coveredLength_eq _) (by rw [f.covered_byte0, byte_toNat (by omega)]; exact hf)]
  rw [frameAt_covered f _ (by omega) hs]

end Sys2Proof.Machine
end

section
/-! What the ring controller leaves of the partner fields and of the filed slots, light and its loss (R5, R10, R11, R15, R45). -/

namespace Sys2Proof.Machine

variable {l : List Group} {s t u : State} {p q : Side}

/-! ### Partner fields (R45) -/

/-- The partner fields of both spans are as they were. -/
def SamePartners (s t : State) : Prop :=
  ∀ q, (t.span q).partner = (s.span q).partner ∧ (t.span q).partnerReady = (s.span q).partnerReady

theorem SamePartners.refl : SamePartners s s := fun _ => ⟨rfl, rfl⟩

theorem SamePartners.trans (h : SamePartners s t) (k : SamePartners t u) : SamePartners s u := fun q =>
  ⟨(k q).1.trans (h q).1, (k q).2.trans (h q).2⟩

theorem SamePartners.of_spans (h : ∀ q, t.span q = s.span q) : SamePartners s t := fun q => by simp [h q]

theorem SamePartners.setSpan {x : Span} (hp : x.partner = (s.span p).partner)
    (hr : x.partnerReady = (s.span p).partnerReady) : SamePartners s (s.setSpan p x) := fun q => by
  by_cases e : q = p
  · subst e; simp [hp, hr]
  · simp [State.setSpan_span_ne x e]

/-- The answer to an evaluation of the defect leaves the partner fields (R48, R49). -/
theorem Span.react_partner (x : Span) (defect : Bool) (sets : Sets) :
    (x.react defect sets).partner = x.partner ∧ (x.react defect sets).partnerReady = x.partnerReady := by
  unfold Span.react Span.failed
  (repeat' split) <;> exact ⟨rfl, rfl⟩

/-- It leaves the unwrap superframe or takes it away. -/
theorem Span.react_unwrap (x : Span) (defect : Bool) (sets : Sets) :
    (x.react defect sets).unwrap = x.unwrap ∨ (x.react defect sets).unwrap = none := by
  unfold Span.react Span.failed
  (repeat' split) <;> first | exact .inl rfl | exact .inr rfl

theorem State.react_partners : SamePartners s (s.react p) :=
  .setSpan (Span.react_partner _ _ _).1 (Span.react_partner _ _ _).2

theorem State.evaluate_partners : SamePartners s (s.evaluate p) := by
  unfold State.evaluate State.examine
  split
  · exact .refl
  · exact (State.react_partners.trans State.react_partners).trans (.of_spans fun _ => State.redetermine_span)

theorem State.nameUnwrap_partners : SamePartners s (s.nameUnwrap p) := by
  unfold State.nameUnwrap
  dsimp only
  (repeat' split) <;> first | exact .refl | exact .setSpan rfl rfl

theorem State.adoptUnwrap_partners (h : Header) : SamePartners s (s.adoptUnwrap p h) := by
  unfold State.adoptUnwrap
  dsimp only
  (repeat' split) <;> first | exact .refl | exact .setSpan rfl rfl

/-- Of the ring controller's share in a delivered frame, the update of the partner fields alone moves them (R45). -/
theorem State.control_partners (f : Frame) : SamePartners (s.updatePartner p f) (s.control p f) := by
  have k := (State.evaluate_partners (s := s.updatePartner p f) (p := p)).trans (State.nameUnwrap_partners (p := p))
  unfold State.control
  dsimp only
  split
  · exact k.trans (State.adoptUnwrap_partners _)
  · exact k

/-! ### The other side's record -/

theorem State.react_span_ne (h : q ≠ p) : (s.react p).span q = s.span q := State.setSpan_span_ne _ h

theorem State.evaluate_span_ne (h : q ≠ p) : (s.evaluate p).span q = s.span q := by
  unfold State.evaluate State.examine
  split
  · rfl
  · rw [State.redetermine_span, State.react_span_ne h, State.react_span_ne h]

/-! ### Filed slots -/

@[simp] theorem State.redetermine_slots : s.redetermine.present.slots = s.present.slots := by
  have o (u : State) : u.startDelay.present.slots = u.present.slots := by
    unfold State.startDelay
    (repeat' split) <;> rfl
  unfold State.redetermine State.setRingState
  split
  · rfl
  · exact o _

theorem State.evaluate_slots : (s.evaluate p).present.slots = s.present.slots := by
  have o : OnlyIn [.ring] s (s.examine p) := by simp
  have e : (s.examine p).present = s.present := o.at .present (by decide)
  unfold State.evaluate
  split
  · rfl
  · rw [State.redetermine_slots, e]

theorem State.absenceExpiry_slots : s.absenceExpiry.present.slots = s.present.slots := by
  unfold State.absenceExpiry State.setClock
  (repeat' split) <;> simp

/-! ### Flags -/

/-- Against all clear, exactly the set flags differ. -/
theorem PortFlags.changed_clear (a : PortFlags) : a.changed ⟨false, false, false, false⟩ = a := by
  simp [PortFlags.changed]

/-- Against LIGHT alone, of flags with LIGHT set the others that are set differ. -/
theorem PortFlags.changed_light {a : PortFlags} (h : a.light = true) :
    a.changed ⟨true, false, false, false⟩ = { a with light := false } := by
  simp [PortFlags.changed, h]

/-! ### Light (R5, R10) -/

/-- An event that replaces one port and raises nothing does no more. -/
theorem State.event_setPort {f : State → State} {x : Port} (h : f (s.setRaised []) = (s.setRaised []).setPort p x) :
    s.event f = s.setPort p x := by
  rw [State.event_quiet (by simp [h]), h]
  cases p <;> rfl

/-- A counter after an evaluation of the defect is as before it. -/
theorem State.evaluate_counter (k : CounterId) : (s.evaluate p).counter k = s.counter k :=
  (show OnlyIn [.ring, .present, .lines, .notices] s (s.evaluate p) by simp).counter_eq (by decide) k

theorem State.evaluate_port : (s.evaluate p).port q = s.port q :=
  OnlyIn.port_of_butPorts (by simp [groupsButPorts])

/-- The lock loss of a port is counted where it leaves LOCKED so that it counts (R15). -/
theorem State.toHunt_counter (light loss : Bool) (k : CounterId) : (s.toHunt p light loss).counter k =
    if (s.port p).lock = .locked ∧ loss = true then (s.bump (lossCounter p)).counter k else s.counter k := by
  unfold State.counter
  rw [State.toHunt_counters]
  split <;> rfl

theorem State.lightOn_eq (he : (s.port p).enabled = true) (hl : (s.port p).loop ≠ .internal) : s.lightOn p =
    (s.setPort p { s.port p with fibreLight := true }).setFlags p { (s.port p).flags with light := true } := by
  simp [State.lightOn, he, hl]

theorem State.lightOff_eq (he : (s.port p).enabled = true) (hl : (s.port p).loop ≠ .internal) : s.lightOff p =
    ((s.setPort p { s.port p with fibreLight := false, received := [] }).toHunt p false true).evaluate p := by
  simp [State.lightOff, he, hl]

/-- Light at a listening fibre (R5). -/
theorem lightDetected_spec (he : (s.port p).enabled = true) (hl : (s.port p).loop ≠ .internal) :
    ∃ t, exec (.lightDetected p) s = .next t ∧ OnlyIn [portGroup p, .notices, .counters] s t
      ∧ t.port p = { s.port p with
          fibreLight := true, flags := { (s.port p).flags with light := true }
          deltas := { (s.port p).deltas with light := (s.port p).deltas.light || !(s.port p).flags.light } } := by
  refine ⟨_, rfl, OnlyIn.event_self (by simp) fun u => ?_, ?_⟩
  · unfold State.lightOn
    dsimp only
    (repeat' split) <;> simp
  · rw [State.event_port, State.lightOn_eq (by simpa using he) (by simpa using hl), State.setFlags_port]
    simp [PortFlags.union, PortFlags.changed]

/-- Loss of light at a listening fibre (R10, R11, R15, R45). -/
theorem lossOfLight_spec (he : (s.port p).enabled = true) (hl : (s.port p).loop ≠ .internal) :
    ∃ t, exec (.lossOfLight p) s = .next t
      ∧ t.port p = { s.port p with
          fibreLight := false, received := [], lock := .hunt, reference := none, badRun := 0, flags := .clear
          deltas := (s.port p).deltas.union (s.port p).flags }
      ∧ t.port (oppositeSide p) = s.port (oppositeSide p)
      ∧ ((s.port p).lock = .locked →
          (t.span p).partner = none ∧ t.counter (lossCounter p) = min (s.counter (lossCounter p) + 1) 65535)
      ∧ ((s.port p).lock ≠ .locked → t.counter (lossCounter p) = s.counter (lossCounter p))
      ∧ CountersOutside [lossCounter p, .noticesLost] s t := by
  have hf := State.lightOff_eq (s := s.setRaised []) (p := p) (by simpa using he) (by simpa using hl)
  have hn : lossCounter p ≠ .noticesLost := by cases p <;> decide
  have hc (k : CounterId) (hk : k ≠ .noticesLost) : (s.event (·.lightOff p)).counter k =
      if (s.port p).lock = .locked then (s.bump (lossCounter p)).counter k else s.counter k := by
    rw [State.counter_event _ hk, hf, State.evaluate_counter, State.toHunt_counter]
    simp [State.counter, State.bump]
  refine ⟨_, rfl, ?_, ?_, fun h => ⟨?_, ?_⟩, fun h => ?_, fun k hk => ?_⟩
  · rw [State.event_port, hf, State.evaluate_port, State.toHunt_port]
    simp [PortFlags.changed_clear, PortFlags.clear]
  · rw [State.event_port, hf, State.evaluate_port, State.toHunt_port_ne _ _ oppositeSide_ne,
      State.setPort_port_ne _ oppositeSide_ne, State.setRaised_port]
  · rw [State.event_span, hf, (State.evaluate_partners p).1, State.toHunt_span]
    simp [h]
  · rw [hc _ hn, if_pos h, State.counter_bump_same]
  · rw [hc _ hn, if_neg h]
  · obtain ⟨hk₁, hk₂⟩ : k ≠ lossCounter p ∧ k ≠ .noticesLost := by simpa using hk
    rw [hc _ hk₂]
    split
    · exact State.counter_bump_ne hk₁
    · rfl

/-- Settles O8: outside the INTERNAL loop by the rules of flags and HUNT; inside it, and at a disabled port, nothing is
raised. -/
theorem lightAndItsLoss : Obligations.LightAndItsLoss := by
  refine fun p s => ⟨fun he hl => ⟨lightDetected_spec he hl, lossOfLight_spec he hl⟩, fun he hl => ⟨?_, ?_⟩, fun he => ⟨?_, ?_⟩⟩
  · exact congrArg _ (State.event_setPort (by simp [State.lightOn, he, hl]))
  · exact congrArg _ (State.event_setPort (by simp [State.lightOff, he, hl]))
  · exact congrArg _ (State.event_idle (by simp [State.lightOn, he]))
  · exact congrArg _ (State.event_idle (by simp [State.lightOff, he]))

end Sys2Proof.Machine
end

section
/-! One receive frame period at a listening port: the search for the boundary, delivery, bad frames (R3, R6 to R9, R15, R45). -/

namespace Sys2Proof.Machine

variable {l : List Group} {s t u v : State} {p q : Side} {period : List Byte} {f : Frame}

/-! ### Before the period is judged -/

/-- What a receive frame period at a listening port may touch short of ring traffic. -/
def receiveGroups (p : Side) : List Group := [portGroup p, .timing, .ring, .present, .lines, .notices, .counters]

/-- The state in which a period is judged: the absence that stood due is taken, and the LINE loop's bytes are kept. -/
structure Judging (p : Side) (s v : State) : Prop where
  only : OnlyIn (receiveGroups p) s v
  counters : CountersOutside [.noticesLost] s v
  slots : v.present.slots = s.present.slots
  spans : ∀ q, v.span q = s.span q
  port : v.port p = { s.port p with received := (v.port p).received }
  received : (s.port p).loop ≠ .line → (v.port p).received = (s.port p).received
  numbers : SameNumbers s v

/-- What the end of an event leaves of its doings: all but notices and the notices-lost counter. -/
structure Ended (v t : State) : Prop where
  only : OnlyIn [.notices, .counters] v t
  counters : CountersOutside [.noticesLost] v t

theorem Ended.port (h : Ended v t) : t.port q = v.port q := h.only.port_eq (by cases q <;> decide)

theorem Ended.span (h : Ended v t) : t.span q = v.span q := h.only.span_eq (by decide)

theorem Ended.slots (h : Ended v t) : t.present.slots = v.present.slots := by
  rw [show t.present = v.present from h.only.at .present (by decide)]

theorem Ended.counter (h : Ended v t) {k : CounterId} (hk : k ≠ .noticesLost) : t.counter k = v.counter k :=
  h.counters k (by simpa using hk)

theorem State.event_ended (f : State → State) : Ended (f (s.setRaised [])) (s.event f) :=
  ⟨State.event_only f, fun _ hk => State.counter_event f (by simpa using hk)⟩

/-- The expiry of the master-absence count leaves the ports and counts nothing (R35, R62). -/
theorem Judging.absence (p : Side) (s : State) : Judging p s (s.event State.absenceExpiry) where
  only := OnlyIn.event_self (by simp [receiveGroups]) fun u => by simp [receiveGroups]
  counters k hk := by
    rw [State.counter_event _ (by simpa using hk)]
    exact (show OnlyIn [.timing, .ring, .present, .lines, .notices] (s.setRaised []) (s.setRaised []).absenceExpiry by
      simp).counter_eq (by decide) k
  slots := by simp [State.absenceExpiry_slots]
  spans := by simp
  port := by
    rw [State.event_port, OnlyIn.port_of_butPorts (s := s.setRaised []) (by simp [groupsButPorts]), State.setRaised_port]
  received _ := by
    rw [State.event_port, OnlyIn.port_of_butPorts (s := s.setRaised []) (by simp [groupsButPorts]), State.setRaised_port]
  numbers := .event fun _ => State.absenceExpiry_same

theorem Judging.received_kept (h : Judging p s v) (period : List Byte) : Judging p s (v.keepReceived p period) := by
  unfold State.keepReceived
  split
  · next hr =>
    have hloop : (s.port p).loop = .line := by
      have e := congrArg Port.loop h.port
      exact e.symm.trans hr.2
    exact
      { only := (OnlyIn.setPort_side _ (by simp [receiveGroups])).mpr h.only
        counters := fun k hk => by simpa [State.counter] using h.counters k hk
        slots := by simpa using h.slots
        spans := by simpa using h.spans
        port := by rw [State.setPort_port_same, h.port]
        received := fun hl => absurd hloop hl
        numbers := h.numbers.trans (.of_onlyIn (by simp [groupsButNumbers])) }
  · exact h

theorem Judging.raised_cleared (h : Judging p s v) : Judging p s (v.setRaised []) where
  only := (OnlyIn.setRaised _ (by simp [receiveGroups])).mpr h.only
  counters := h.counters
  slots := h.slots
  spans := by simpa using h.spans
  port := by simpa using h.port
  received := by simpa using h.received
  numbers := ⟨h.numbers.frame, h.numbers.superframe, h.numbers.absence, h.numbers.isolation⟩

/-- One receive frame period at a listening port: what it hears is judged in a state that differs little from the one
before (R3, R17, R18). -/
theorem receiveFrame_spec (h : (s.port p).listens) (period : List Byte) : ∃ v t, exec (.receiveFrame p period) s = .next t
    ∧ Judging p s v ∧ Ended (v.receive p ((s.port p).hears period)) t := by
  obtain ⟨he, hl⟩ := h
  have k := (Judging.absence p s).received_kept period
  have hp := k.port
  refine ⟨_, _, rfl, k.raised_cleared, ?_⟩
  have hb : (((s.event State.absenceExpiry).keepReceived p period).port p).receiverBytes (period.take 407)
      = (s.port p).hears period := by
    rw [hp]
    rfl
  have hlight : (((s.event State.absenceExpiry).keepReceived p period).port p).flags.light = true := by
    rw [hp]
    exact hl
  unfold State.receivePeriod
  simp only [he, hlight, hb, Bool.not_true, Bool.false_eq_true, if_false, if_true]
  exact State.event_ended fun u => u.receive p ((s.port p).hears period)

theorem Judging.lock (h : Judging p s v) : (v.port p).lock = (s.port p).lock := by rw [h.port]
theorem Judging.reference (h : Judging p s v) : (v.port p).reference = (s.port p).reference := by rw [h.port]
theorem Judging.flags (h : Judging p s v) : (v.port p).flags = (s.port p).flags := by rw [h.port]
theorem Judging.deltas (h : Judging p s v) : (v.port p).deltas = (s.port p).deltas := by rw [h.port]
theorem Judging.badRun (h : Judging p s v) : (v.port p).badRun = (s.port p).badRun := by rw [h.port]
theorem Judging.loop (h : Judging p s v) : (v.port p).loop = (s.port p).loop := by rw [h.port]

/-- What touches nothing but these groups after the judging, and counts nothing, does so from the state before. -/
theorem Judging.only_trans (h : Judging p s v) (o : OnlyIn (receiveGroups p) v u) (e : Ended u t) :
    OnlyIn (receiveGroups p) s t :=
  (h.only.trans o).trans (e.only.mono (by simp [receiveGroups]))

/-! ### The search (R6, R7) -/

/-- A frame-0 marker confirms the reference 48 periods after it, where its superframe number is the next (R7). -/
theorem Reference.confirms_aged (r : Reference) (superframe : Nat) :
    r.aged.confirms superframe = true ↔ r.age = 47 ∧ superframe = (r.superframe + 1) % 65536 := by
  simp only [Reference.confirms, Reference.aged, sfAdd, Bool.and_eq_true, beq_iff_eq]
  refine and_congr_left fun _ => ?_
  omega

/-- Outside LOCKED a marker that confirms nothing becomes the reference (R6, R7). -/
theorem State.receive_marker {bytes : List Byte} (hl : (s.port p).lock ≠ .locked) (hj : judgeFrame bytes = some f)
    (h0 : f.header.frame = 0) (hc : ∀ r, (s.port p).lock = .presync → (s.port p).reference = some r →
      r.age ≠ 47 ∨ f.header.superframe ≠ (r.superframe + 1) % 65536) :
    s.receive p bytes = s.setReference p ⟨f.header.superframe, 0⟩ := by
  unfold State.receive
  cases hk : (s.port p).lock with
  | locked => exact absurd hk hl
  | hunt => simp [hj, State.searchFrame, h0]
  | presync =>
    cases hr : (s.port p).reference with
    | none => simp [hj, State.searchFrame, h0]
    | some r =>
      have hn : ¬ r.aged.confirms f.header.superframe = true := fun e => by
        obtain ⟨ha, hs⟩ := (r.confirms_aged _).mp e
        rcases hc r hk hr with k | k
        · exact k ha
        · exact k hs
      simp [hj, State.searchFrame, h0, hn]

/-- Outside LOCKED a period without a marker lets the reference age, where there is one (R7). -/
theorem State.receive_noMarker {bytes : List Byte} (hl : (s.port p).lock ≠ .locked)
    (hj : ∀ f, judgeFrame bytes = some f → f.header.frame ≠ 0) :
    ((s.port p).lock = .presync ∧ ∃ r, (s.port p).reference = some r ∧ s.receive p bytes = s.setReference p r.aged)
    ∨ (((s.port p).lock = .presync → (s.port p).reference = none) ∧ s.receive p bytes = s) := by
  unfold State.receive
  cases hb : judgeFrame bytes with
  | none =>
    cases hk : (s.port p).lock with
    | locked => exact absurd hk hl
    | hunt => simp
    | presync => cases hr : (s.port p).reference <;> simp
  | some f =>
    have h0 := hj f hb
    cases hk : (s.port p).lock with
    | locked => exact absurd hk hl
    | hunt => simp [State.searchFrame, h0]
    | presync => cases hr : (s.port p).reference <;> simp [State.searchFrame, h0]

/-- A search step touches its port alone, and nothing of it but lock state and reference. -/
structure Searching (p : Side) (v u : State) : Prop where
  only : OnlyIn [portGroup p] v u
  flags : (u.port p).flags = (v.port p).flags
  badRun : (u.port p).badRun = (v.port p).badRun

theorem State.setReference_searching (r : Reference) : Searching p v (v.setReference p r) :=
  ⟨by simp [State.setReference], by simp [State.setReference], by simp [State.setReference]⟩

/-- What is left as it was where a port outside LOCKED receives. -/
theorem Searching.frame (k : Searching p v u) (h : Judging p s v) (e : Ended u t) :
    OnlyIn (receiveGroups p) s t ∧ CountersOutside [.noticesLost] s t ∧ t.present.slots = s.present.slots
      ∧ (∀ q, t.span q = s.span q) ∧ (t.port p).flags = (s.port p).flags ∧ (t.port p).badRun = (s.port p).badRun := by
  have hring : .ring ∉ [portGroup p] := by cases p <;> decide
  have hcount : .counters ∉ [portGroup p] := by cases p <;> decide
  have hpresent : u.present = v.present := k.only.at .present (by cases p <;> decide)
  refine ⟨h.only_trans (k.only.mono (by simp [receiveGroups])) e, fun c hc => ?_, ?_, fun q => ?_, ?_, ?_⟩
  · rw [e.counters c hc, k.only.counter_eq hcount, h.counters c hc]
  · rw [e.slots, hpresent, h.slots]
  · rw [e.span, k.only.span_eq hring, h.spans]
  · rw [e.port, k.flags, h.flags]
  · rw [e.port, k.badRun, h.badRun]

/-- Settles O9: a marker becomes the reference, and without one the reference ages; either touches the port alone. -/
theorem markersOutsideLock : Obligations.MarkersOutsideLock := by
  intro p period s hlisten hl hc
  obtain ⟨v, t, hx, hv, he⟩ := receiveFrame_spec hlisten period
  have hlv : (v.port p).lock ≠ .locked := by rwa [hv.lock]
  by_cases hm : ∃ f, judgeFrame ((s.port p).hears period) = some f ∧ f.header.frame = 0
  · obtain ⟨f, hj, h0⟩ := hm
    rw [State.receive_marker hlv hj h0 fun r hk hr => hc r f (hv.lock ▸ hk) (hv.reference ▸ hr) hj h0] at he
    obtain ⟨ho, hcount, hs, hspan, hf, hb⟩ := (State.setReference_searching _).frame hv he
    refine ⟨t, hx, ho, hcount, hs, hspan, hf, hb, fun g hg _ => ?_, fun hn => absurd h0 (hn f hj)⟩
    obtain rfl : f = g := by simpa [hj] using hg
    rw [he.port]
    simp [State.setReference]
  · have hn : ∀ f, judgeFrame ((s.port p).hears period) = some f → f.header.frame ≠ 0 := fun f hj h0 => hm ⟨f, hj, h0⟩
    rcases State.receive_noMarker hlv hn with ⟨hk, r, hr, e⟩ | ⟨hk, e⟩
    · rw [e] at he
      obtain ⟨ho, hcount, hs, hspan, hf, hb⟩ := (State.setReference_searching _).frame hv he
      refine ⟨t, hx, ho, hcount, hs, hspan, hf, hb, fun g hg h0 => absurd h0 (hn g hg), fun _ => ⟨?_, fun r' _ hr' => ?_⟩⟩
      · rw [he.port, ← hv.lock, hk]
        simp [State.setReference]
      · obtain rfl : r = r' := by simpa [hv.reference, hr'] using hr.symm
        rw [he.port]
        simp [State.setReference, Reference.aged]
    · rw [e] at he
      obtain ⟨ho, hcount, hs, hspan, hf, hb⟩ := Searching.frame (p := p) ⟨OnlyIn.refl, rfl, rfl⟩ hv he
      refine ⟨t, hx, ho, hcount, hs, hspan, hf, hb, fun g hg h0 => absurd h0 (hn g hg), fun _ => ⟨?_, fun r' hk' hr' => ?_⟩⟩
      · rw [he.port, hv.lock]
      · rw [← hv.reference, hk (hv.lock.trans hk')] at hr'
        cases hr'

end Sys2Proof.Machine
end

section
/-! Delivered frames and bad frames (R7 to R9, R11, R15, R17, R18, R45). -/

namespace Sys2Proof.Machine

variable {l : List Group} {s t u v : State} {p q : Side} {f : Frame}

/-! ### Bad frames (R9) -/

theorem State.badFrame_few (h : (s.port p).badRun < 3) : s.badFrame p =
    (s.setPort p { s.port p with badRun := (s.port p).badRun + 1 }).bump (crcCounter p) := by
  unfold State.badFrame
  exact if_neg (by omega)

theorem State.badFrame_fourth (h : 3 ≤ (s.port p).badRun) : s.badFrame p =
    (((s.setPort p { s.port p with badRun := (s.port p).badRun + 1 }).bump (crcCounter p)).toHunt p
      (s.port p).flags.light true).evaluate p := by
  unfold State.badFrame
  simp [show 4 ≤ (s.port p).badRun + 1 by omega]

theorem crcCounter_ne_loss : crcCounter p ≠ lossCounter p := by cases p <;> decide

/-- The two counters of a bad frame are none of the notice queue's. -/
theorem crcCounter_ne_lost : crcCounter p ≠ .noticesLost := by cases p <;> decide

theorem lossCounter_ne_lost : lossCounter p ≠ .noticesLost := by cases p <;> decide

theorem State.counter_setPort (x : Port) (k : CounterId) : (s.setPort p x).counter k = s.counter k := by
  simp [State.counter]

/-- A bad frame in LOCKED counts one CRC error, and at the fourth in a row one lock loss; no other counter moves (R9, R15). -/
theorem State.badFrame_counter (hl : (s.port p).lock = .locked) (k : CounterId) : (s.badFrame p).counter k =
    if k = crcCounter p ∨ k = lossCounter p ∧ 3 ≤ (s.port p).badRun then min (s.counter k + 1) 65535 else s.counter k := by
  have crc (x : Port) : ((s.setPort p x).bump (crcCounter p)).counter k =
      if k = crcCounter p then min (s.counter k + 1) 65535 else s.counter k := by
    split
    · next e => rw [e, State.counter_bump_same, State.counter_setPort]
    · next e => rw [State.counter_bump_ne e, State.counter_setPort]
  rcases Nat.lt_or_ge (s.port p).badRun 3 with h | h
  · rw [State.badFrame_few h, crc]
    simp [Nat.not_le.mpr h]
  · rw [State.badFrame_fourth h, State.evaluate_counter, State.toHunt_counter, if_pos (by simp [hl])]
    by_cases e : k = lossCounter p
    · subst e
      rw [State.counter_bump_same, crc]
      simp [crcCounter_ne_loss.symm, h]
    · rw [State.counter_bump_ne e, crc]
      simp [e]

theorem State.badFrame_slots : (s.badFrame p).present.slots = s.present.slots := by
  have o (x : Port) (light : Bool) : OnlyIn [.portE, .portW, .ring, .notices, .counters] s
      (((s.setPort p x).bump (crcCounter p)).toHunt p light true) := by simp
  have e (x : Port) (light : Bool) := (o x light).at .present (by decide)
  simp only [Agree] at e
  rcases Nat.lt_or_ge (s.port p).badRun 3 with h | h
  · rw [State.badFrame_few h]
    simp [State.bump]
  · rw [State.badFrame_fourth h, State.evaluate_slots, e]

theorem State.badFrame_onlyIn : OnlyIn (receiveGroups p) s (s.badFrame p) := by
  unfold State.badFrame
  dsimp only
  split <;> simp [receiveGroups]

/-- Settles O11: a bad frame counts its CRC error in either case; at the fourth the port goes to HUNT. -/
theorem badFramesCostLock : Obligations.BadFramesCostLock := by
  intro p period s hlisten hlock hj
  obtain ⟨v, t, hx, hv, he⟩ := receiveFrame_spec hlisten period
  have hlv : (v.port p).lock = .locked := hv.lock.trans hlock
  have hr : v.receive p ((s.port p).hears period) = v.badFrame p := by
    unfold State.receive
    rw [hlv, hj]
  rw [hr] at he
  have hc (k : CounterId) (hk : k ≠ .noticesLost) : t.counter k =
      if k = crcCounter p ∨ k = lossCounter p ∧ 3 ≤ (s.port p).badRun then min (s.counter k + 1) 65535 else s.counter k := by
    rw [he.counter hk, State.badFrame_counter hlv, hv.badRun, hv.counters k (by simpa using hk)]
  have hfew (h : (s.port p).badRun < 3) : t.port p = { v.port p with badRun := (s.port p).badRun + 1 } := by
    rw [he.port, State.badFrame_few (by rwa [hv.badRun])]
    simp [hv.badRun]
  have hfourth (h : 3 ≤ (s.port p).badRun) : t.port p = { v.port p with
      lock := .hunt, reference := none, badRun := 0, flags := ⟨true, false, false, false⟩
      deltas := (s.port p).deltas.union { (s.port p).flags with light := false } } := by
    rw [he.port, State.badFrame_fourth (by rwa [hv.badRun]), State.evaluate_port, State.toHunt_port]
    simp [hv.deltas, hv.flags, hlisten.2, PortFlags.changed_light hlisten.2]
  have hrec : (t.port p).received = (v.port p).received := by
    rcases Nat.lt_or_ge (s.port p).badRun 3 with h | h
    · rw [hfew h]
    · rw [hfourth h]
  refine ⟨t, hx, hv.only_trans State.badFrame_onlyIn he, fun k hk => ?_, ?_, ?_, fun hline => ?_, fun h => ⟨?_, ?_⟩,
    fun h => ⟨?_, ?_⟩⟩
  · obtain ⟨h₁, h₂, h₃⟩ : k ≠ crcCounter p ∧ k ≠ lossCounter p ∧ k ≠ .noticesLost := by simpa using hk
    simp [hc k h₃, h₁, h₂]
  · rw [he.slots, State.badFrame_slots, hv.slots]
  · simp [hc _ crcCounter_ne_lost]
  · rw [hrec, hv.received hline]
  · rw [hrec, hfew h, hv.port]
  · simp [hc _ lossCounter_ne_lost, crcCounter_ne_loss.symm, h]
  · rw [hrec, hfourth h, hv.port]
  · simp [hc _ lossCounter_ne_lost, h]

/-! ### What the traffic of a delivered frame leaves of the partner fields (R45, R53) -/

theorem State.unwrapNow_span_ne (h : q ≠ p) : (s.unwrapNow p).span q = s.span q := by
  unfold State.unwrapNow
  split
  · rw [State.evaluate_span_ne h, State.redetermine_span, State.setSpan_span_ne _ h]
  · rfl

/-- An unwrap leaves the partner id and clears the partner's ready flag (R53). -/
theorem State.unwrapNow_partner : ((s.unwrapNow p).span p).partner = (s.span p).partner
    ∧ ((s.unwrapNow p).span p).partnerReady = (if s.unwrapDue p then false else (s.span p).partnerReady) := by
  unfold State.unwrapNow
  split
  · rw [(State.evaluate_partners p).1, (State.evaluate_partners p).2, State.redetermine_span]
    simp
  · exact ⟨rfl, rfl⟩

theorem State.unwrapNow_timing : (s.unwrapNow p).timing = s.timing :=
  (show OnlyIn [.ring, .present, .lines, .notices, .counters] s (s.unwrapNow p) by simp).at .timing (by decide)

/-- What a load takes first leaves a partner id, and clears a ready flag where that side's unwrap stands due (R53). -/
theorem State.reached_partner : (s.reached.span q).partner = (s.span q).partner
    ∧ (s.reached.span q).partnerReady = (if s.unwrapDue q then false else (s.span q).partnerReady) := by
  rw [State.reached_span]
  unfold State.forSides
  cases q with
  | e =>
    rw [State.unwrapNow_span_ne (by decide)]
    exact State.unwrapNow_partner
  | w =>
    have hs : (s.unwrapNow .e).span .w = s.span .w := State.unwrapNow_span_ne (by decide)
    have hd : (s.unwrapNow .e).unwrapDue .w = s.unwrapDue .w := by
      simp only [State.unwrapDue, hs, State.unwrapNow_timing]
    rw [State.unwrapNow_partner.1, State.unwrapNow_partner.2, hs, hd]
    exact ⟨rfl, rfl⟩

/-- The traffic of a delivered frame leaves the partner id, and the ready flag too unless the side's unwrap stands due. -/
theorem State.takeFrame_partner (p : Side) (f : Frame) : ((s.takeFrame p f).span q).partner = (s.span q).partner
    ∧ ((s.span q).partnerReady = false → ((s.takeFrame p f).span q).partnerReady = false)
    ∧ (s.unwrapDue q = false → ((s.takeFrame p f).span q).partnerReady = (s.span q).partnerReady) := by
  rcases s.takeFrame_span p f with e | ⟨u, o, e⟩
  · rw [e q]
    exact ⟨rfl, fun h => h, fun _ => rfl⟩
  · have hs : u.span q = s.span q := o.span_eq (by decide)
    have hd : u.unwrapDue q = s.unwrapDue q := by
      simp only [State.unwrapDue, hs, show u.timing = s.timing from o.at .timing (by decide)]
    rw [e q, State.reached_partner.1, State.reached_partner.2, hs, hd]
    refine ⟨rfl, fun h => ?_, fun h => ?_⟩
    · simp [h]
    · simp [h]

/-- A supervision frame carries no ring traffic (R57, R59). -/
theorem State.takeFrame_supervision (h : Header) : s.takeFrame p (.supervision h) = s := by
  simp [State.takeFrame, State.passTurned, Frame.isPrimary]

/-! ### Delivery (R8, R17, R45) -/

/-- A supervision frame that marks exactly one node names the partner, any other clears it (R45). -/
theorem State.updatePartner_supervision (h : Header) :
    (∀ q, markedNodes h.presence = [q] → ((s.updatePartner p (.supervision h)).span p).partner = some q)
    ∧ ((∀ q, markedNodes h.presence ≠ [q]) → ((s.updatePartner p (.supervision h)).span p).partner = none)
    ∧ ((s.updatePartner p (.supervision h)).span p).partnerReady =
        (if h.frame = 0 then h.restoreReady else (s.span p).partnerReady) := by
  unfold State.updatePartner
  dsimp only
  rw [State.setSpan_span_same]
  refine ⟨fun q hq => by rw [hq], fun hn => ?_, rfl⟩
  dsimp only
  split
  · next q hq => exact absurd hq (hn q)
  · rfl

/-- A primary frame leaves the partner, and its frame 0 clears the partner's ready flag (R45). -/
theorem State.updatePartner_primary (h : Header) (slots : Tab Sample 128) (lane : Lane) :
    (s.updatePartner p (.primary h slots lane)).span p =
      { s.span p with partnerReady := if h.frame = 0 then false else (s.span p).partnerReady } := by
  unfold State.updatePartner
  dsimp only
  split <;> simp

theorem State.updatePartner_timing (f : Frame) : (s.updatePartner p f).timing = s.timing :=
  (show OnlyIn [.ring] s (s.updatePartner p f) by simp).at .timing (by decide)

theorem State.evaluate_timing : (s.evaluate p).timing = s.timing :=
  (show OnlyIn [.ring, .present, .lines, .notices] s (s.evaluate p) by simp).at .timing (by decide)

/-- An evaluation of the defect leaves the unwrap superframe or takes it away (R48, R49). -/
theorem State.evaluate_unwrap : ((s.evaluate p).span p).unwrap = (s.span p).unwrap ∨ ((s.evaluate p).span p).unwrap = none := by
  have k (u : State) : ((u.react p).span p).unwrap = (u.span p).unwrap ∨ ((u.react p).span p).unwrap = none := by
    rw [State.react, State.setSpan_span_same]
    exact Span.react_unwrap _ _ _
  unfold State.evaluate State.examine
  split
  · exact .inl rfl
  · rw [State.redetermine_span]
    rcases k (s.react p) with e | e
    · rw [e]
      exact k s
    · exact .inr e

/-- The naming of an unwrap names the superframe four ahead, and leaves it otherwise (R51). -/
theorem State.nameUnwrap_unwrap : ((s.nameUnwrap p).span p).unwrap = (s.span p).unwrap
    ∨ ((s.nameUnwrap p).span p).unwrap = some (sfAdd s.timing.superframe 4) := by
  unfold State.nameUnwrap
  dsimp only
  (repeat' split) <;> simp

/-- The ring controller's share of a primary frame makes no unwrap due that was not: what it names is four superframes ahead
(R51, R53). -/
theorem State.control_unwrapDue (h : Header) (slots : Tab Sample 128) (lane : Lane)
    (hd : (s.span p).unwrap ≠ some s.timing.superframe ∨ s.timing.frame ≠ 0) :
    (s.control p (.primary h slots lane)).unwrapDue p = false := by
  have ht : (s.control p (.primary h slots lane)).timing = s.timing :=
    (show OnlyIn [.ring, .present, .lines, .notices] s _ by simp).at .timing (by decide)
  have hu : ((s.control p (.primary h slots lane)).span p).unwrap = (s.span p).unwrap
      ∨ ((s.control p (.primary h slots lane)).span p).unwrap = none
      ∨ ((s.control p (.primary h slots lane)).span p).unwrap = some (sfAdd s.timing.superframe 4) := by
    have a : (((s.updatePartner p (.primary h slots lane)).evaluate p).span p).unwrap = (s.span p).unwrap
        ∨ (((s.updatePartner p (.primary h slots lane)).evaluate p).span p).unwrap = none := by
      have b := State.evaluate_unwrap (s := s.updatePartner p (.primary h slots lane)) (p := p)
      rwa [State.updatePartner_primary] at b
    have c := State.nameUnwrap_unwrap (s := (s.updatePartner p (.primary h slots lane)).evaluate p) (p := p)
    rw [State.evaluate_timing, State.updatePartner_timing] at c
    rcases c with c | c
    · exact a.imp (c.trans ·) fun e => .inl (c.trans e)
    · exact .inr (.inr c)
  have hn : sfAdd s.timing.superframe 4 ≠ s.timing.superframe := by
    unfold sfAdd
    omega
  simp only [State.unwrapDue, ht]
  rcases hd with hd | hd
  · rcases hu with e | e | e <;> simp [e, hd, hn]
  · simp [hd]

/-- The state in which a delivered frame's traffic is taken: the port LOCKED, its flags as the frame says, and the ring
controller's share done (R8, R45). -/
def State.delivered (s : State) (p : Side) (f : Frame) : State :=
  ((s.setPort p { s.port p with lock := .locked, reference := none, badRun := 0 }).setFlags p
    ⟨(s.port p).flags.light, true, f.header.farFault, f.header.turned⟩).control p f

theorem State.delivered_port : (s.delivered p f).port p = { s.port p with
    lock := .locked, reference := none, badRun := 0
    flags := ⟨(s.port p).flags.light, true, f.header.farFault, f.header.turned⟩
    deltas := (s.port p).deltas.union
      ((s.port p).flags.changed ⟨(s.port p).flags.light, true, f.header.farFault, f.header.turned⟩) } := by
  have c (u : State) : (u.control p f).port p = u.port p := OnlyIn.port_of_butPorts (by simp [groupsButPorts])
  rw [State.delivered, c, State.setFlags_port]
  simp

theorem State.delivered_only : OnlyIn (receiveGroups p) s (s.delivered p f) := by
  simp [State.delivered, receiveGroups]

theorem State.control_slots : (s.control p f).present.slots = s.present.slots := by
  have o (u : State) (hd : Header) : (u.adoptUnwrap p hd).present = u.present :=
    (show OnlyIn [.ring] u (u.adoptUnwrap p hd) by simp).at .present (by decide)
  have n (u : State) : (u.nameUnwrap p).present = u.present :=
    (show OnlyIn [.ring] u (u.nameUnwrap p) by simp).at .present (by decide)
  have k : (s.updatePartner p f).present = s.present :=
    (show OnlyIn [.ring] s (s.updatePartner p f) by simp).at .present (by decide)
  unfold State.control
  dsimp only
  split
  · rw [o, n, State.evaluate_slots, k]
  · rw [n, State.evaluate_slots, k]

theorem State.setFlags_present (x : PortFlags) : (s.setFlags p x).present = s.present :=
  (show OnlyIn [portGroup p, .notices] s (s.setFlags p x) by simp).at .present (by cases p <;> decide)

theorem State.delivered_slots : (s.delivered p f).present.slots = s.present.slots := by
  rw [State.delivered, State.control_slots, State.setFlags_present, State.setPort_present]

/-- The span records and the numbers stand as before when the ring controller takes its share. -/
theorem State.delivered_eq_control : ∃ u : State, s.delivered p f = u.control p f ∧ (∀ q, u.span q = s.span q)
    ∧ u.timing = s.timing := by
  refine ⟨_, rfl, fun q => ?_, ?_⟩
  · rw [State.setFlags_span, State.setPort_span]
  · exact (show OnlyIn [portGroup p, .notices] s _ by simp).at .timing (by cases p <;> decide)

theorem State.deliver_eq : s.deliver p f =
    if (s.port p).looped = true then s.delivered p f else (s.delivered p f).takeFrame p f := by
  have e : ((s.delivered p f).port p).looped = (s.port p).looped := by
    rw [State.delivered_port]
    rfl
  rw [← e]
  unfold State.deliver
  dsimp only
  rw [State.setPort_port_same]
  rfl

/-- A good frame in LOCKED, and a confirming marker in PRESYNC, is delivered (R7, R8). -/
theorem State.receive_delivers {bytes : List Byte} (hj : judgeFrame bytes = some f)
    (h : (s.port p).lock = .locked ∨ (s.port p).lock = .presync ∧ ∃ r, (s.port p).reference = some r ∧ r.age = 47
      ∧ f.header.frame = 0 ∧ f.header.superframe = (r.superframe + 1) % 65536) :
    s.receive p bytes = s.deliver p f := by
  unfold State.receive
  rcases h with hl | ⟨hl, r, hr, ha, h0, hs⟩
  · simp [hl, hj]
  · have hc := (r.confirms_aged f.header.superframe).mpr ⟨ha, hs⟩
    simp [hl, hj, hr, State.searchFrame, h0, hc]

/-- The port of a delivered frame, once its traffic is taken too (R8). -/
theorem State.deliver_port : ((s.deliver p f).port p).lock = .locked ∧ ((s.deliver p f).port p).reference = none
    ∧ ((s.deliver p f).port p).badRun = 0
    ∧ ((s.deliver p f).port p).flags = ⟨(s.port p).flags.light, true, f.header.farFault, f.header.turned⟩ := by
  have e : (s.deliver p f).port p = { (s.delivered p f).port p with tx := ((s.deliver p f).port p).tx } := by
    rw [State.deliver_eq]
    split
    · rfl
    · exact State.takeFrame_sends p f p
  rw [e, State.delivered_port]
  exact ⟨rfl, rfl, rfl, rfl⟩

/-- A delivered supervision frame updates the partner fields, and no later part of the delivery moves them (R45). -/
theorem State.deliver_supervision (h : Header) :
    (∀ q, markedNodes h.presence = [q] → ((s.deliver p (.supervision h)).span p).partner = some q)
    ∧ ((∀ q, markedNodes h.presence ≠ [q]) → ((s.deliver p (.supervision h)).span p).partner = none)
    ∧ ((s.deliver p (.supervision h)).span p).partnerReady =
        (if h.frame = 0 then h.restoreReady else (s.span p).partnerReady) := by
  obtain ⟨u, hu, hs, -⟩ := State.delivered_eq_control (s := s) (p := p) (f := .supervision h)
  obtain ⟨hp, hr⟩ := State.control_partners (s := u) (p := p) (.supervision h) p
  have e : s.deliver p (.supervision h) = u.control p (.supervision h) := by
    rw [State.deliver_eq, State.takeFrame_supervision, ite_self, hu]
  rw [e, hp, hr, ← hs]
  exact State.updatePartner_supervision h

/-- A delivered primary frame leaves the partner id; its frame 0 clears the ready flag, and any other frame leaves it unless
the side's own unwrap stands due (R45, R53). -/
theorem State.deliver_primary (h : Header) (slots : Tab Sample 128) (lane : Lane) :
    ((s.deliver p (.primary h slots lane)).span p).partner = (s.span p).partner
    ∧ (h.frame = 0 → ((s.deliver p (.primary h slots lane)).span p).partnerReady = false)
    ∧ (h.frame ≠ 0 → (s.span p).unwrap ≠ some s.timing.superframe ∨ s.timing.frame ≠ 0 →
        ((s.deliver p (.primary h slots lane)).span p).partnerReady = (s.span p).partnerReady) := by
  obtain ⟨u, hu, hs, ht⟩ := State.delivered_eq_control (s := s) (p := p) (f := .primary h slots lane)
  obtain ⟨hp, hr⟩ := State.control_partners (s := u) (p := p) (.primary h slots lane) p
  rw [State.updatePartner_primary, hs] at hp hr
  have due (hd : (s.span p).unwrap ≠ some s.timing.superframe ∨ s.timing.frame ≠ 0) :
      (u.control p (.primary h slots lane)).unwrapDue p = false :=
    State.control_unwrapDue h slots lane (by rwa [hs, ht])
  obtain ⟨tp, tr, td⟩ := (u.control p (.primary h slots lane)).takeFrame_partner (q := p) p (.primary h slots lane)
  rw [State.deliver_eq, hu]
  split
  · exact ⟨hp, fun h0 => by simp [hr, h0], fun h0 _ => by simp [hr, h0]⟩
  · exact ⟨tp.trans hp, fun h0 => tr (by simp [hr, h0]), fun h0 hd => by simp [td (due hd), hr, h0]⟩

/-- Settles O10: the port by the delivery, the partner fields by the kind of the frame, and at a looped port nothing
beyond the ring controller's share. -/
theorem deliveredFrames : Obligations.DeliveredFrames := by
  intro p period s f hlisten hj hl
  obtain ⟨v, t, hx, hv, he⟩ := receiveFrame_spec hlisten period
  rw [State.receive_delivers hj (by rwa [hv.lock, hv.reference])] at he
  obtain ⟨hlock, href, hrun, hflags⟩ := State.deliver_port (s := v) (p := p) (f := f)
  refine ⟨t, hx, ?_, ?_, ?_, ?_, fun h hf => ?_, fun h slots lane hf => ?_, fun hloop => ?_⟩
  · rw [he.port, hlock]
  · rw [he.port, href]
  · rw [he.port, hrun]
  · rw [he.port, hflags, hv.flags, hlisten.2]
  · subst hf
    rw [he.span, ← hv.spans]
    exact State.deliver_supervision h
  · subst hf
    rw [he.span, ← hv.spans, ← hv.numbers.frame, ← hv.numbers.superframe]
    exact State.deliver_primary h slots lane
  · have e : v.deliver p f = v.delivered p f := by
      rw [State.deliver_eq, if_pos (by simpa [Port.looped, hv.loop] using hloop)]
    rw [e] at he
    exact ⟨hv.only_trans State.delivered_only he, by rw [he.slots, State.delivered_slots, hv.slots]⟩

end Sys2Proof.Machine
end

section
/-! LOOP, PATTERN_CHECK and CLEAR_COUNTERS (R15 to R19, R21, R176). -/

namespace Sys2Proof.Machine

variable {l : List Group} {s t u v : State} {p q : Side} {c : Cell} {r : Reply}

/-! ### Requests taken as an event -/

/-- A request that its event answers and leaves at that is answered, and nothing else moves (R93, R94). -/
theorem State.event_answer {f : State → State} (h : f (s.setRaised []) = (s.setRaised []).popWork.answer c r) :
    s.event f = s.popWork.answer c r := by
  have e : ((s.setRaised []).popWork.answer c r).raised = [] :=
    ((show OnlyIn [.service] (s.setRaised []) ((s.setRaised []).popWork.answer c r) by simp).at .notices (by decide)).2
  rw [State.event_quiet (by rw [h, e]), h]
  unfold State.answer State.place
  have k : (s.setRaised []).popWork.fromOwnHost c = s.popWork.fromOwnHost c := rfl
  rw [k]
  split <;> rfl

/-- An answer to a request that left the head of the work queue touches the queues alone (R94). -/
theorem answered_popWork : OnlyIn [.service] s (s.popWork.answer c r) ∧ Answered s (s.popWork.answer c r) c r :=
  ⟨by simp, answered_of rfl rfl⟩

@[simp] theorem State.answer_port : (s.answer c r).port q = s.port q := by cases q <;> simp [State.port]
@[simp] theorem State.answer_span : (s.answer c r).span q = s.span q := by cases q <;> simp [State.span]
@[simp] theorem State.answer_counter (k : CounterId) : (s.answer c r).counter k = s.counter k := by simp [State.counter]
@[simp] theorem State.popWork_port : s.popWork.port q = s.port q := by cases q <;> rfl
@[simp] theorem State.popWork_span : s.popWork.span q = s.span q := by cases q <;> rfl

/-! ### A change of the loop mode (R16 to R19) -/

theorem sideOf_sideCode (p : Side) : sideOf (sideCode p) = some p := by cases p <;> rfl

theorem loopOf_code (m : LoopMode) : loopOf m.code = some m := by cases m <;> rfl

theorem sideOf_none {n : Nat} (h : 1 < n) : sideOf n = none := by
  match n, h with
  | n + 2, _ => rfl

theorem loopOf_none {n : Nat} (h : 2 < n) : loopOf n = none := by
  match n, h with
  | n + 3, _ => rfl

/-- The receiver's source changes where exactly one of the two modes is INTERNAL, and the port then goes to HUNT without a
lock loss (R17, R19). -/
theorem State.switchReceiver_eq (old new : LoopMode) (hne : old ≠ new) : s.switchReceiver p old new =
    if old = .internal ∨ new = .internal then s.toHunt p (new == .internal || (s.port p).fibreLight) false else s := by
  cases old <;> cases new <;> first | exact absurd rfl hne | rfl

/-- A span in FAILED stays there while its side is looped, since a loop is a local defect (R46, R49). -/
theorem State.evaluate_failed (h : (s.span p).state = .failed) (hl : (s.port p).looped = true) :
    ((s.evaluate p).span p).state = .failed := by
  have k (u : State) (hs : (u.span p).state = .failed) (hp : (u.port p).looped = true) : (u.react p).span p = u.span p := by
    rw [State.react, State.setSpan_span_same]
    unfold Span.react
    simp [hs, State.defect, State.localDefect, hp]
  unfold State.evaluate State.examine
  split
  · exact h
  · rw [State.redetermine_span, k _ (by rw [k s h hl, h]) (by simpa [State.react] using hl), k s h hl, h]

/-- The state after a change of the loop mode, before the defect is evaluated: the mode is taken, the receiver follows, and
the span of a looped side is FAILED (R16, R17, R19). -/
def State.looping (s : State) (p : Side) (m : LoopMode) : State :=
  let u := (s.setPort p { s.port p with loop := m, received := [] }).switchReceiver p (s.port p).loop m
  if m ≠ .off ∧ (u.span p).state ≠ .failed then u.failSpan p else u

theorem State.changeLoop_eq (m : LoopMode) : s.changeLoop p m = (s.looping p m).evaluate p := rfl

theorem State.failSpan_port : (s.failSpan p).port q = s.port q := OnlyIn.port_of_butPorts (by simp [groupsButPorts])

theorem State.looping_port (m : LoopMode) (h : (s.port p).loop ≠ m) : (s.looping p m).port p =
    if (s.port p).loop = .internal ∨ m = .internal then
      { s.port p with
        loop := m, received := [], lock := .hunt, reference := none, badRun := 0
        flags := ⟨m == .internal || (s.port p).fibreLight, false, false, false⟩
        deltas := (s.port p).deltas.union
          ((s.port p).flags.changed ⟨m == .internal || (s.port p).fibreLight, false, false, false⟩) }
    else { s.port p with loop := m, received := [] } := by
  have e : (s.looping p m).port p =
      ((s.setPort p { s.port p with loop := m, received := [] }).switchReceiver p (s.port p).loop m).port p := by
    unfold State.looping
    dsimp only
    split
    · exact State.failSpan_port
    · rfl
  rw [e, State.switchReceiver_eq _ _ h]
  split
  · rw [State.toHunt_port, State.setPort_port_same]
  · rw [State.setPort_port_same]

theorem State.looping_port_ne (m : LoopMode) (hq : q ≠ p) : (s.looping p m).port q = s.port q := by
  have e (x : Port) (a b : LoopMode) : ((s.setPort p x).switchReceiver p a b).port q = s.port q := by
    unfold State.switchReceiver
    split
    · exact State.setPort_port_ne x hq
    · rw [State.toHunt_port_ne _ _ hq, State.setPort_port_ne x hq]
  unfold State.looping
  dsimp only
  split
  · rw [State.failSpan_port, e]
  · exact e _ _ _

theorem State.looping_counter (m : LoopMode) (k : CounterId) : (s.looping p m).counter k = s.counter k := by
  have f (u : State) : (u.failSpan p).counter k = u.counter k :=
    (show OnlyIn [.ring, .present, .lines, .notices] u (u.failSpan p) by simp).counter_eq (by decide) k
  have e (x : Port) (a b : LoopMode) : ((s.setPort p x).switchReceiver p a b).counter k = s.counter k := by
    unfold State.switchReceiver
    split
    · exact State.counter_setPort x k
    · rw [State.toHunt_counter, if_neg (by simp), State.counter_setPort]
  unfold State.looping
  dsimp only
  split
  · rw [f, e]
  · exact e _ _ _

/-- The span of a looped side is FAILED (R16). -/
theorem State.looping_failed {m : LoopMode} (hm : m ≠ .off) : ((s.looping p m).span p).state = .failed := by
  unfold State.looping
  dsimp only
  split
  · rw [State.failSpan, State.redetermine_span, State.setSpan_span_same]
    rfl
  · next h => simpa [hm] using h

/-- A new loop mode: what becomes of the port, the span, the other port and the counters (R15 to R19). -/
structure LoopChanged (s t : State) (p : Side) (m : LoopMode) : Prop where
  other : t.port (oppositeSide p) = s.port (oppositeSide p)
  counters : CountersOutside [.noticesLost] s t
  loop : (t.port p).loop = m
  failed : m ≠ .off → (t.span p).state = .failed
  kept : (s.port p).loop ≠ .internal → m ≠ .internal →
    (t.port p).lock = (s.port p).lock ∧ (t.port p).flags = (s.port p).flags
  hunt : (s.port p).loop = .internal ∨ m = .internal → (t.port p).lock = .hunt ∧ (t.port p).badRun = 0
    ∧ (t.port p).flags = ⟨m == .internal || (s.port p).fibreLight, false, false, false⟩

theorem State.changeLoop_spec {m : LoopMode} (h : (s.port p).loop ≠ m) : LoopChanged s (s.changeLoop p m) p m := by
  have hp := State.looping_port m h
  have hloop : ((s.looping p m).port p).loop = m := by
    rw [hp]
    split <;> rfl
  rw [State.changeLoop_eq]
  exact
    { other := by rw [State.evaluate_port, State.looping_port_ne m oppositeSide_ne]
      counters := fun k _ => by rw [State.evaluate_counter, State.looping_counter]
      loop := by rw [State.evaluate_port, hloop]
      failed := fun hm => State.evaluate_failed (State.looping_failed hm) (by simpa [Port.looped, hloop] using hm)
      kept := fun ho hm => by
        rw [State.evaluate_port, hp, if_neg (by simp [ho, hm])]
        exact ⟨rfl, rfl⟩
      hunt := fun hi => by
        rw [State.evaluate_port, hp, if_pos hi]
        exact ⟨rfl, rfl, rfl⟩ }

/-- What a LOOP cell does to the state and answers. -/
def State.loopAct (c : Cell) (s : State) : State × Reply :=
  match sideOf (c.arg 1), loopOf (c.arg 2) with
  | some p, some m => s.setLoop p m
  | _, _ => s.refuse .badIndex []

theorem State.loopAct_bad (h : 1 < c.arg 1 ∨ 2 < c.arg 2) : s.loopAct c = (s, reply .badIndex []) := by
  unfold State.loopAct
  rcases h with h | h
  · rw [sideOf_none h]
    rfl
  · rw [loopOf_none h]
    cases sideOf (c.arg 1) <;> rfl

theorem State.loopAct_of {m : LoopMode} (hp : c.arg 1 = sideCode p) (hm : c.arg 2 = m.code) :
    s.loopAct c = s.setLoop p m := by
  unfold State.loopAct
  rw [hp, hm, sideOf_sideCode, loopOf_code]

/-- LOOP takes its request as one event. -/
theorem execLoop_eq (h : ActReady s c 0x03 2) : ∃ f : State → State, exec .loop s = .next (s.event f)
    ∧ f (s.setRaised []) = ((s.setRaised []).popWork.loopAct c).1.answer c ((s.setRaised []).popWork.loopAct c).2 := by
  obtain ⟨hr, hc, hl⟩ := h
  exact ⟨_, rfl, State.runAct_of (s := s.setRaised []) hr hc hl (by simp)⟩

/-- An event that changes a loop mode and answers changes the mode, and its request is answered DONE. -/
theorem State.event_changeLoop {f : State → State} {m : LoopMode} (hne : (s.port p).loop ≠ m)
    (h : f (s.setRaised []) = ((s.setRaised []).popWork.changeLoop p m).answer c (reply .done [])) :
    Answered s (s.event f) c (reply .done []) ∧ LoopChanged s (s.event f) p m := by
  have hp (q : Side) : (s.setRaised []).popWork.port q = s.port q := by simp
  have he := State.event_ended (s := s) f
  rw [h] at he
  have hport (q : Side) : (s.event f).port q = ((s.setRaised []).popWork.changeLoop p m).port q := by
    rw [he.port, State.answer_port]
  have k := State.changeLoop_spec (s := (s.setRaised []).popWork) (p := p) (m := m) (by rwa [hp])
  have hq : OnlyIn [.portE, .portW, .ring, .present, .lines, .notices, .counters] (s.setRaised []).popWork
      ((s.setRaised []).popWork.changeLoop p m) := by simp
  have ha : Answered (s.setRaised []) _ c (reply .done []) :=
    answered_of (hq.at .service (by decide)) (hq.at .straps (by decide))
  refine ⟨(he.only.at .service (by decide)).trans ha, ?_⟩
  exact
    { other := by rw [hport, k.other, hp]
      counters := fun x hx => by rw [he.counters x hx, State.answer_counter, k.counters x hx]; rfl
      loop := by rw [hport, k.loop]
      failed := fun hm => by rw [he.span, State.answer_span, k.failed hm]
      kept := by rw [hport, ← hp]; exact k.kept
      hunt := by rw [hport, ← hp]; exact k.hunt }

/-- Settles O41: the refusals and the mode as it stands are answered and no more; any other LOOP changes the mode. -/
theorem loopsTaken : Obligations.LoopsTaken := by
  intro s c hready
  obtain ⟨f, hx, hf⟩ := execLoop_eq hready
  have idle {r : Reply} (h : (s.setRaised []).popWork.loopAct c = ((s.setRaised []).popWork, r)) :
      OnlyIn [.service] s (s.event f) ∧ Answered s (s.event f) c r := by
    rw [State.event_answer (hf.trans (by rw [h]))]
    exact answered_popWork
  refine ⟨_, hx, fun hbad => idle (State.loopAct_bad hbad), fun p m hp hm => ?_⟩
  have hact : (s.setRaised []).popWork.loopAct c = if m ≠ .off ∧ (s.span p).state ≠ .failed ∧ s.ring.state ≠ .isolated then
        ((s.setRaised []).popWork, reply .inService [])
      else if (s.port p).loop = m then ((s.setRaised []).popWork, reply .done [])
      else ((s.setRaised []).popWork.changeLoop p m, reply .done []) := by
    rw [State.loopAct_of hp hm, State.setLoop, State.popWork_span, State.popWork_port, State.popWork_ring]
    simp [State.refuse]
  refine ⟨fun ho hs hr => idle (hact.trans (if_pos ⟨ho, hs, hr⟩)), fun hgo => ?_⟩
  rw [if_neg (by tauto)] at hact
  by_cases hsame : (s.port p).loop = m
  · rw [if_pos hsame] at hact
    obtain ⟨ho, ha⟩ := idle hact
    exact ⟨ha, ho.port_eq (by cases p <;> decide), fun k _ => ho.counter_eq (by decide) k, fun _ => ho, fun h => absurd hsame h⟩
  · rw [if_neg hsame] at hact
    obtain ⟨ha, k⟩ := State.event_changeLoop hsame (hf.trans (by rw [hact]))
    exact ⟨ha, k.other, k.counters, fun h => absurd h hsame, fun _ => ⟨k.loop, k.failed, k.kept, k.hunt⟩⟩

/-! ### The pattern checker and the counters (R21, R176) -/

/-- A boundary that does not count leaves the checker; one that counts hands its mode and slot to the frame that begins
(R21). -/
theorem State.localBoundary_checker (inputs : Tab Sample 64) : (s.localBoundary inputs).checker =
    if s.timing.running = true ∧ s.timing.frameOwed = false then s.checker.frame else s.checker := by
  have settle (u : State) : u.settle.checker = u.checker :=
    (show OnlyIn [.ring, .present, .lines, .notices, .counters, .timing, .members, .service, .preamp, .talk, .image, .plan,
      .tracking] u u.settle by simp).at .checker (by decide)
  have work (u : State) : (u.event (·.frameWork inputs)).checker = u.checker :=
    (show OnlyIn [.audio, .preamp, .service, .present, .tracking, .talk, .lines, .buses, .members, .image, .plan, .timing,
      .notices, .counters, .portE, .portW] u (u.event (·.frameWork inputs)) by simp).at .checker (by decide)
  unfold State.localBoundary
  dsimp only
  by_cases hr : s.timing.running = true
  · by_cases ho : s.timing.frameOwed = true
    · simp only [hr, ho, Bool.not_true, Bool.false_eq_true, if_false, if_true, work, settle]
      rw [if_neg (by simp)]
    · simp only [hr, ho, Bool.not_true, Bool.false_eq_true, if_false, work]
      split
      · simp [settle, State.begin_checker]
      · simp [State.begin_checker]
  · simp [hr]

theorem State.superframeBoundary_checker (levels : Tab Bool 8) : (s.superframeBoundary levels).checker =
    if s.timing.running = true ∧ s.timing.frameOwed = false ∧ s.timing.frame = 47 then s.checker.frame else s.checker := by
  unfold State.superframeBoundary
  simp only [Bool.and_eq_true, Bool.not_eq_true', beq_iff_eq, and_assoc]
  split
  · exact State.begin_checker s levels
  · rfl

/-- An ACT is taken by its block, and the block's reply is its answer (R93, R100). -/
theorem State.runAct_ready {code args : Nat} {act : Cell → State → State × Reply} (h : ActReady s c code args) :
    s.runAct code false args act = (act c s.popWork).1.answer c (act c s.popWork).2 := by
  obtain ⟨hr, hc, hl⟩ := h
  exact State.runAct_of hr hc hl (by simp)

/-- PATTERN_CHECK (R21). -/
theorem patternCheck_spec (h : ActReady s c 0x04 2) : ∃ t, exec .patternCheck s = .next t
    ∧ (c.arg 2 = 1 → c.arg 1 ≤ 127 → t.checker = { s.checker with on := true, slot := c.arg 1 }
        ∧ OnlyIn [.service, .checker] s t ∧ Answered s t c (reply .done []))
    ∧ (c.arg 2 = 1 → 127 < c.arg 1 → OnlyIn [.service] s t ∧ Answered s t c (reply .badIndex []))
    ∧ (c.arg 2 = 0 → t.checker = { s.checker with on := false } ∧ OnlyIn [.service, .checker] s t
        ∧ Answered s t c (reply .done [])) := by
  have hx : exec .patternCheck s = .next ((s.popWork.checkPattern (c.arg 1) (c.arg 2)).1.answer c
      (s.popWork.checkPattern (c.arg 1) (c.arg 2)).2) :=
    congrArg _ (State.runAct_ready (act := fun c s => s.checkPattern (c.arg 1) (c.arg 2)) h)
  refine ⟨_, hx, fun h₁ hs => ?_, fun h₁ hs => ?_, fun h₀ => ?_⟩
  · have e : s.popWork.checkPattern (c.arg 1) (c.arg 2) =
        (s.popWork.setChecker { s.checker with on := true, slot := c.arg 1 }, reply .done []) := by
      simp [State.checkPattern, h₁, Nat.not_lt.mpr hs]
    rw [e]
    exact ⟨by simp, by simp, answered_of rfl rfl⟩
  · have e : s.popWork.checkPattern (c.arg 1) (c.arg 2) = (s.popWork, reply .badIndex []) := by
      simp [State.checkPattern, State.refuse, h₁, hs]
    rw [e]
    exact answered_popWork
  · have e : s.popWork.checkPattern (c.arg 1) (c.arg 2) =
        (s.popWork.setChecker { s.checker with on := false }, reply .done []) := by
      simp [State.checkPattern, h₀]
    rw [e]
    exact ⟨by simp, by simp, answered_of rfl rfl⟩

/-- Every counter of a cleared state is 0 (R176). -/
theorem State.clearCounters_counter (k : CounterId) : s.clearCounters.counter k = 0 := by
  have e : s.clearCounters.counters = .fill 14 0 := by
    unfold State.clearCounters
    dsimp only
    split <;> rfl
  rw [State.counter, e]
  cases k <;> rfl

theorem State.clearCounters_bus (h : s.isStage = true) {b : Nat} (hb : b < 16) :
    s.clearCounters.bus b = { s.bus b with clips := 0 } := by
  have e : s.clearCounters.buses = s.buses.map fun b => { b with clips := 0 } := by
    simp [State.clearCounters, State.isStage, show s.straps.role = .stage by simpa [State.isStage] using h]
  rw [State.bus, e, Tab.get_map _ _ hb]
  rfl

theorem State.clearCounters_desk (h : s.isDesk = true) : s.clearCounters.buses = s.buses := by
  simp [State.clearCounters, State.isStage, show s.straps.role = .desk by simpa [State.isDesk] using h]

/-- CLEAR_COUNTERS (R176). -/
theorem clearCounters_spec (h : ActReady s c 0x05 0) : ∃ t, exec .clearCounters s = .next t
    ∧ OnlyIn [.service, .counters, .buses] s t ∧ Answered s t c (reply .done []) ∧ (∀ x, t.counter x = 0)
    ∧ (s.isStage = true → ∀ b, b < 16 → t.bus b = { s.bus b with clips := 0 })
    ∧ (s.isDesk = true → t.buses = s.buses) := by
  have hx : exec .clearCounters s = .next (s.popWork.clearCounters.answer c (reply .done [])) :=
    congrArg _ (State.runAct_ready (act := fun _ s => (s.clearCounters, reply .done [])) h)
  have o : OnlyIn [.counters, .buses] s.popWork s.popWork.clearCounters := by simp
  refine ⟨_, hx, by simp, answered_of (o.at .service (by decide)) (o.at .straps (by decide)), fun x => ?_, fun hs b hb => ?_,
    fun hd => ?_⟩
  · rw [State.answer_counter, State.clearCounters_counter]
  · rw [State.bus, State.answer_buses]
    exact State.clearCounters_bus (s := s.popWork) hs hb
  · rw [State.answer_buses]
    exact State.clearCounters_desk (s := s.popWork) hd

/-- Settles O42, from the two commands and the two boundaries. -/
theorem checkerAndCountersCommanded : Obligations.CheckerAndCountersCommanded := fun s _ =>
  ⟨patternCheck_spec, ⟨fun inputs => ⟨_, rfl, s.localBoundary_checker inputs⟩,
    fun levels => ⟨_, rfl, s.superframeBoundary_checker levels⟩⟩, clearCounters_spec⟩

end Sys2Proof.Machine
end

section
/-! The first DATA cell of a READ (R13, R98, R187). -/

namespace Sys2Proof.Machine

variable {l : List Group} {s t u v : State} {p q : Side} {c : Cell} {tb : Table} {r : Reading}

/-! ### The deltas a read clears (R13) -/

theorem State.readEffect_of_ne (h : tb ≠ .ports) (i n : Nat) : s.readEffect tb i n = s := if_neg h

/-- The deltas of a side cleared on a condition: that port alone, and nothing else of it. -/
theorem State.clearDeltas_port_same {d : Prop} [Decidable d] : (if d then s.clearDeltas p else s).port p =
    if d then { s.port p with deltas := .clear } else s.port p := by
  split
  · exact State.setPort_port_same _
  · rfl

theorem State.clearDeltas_port_ne {d : Prop} [Decidable d] (h : q ≠ p) :
    (if d then s.clearDeltas p else s).port q = s.port q := by
  split
  · exact State.setPort_port_ne _ h
  · rfl

/-- Reading PORTS records clears the deltas of those read, and nothing else of a port (R13). -/
theorem State.readEffect_port (i n : Nat) : (s.readEffect .ports i n).port p =
    if i ≤ sideCode p ∧ sideCode p < i + n then { s.port p with deltas := .clear } else s.port p := by
  have he : (i = 0 ∧ 0 < n) ↔ i ≤ 0 ∧ 0 < i + n := by omega
  unfold State.readEffect
  simp only [if_true, he]
  cases p with
  | e => rw [State.clearDeltas_port_ne (by decide), State.clearDeltas_port_same]; rfl
  | w => rw [State.clearDeltas_port_same, State.clearDeltas_port_ne (by decide)]; rfl

/-! ### A DATA cell (R98) -/

/-- A DATA cell is placed in the answer queue with its payload from the entries as they stand, and the READ goes on (R98). -/
theorem State.dataCell_placed : DataPlaced s (s.dataCell tb c r) c (s.dataPayload tb c r)
    ∧ (s.dataCell tb c r).service.reading = some (r.after tb) := by
  have o : OnlyIn [.portE, .portW] s (s.readEffect tb r.next (r.batch tb)) := by simp
  have hs : (s.readEffect tb r.next (r.batch tb)).service = s.service := o.at .service (by decide)
  have hstraps : (s.readEffect tb r.next (r.batch tb)).straps = s.straps := o.at .straps (by decide)
  have hown (x : Service) : ((s.readEffect tb r.next (r.batch tb)).setService x).fromOwnHost c = s.fromOwnHost c := by
    simp [State.fromOwnHost, State.id, State.isDesk, hstraps]
  unfold DataPlaced State.dataCell State.place
  dsimp only
  rw [hown, hs]
  cases s.fromOwnHost c <;> exact ⟨rfl, rfl⟩

/-- The ports after a DATA cell are as the read leaves them. -/
theorem State.dataCell_port : (s.dataCell tb c r).port p = (s.readEffect tb r.next (r.batch tb)).port p :=
  (show OnlyIn [.service] (s.readEffect tb r.next (r.batch tb)) (s.dataCell tb c r) by simp [State.dataCell]).port_eq
    (by cases p <;> decide)

theorem State.dataCell_onlyIn (h : tb ≠ .ports) : OnlyIn [.service] s (s.dataCell tb c r) := by
  simp [State.dataCell, State.readEffect_of_ne h]

/-! ### The start of a READ (R96, R98, R187) -/

theorem State.nodeRecord_length : s.nodeRecord.length = 28 := rfl

theorem State.countRecord_length : s.countRecord.length = 28 := by
  simp [State.countRecord, word16, s.counters.length_eq]

/-- A READ that passes its checks forms its first DATA cell (R96, R98). -/
theorem State.startRead_eq (h : s.request = some c) (hk : c.kind? = some .read) (ht : c.table? = some tb)
    (hr : tb.stageOnly = true → s.isStage = true) (hn : 1 ≤ c.count) (hin : c.first + c.count ≤ tb.entries)
    (hl : c.length = 4) : s.startRead = s.dataCell tb c (s.beginRead tb c) := by
  have refusal : s.tableRefusal tb false = none := by
    unfold State.tableRefusal
    cases e : tb.stageOnly with
    | false => rfl
    | true =>
      have hs : s.straps.role = .stage := by simpa [State.isStage] using hr e
      simp [State.isDesk, hs]
  have fits : c.readFits tb = true := by simp [Cell.readFits, Cell.inTable, hn, hin, hl]
  simp [State.startRead, h, hk, ht, refusal, fits]

/-- A table without segments is read from the first index on. -/
theorem State.beginRead_entries (h : tb.segmented = false) : s.beginRead tb c = ⟨c.first, c.count, 0, []⟩ := by
  simp [State.beginRead, h]

/-- NODE and COUNT are read in three segments of the record as it stands (R187). -/
theorem State.beginRead_segments (h : tb = .node ∨ tb = .count) :
    s.beginRead tb c = ⟨0, 3, 0, if tb = .node then s.nodeRecord else s.countRecord⟩ := by
  rcases h with rfl | rfl
  · simp [State.beginRead, Table.segmented, segments, State.entryBytes, State.nodeRecord_length]
  · simp [State.beginRead, Table.segmented, segments, State.entryBytes, State.countRecord_length]

theorem Table.segmented_iff : tb.segmented = true ↔ tb = .node ∨ tb = .count := by cases tb <;> simp [Table.segmented]

/-- Settles O38: the READ begins, its first DATA cell is placed, and of PORTS the deltas read are cleared. -/
theorem readsBegin : Obligations.ReadsBegin := by
  intro s c tb h hk ht hr hn hin hl n
  have hx : exec .readTable s = .next (s.dataCell tb c (s.beginRead tb c)) :=
    congrArg _ (State.startRead_eq h hk ht hr hn hin hl)
  obtain ⟨hplaced, hreading⟩ := State.dataCell_placed (s := s) (tb := tb) (c := c) (r := s.beginRead tb c)
  refine ⟨_, hx, fun h₁ h₂ => ?_, fun hseg => ?_, State.dataCell_onlyIn, fun hports => ⟨?_, fun p => ?_⟩⟩
  · have hs : tb.segmented = false := by simpa [h₁, h₂] using (Table.segmented_iff (tb := tb)).not
    rw [State.beginRead_entries hs] at hplaced hreading ⊢
    refine ⟨?_, ?_⟩
    · simpa [State.dataPayload, Reading.batch, hs] using hplaced
    · simpa [Reading.after, Reading.batch, hs] using hreading
  · have hs := Table.segmented_iff.mpr hseg
    rw [State.beginRead_segments hseg] at hplaced hreading ⊢
    refine ⟨?_, ?_⟩
    · simpa [State.dataPayload, hs, show byte 128 = 128 from rfl] using hplaced
    · simpa [Reading.after, Reading.batch, hs] using hreading
  · simp
  · subst hports
    rw [State.dataCell_port, State.readEffect_port, State.beginRead_entries rfl]
    have hb : (⟨c.first, c.count, 0, []⟩ : Reading).batch .ports = c.count := by
      have : c.first + c.count ≤ 2 := hin
      simp only [Reading.batch, Table.segmented, Table.size, Bool.false_eq_true, if_false]
      omega
    rw [hb]

end Sys2Proof.Machine
end

section
/-! What each operation makes of the lists and queues whose laws every step keeps: primitive updates first (R41, R77, R119,
R120, R126, R130, R137, section 5.3.1). -/

namespace Sys2Proof.Machine

variable {l : List Group} {s t u v : State} {p q : Side} {c : Cell} {r : Reply}

/-! ### The four laws kept together -/

/-- From s to t each of the four laws of lists and queues is kept. -/
structure ListsKept (s t : State) : Prop where
  sends : SendLaw s → SendLaw t
  ranks : RankLaw s → RankLaw t
  queues : QueueLaw s → QueueLaw t
  filed : FiledLaw s → FiledLaw t

theorem ListsKept.refl : ListsKept s s := ⟨id, id, id, id⟩

theorem ListsKept.trans (h : ListsKept s t) (k : ListsKept t u) : ListsKept s u :=
  ⟨k.sends ∘ h.sends, k.ranks ∘ h.ranks, k.queues ∘ h.queues, k.filed ∘ h.filed⟩

/-- The queues of the service lane engine are within their capacities (section 5.3.1, R38, R126). -/
def Service.fits (x : Service) : Prop :=
  x.work.length ≤ 16 ∧ x.outbound.length ≤ 16 ∧ x.console.length ≤ 16 ∧ x.relay.length ≤ 16 ∧ x.stepQueue.length ≤ 32

/-- The queues of the preamp controller are within their capacities (R119, R120). -/
def Preamp.fits (x : Preamp) : Prop := x.queue.length ≤ 16 ∧ x.outstanding.length ≤ 48 ∧ x.reload.length ≤ 64

theorem QueueLaw_iff : QueueLaw s ↔ s.service.fits ∧ s.preamp.fits ∧ s.tracking.schedule.length ≤ 32 := by
  unfold QueueLaw Service.fits Preamp.fits
  tauto

/-- The groups that hold no list of the four laws, but for the straps. -/
def groupsButLists : List Group := [.portE, .portW, .timing, .ring, .plan, .checker, .audio, .talk, .lines, .sets,
  .notices, .counters, .image, .pending]

/-- The presentation buffer's group beside those. -/
def groupsButListsAndSlots : List Group := .present :: groupsButLists

theorem ListsKept.of_slots (h : ListsKept s t) (o : OnlyIn groupsButListsAndSlots t u)
    (e : u.present.slots = t.present.slots) : ListsKept s u := by
  have hb : u.buses = t.buses := o.at .buses (by decide)
  have hm : u.members = t.members := o.at .members (by decide)
  have hs : u.service = t.service := o.at .service (by decide)
  have hp : u.preamp = t.preamp := o.at .preamp (by decide)
  have ht : u.tracking = t.tracking := o.at .tracking (by decide)
  refine h.trans ⟨?_, ?_, ?_, ?_⟩
  · simp only [SendLaw, State.bus, hb]; exact id
  · simp only [RankLaw, hm]; exact id
  · simp only [QueueLaw_iff, hs, hp, ht]; exact id
  · simp only [FiledLaw, e]; exact id

theorem ListsKept.of_onlyIn (h : ListsKept s t) (o : OnlyIn groupsButLists t u) : ListsKept s u :=
  h.of_slots (o.mono (by decide)) (by rw [show u.present = t.present from o.at .present (by decide)])

theorem ListsKept.setService (h : ListsKept s t) {x : Service} (hx : t.service.fits → x.fits) :
    ListsKept s (t.setService x) :=
  h.trans ⟨id, id, fun k => QueueLaw_iff.mpr ((QueueLaw_iff.mp k).imp_left hx), id⟩

theorem ListsKept.setPreamp (h : ListsKept s t) {x : Preamp} (hx : t.preamp.fits → x.fits) : ListsKept s (t.setPreamp x) :=
  h.trans ⟨id, id, fun k => QueueLaw_iff.mpr ((QueueLaw_iff.mp k).imp_right fun k => k.imp_left hx), id⟩

theorem ListsKept.setTracking (h : ListsKept s t) {x : Tracking}
    (hx : t.tracking.schedule.length ≤ 32 → x.schedule.length ≤ 32) : ListsKept s (t.setTracking x) :=
  h.trans ⟨id, id, fun k => QueueLaw_iff.mpr ((QueueLaw_iff.mp k).imp_right fun k => k.imp_right hx), id⟩

theorem ListsKept.setMembers (h : ListsKept s t) {x : Members} (hx : x.ranks = t.members.ranks) :
    ListsKept s (t.setMembers x) :=
  h.trans ⟨id, fun k => by simpa [RankLaw, hx] using k, id, id⟩

theorem ListsKept.setPresent (h : ListsKept s t) {x : Present} (hx : ∀ i, i < 128 →
    (t.present.slots.get i).filed.Pairwise (fun a b => a.capture % 64 < b.capture % 64) →
    (x.slots.get i).filed.Pairwise fun a b => a.capture % 64 < b.capture % 64) : ListsKept s (t.setPresent x) :=
  h.trans ⟨id, id, id, fun k i hi => hx i hi (k i hi)⟩

theorem ListsKept.setPort (h : ListsKept s t) (x : Port) : ListsKept s (t.setPort p x) := h.of_onlyIn (by simp [groupsButLists])

theorem ListsKept.setTiming (h : ListsKept s t) (x : Timing) : ListsKept s (t.setTiming x) := h.of_onlyIn (by simp [groupsButLists])

theorem ListsKept.setRing (h : ListsKept s t) (x : Ring) : ListsKept s (t.setRing x) := h.of_onlyIn (by simp [groupsButLists])

theorem ListsKept.setPlan (h : ListsKept s t) (x : Plan) : ListsKept s (t.setPlan x) := h.of_onlyIn (by simp [groupsButLists])

theorem ListsKept.setChecker (h : ListsKept s t) (x : Checker) : ListsKept s (t.setChecker x) := h.of_onlyIn (by simp [groupsButLists])

theorem ListsKept.setAudio (h : ListsKept s t) (x : Audio) : ListsKept s (t.setAudio x) := h.of_onlyIn (by simp [groupsButLists])

theorem ListsKept.setTalk (h : ListsKept s t) (x : Talk) : ListsKept s (t.setTalk x) := h.of_onlyIn (by simp [groupsButLists])

theorem ListsKept.setLines (h : ListsKept s t) (x : Lines) : ListsKept s (t.setLines x) := h.of_onlyIn (by simp [groupsButLists])

theorem ListsKept.setSets (h : ListsKept s t) (x : Sets) : ListsKept s (t.setSets x) := h.of_onlyIn (by simp [groupsButLists])

theorem ListsKept.setNotices (h : ListsKept s t) (x : List Notice) : ListsKept s (t.setNotices x) := h.of_onlyIn (by simp [groupsButLists])

theorem ListsKept.setCounters (h : ListsKept s t) (x : Tab Nat 14) : ListsKept s (t.setCounters x) := h.of_onlyIn (by simp [groupsButLists])

theorem ListsKept.setImage (h : ListsKept s t) (x : Image) : ListsKept s (t.setImage x) := h.of_onlyIn (by simp [groupsButLists])

/-- A send list within its capacity and without two sends of one source (R137). -/
def sendsFit (q : List Send) : Prop := q.length ≤ 32 ∧ (q.map Send.source).Nodup

theorem ListsKept.setBus (h : ListsKept s t) {b : Nat} {x : Bus} (hx : b < 16 → sendsFit (t.bus b).sends → sendsFit x.sends) :
    ListsKept s (t.setBus b x) := by
  refine h.trans ⟨fun k n hn => ?_, id, id, id⟩
  rcases Nat.lt_or_ge b 16 with hb | hb
  · rw [State.setBus_bus hb]
    split
    · next e => exact hx hb (k b hb)
    · exact k n hn
  · have e : (t.setBus b x).bus n = t.bus n := by simp only [State.bus, State.setBus, State.setBuses_buses, Tab.put_beyond _ _ hb]
    rw [e]
    exact k n hn

theorem ListsKept.setBuses (h : ListsKept s t) {x : Tab Bus 16}
    (hx : ∀ b, b < 16 → sendsFit (t.bus b).sends → sendsFit (x.get b).sends) : ListsKept s (t.setBuses x) :=
  h.trans ⟨fun k b hb => hx b hb (k b hb), id, id, id⟩

/-- What keeps the laws for each element, a fold of it keeps. -/
theorem ListsKept.foldl {α : Type} {f : State → α → State} (hf : ∀ u a, ListsKept s u → ListsKept s (f u a)) (q : List α)
    (h : ListsKept s t) : ListsKept s (q.foldl f t) := foldl_keeps hf q h

theorem ListsKept.forEach {f : Nat → State → State} (hf : ∀ i u, ListsKept s u → ListsKept s (f i u)) (n : Nat)
    (h : ListsKept s t) : ListsKept s (forEach n f t) := forEach_keeps hf n h

theorem ListsKept.event {f : State → State} (h : ListsKept s t) (hf : ∀ u, ListsKept s u → ListsKept s (f u)) :
    ListsKept s (t.event f) :=
  (hf _ (h.of_onlyIn (u := t.setRaised []) (by simp [groupsButLists]))).of_onlyIn ((State.event_only f).mono (by decide))

theorem ListsKept.bump (h : ListsKept s t) (k : CounterId) : ListsKept s (t.bump k) := h.of_onlyIn (by simp [groupsButLists])

theorem ListsKept.raise (h : ListsKept s t) (k n d) : ListsKept s (t.raise k n d) := h.of_onlyIn (by simp [groupsButLists])

/-! ### Queues of the service lane engine (section 5.3.1) -/

theorem hasRoom_iff {q : List Cell} : hasRoom q = true ↔ q.length < 16 := by simp [hasRoom]

theorem ListsKept.pushOutbound (h : ListsKept s t) (room : hasRoom t.service.outbound = true) :
    ListsKept s (t.pushOutbound c) :=
  h.setService fun ⟨hw, _, hc, hr, hs⟩ => ⟨hw, by simpa using hasRoom_iff.mp room, hc, hr, hs⟩

theorem ListsKept.pushConsole (h : ListsKept s t) (room : hasRoom t.service.console = true) :
    ListsKept s (t.pushConsole c) :=
  h.setService fun ⟨hw, ho, _, hr, hs⟩ => ⟨hw, ho, by simpa using hasRoom_iff.mp room, hr, hs⟩

theorem ListsKept.pushWork (h : ListsKept s t) (room : hasRoom t.service.work = true) : ListsKept s (t.pushWork c) :=
  h.setService fun ⟨_, ho, hc, hr, hs⟩ => ⟨by simpa using hasRoom_iff.mp room, ho, hc, hr, hs⟩

theorem ListsKept.popWork (h : ListsKept s t) : ListsKept s t.popWork :=
  h.setService fun ⟨hw, ho, hc, hr, hs⟩ => ⟨by simp only [List.length_tail]; omega, ho, hc, hr, hs⟩

/-- An answer placed in a queue that has room for it (R93, R94). -/
theorem ListsKept.place (h : ListsKept s t) {d : Cell} (room : t.answerRoom c = true) : ListsKept s (t.place c d) := by
  unfold State.answerRoom at room
  unfold State.place
  split at room
  · next e => rw [if_pos e]; exact h.pushConsole room
  · next e => rw [if_neg e]; exact h.pushOutbound room

theorem ListsKept.answerHost (h : ListsKept s t) : ListsKept s (t.answerHost c r) := by
  unfold State.answerHost
  split
  · next room => exact h.pushConsole room
  · exact h.bump _

/-- Room for an answer stays where neither of the two answer queues grows. -/
theorem answerRoom_of_le (hs : u.straps = t.straps) (ho : u.service.outbound.length ≤ t.service.outbound.length)
    (hc : u.service.console.length ≤ t.service.console.length) (h : t.answerRoom c = true) : u.answerRoom c = true := by
  have e : u.fromOwnHost c = t.fromOwnHost c := by simp [State.fromOwnHost, State.id, State.isDesk, hs]
  unfold State.answerRoom at h ⊢
  rw [e]
  split at h
  · next e => rw [if_pos e]; rw [hasRoom_iff] at h ⊢; omega
  · next e => rw [if_neg e]; rw [hasRoom_iff] at h ⊢; omega

/-! ### Presentation and slots (R77, R78, R81) -/

theorem ListsKept.fileRing (h : ListsKept s t) (n : Nat) (samples : Tab Sample 128) : ListsKept s (t.fileRing n samples) := by
  unfold State.fileRing
  dsimp only
  split
  · refine ListsKept.bump (h.setPresent fun i hi hp => ?_) _
    rw [Tab.get_mapIdx _ _ hi]
    split
    · exact pairwise_insertFiled _ hp
    · exact hp
  · refine h.setPresent fun i hi hp => ?_
    rw [Tab.get_mapIdx _ _ hi]
    split
    · exact pairwise_insertFiled _ hp
    · exact hp

theorem ListsKept.fileOwn (h : ListsKept s t) : ListsKept s t.fileOwn := by
  unfold State.fileOwn
  refine h.setPresent fun i hi hp => ?_
  rw [Tab.get_mapIdx _ _ hi]
  split
  · exact pairwise_insertFiled _ hp
  · exact hp

theorem SlotPres.presented_filed (x : SlotPres) (inserter : Option NodeId) (gone : Bool) (n : Nat) :
    (x.presented inserter gone n).filed = x.filed := by
  unfold SlotPres.presented
  (repeat' split) <;> rfl

theorem ListsKept.presentSlots (h : ListsKept s t) (f : Nat) : ListsKept s (t.presentSlots f) := by
  unfold State.presentSlots
  split
  · exact h
  · refine h.setPresent fun i hi hp => ?_
    rw [Tab.get_mapIdx _ _ hi]
    dsimp only
    rw [SlotPres.presented_filed]
    exact hp.filter _

theorem ListsKept.presentJump (h : ListsKept s t) : ListsKept s t.presentJump := by
  unfold State.presentJump
  have k : ListsKept s (t.setPresent { t.present with
      slots := t.present.slots.map fun p => { p with filed := [] }, fresh := true }) :=
    h.setPresent fun i hi _ => by rw [Tab.get_map _ _ hi]; exact .nil
  exact k.of_onlyIn (by simp [groupsButLists])

/-! ### Ring controller: the delay starts, the slots stay (R80) -/

theorem ListsKept.redetermine (h : ListsKept s t) : ListsKept s t.redetermine :=
  h.of_slots (by simp [groupsButListsAndSlots, groupsButLists]) State.redetermine_slots

theorem ListsKept.evaluate (h : ListsKept s t) : ListsKept s (t.evaluate p) :=
  h.of_slots (by simp [groupsButListsAndSlots, groupsButLists]) State.evaluate_slots

theorem ListsKept.absenceExpiry (h : ListsKept s t) : ListsKept s t.absenceExpiry :=
  h.of_slots (by simp [groupsButListsAndSlots, groupsButLists]) State.absenceExpiry_slots

theorem ListsKept.failSpan (h : ListsKept s t) : ListsKept s (t.failSpan p) :=
  (h.of_onlyIn (u := t.setSpan p (t.span p).failed) (by simp [groupsButLists])).redetermine

theorem ListsKept.holdoffExpiry (h : ListsKept s t) : ListsKept s (t.holdoffExpiry p) := by
  unfold State.holdoffExpiry
  split
  · exact h.failSpan.evaluate
  · exact h

theorem ListsKept.unwrapNow (h : ListsKept s t) : ListsKept s (t.unwrapNow p) := by
  unfold State.unwrapNow
  split
  · exact ((h.of_onlyIn (by simp [groupsButLists])).redetermine).evaluate
  · exact h

theorem ListsKept.masterSeen (h : ListsKept s t) : ListsKept s t.masterSeen := by
  unfold State.masterSeen
  exact (h.of_onlyIn (by simp [groupsButLists])).redetermine

theorem ListsKept.setRingState (h : ListsKept s t) (x : RingState) : ListsKept s (t.setRingState x) := by
  have e (u : State) : u.startDelay.present.slots = u.present.slots := by
    unfold State.startDelay
    (repeat' split) <;> rfl
  unfold State.setRingState
  dsimp only
  refine (h.of_slots (u := (t.setRing { t.ring with state := x }).startDelay) ?_ (e _)).of_onlyIn (by simp [groupsButLists])
  simp [groupsButListsAndSlots, groupsButLists]

theorem ListsKept.control (h : ListsKept s t) (f : Frame) : ListsKept s (t.control p f) :=
  h.of_slots (by simp [groupsButListsAndSlots, groupsButLists]) State.control_slots

/-! ### Tracking (R130 to R134) -/

theorem ListsKept.compensate (h : ListsKept s t) (n i a) : ListsKept s (t.compensate n i a) := h.setTracking id

theorem ListsKept.applyEntries (h : ListsKept s t) (f : ScheduleEntry → Bool) : ListsKept s (t.applyEntries f) := by
  have e : ((t.tracking.schedule.filter f).foldl (fun s x => s.compensate x.stage x.input x.amount) t).tracking.schedule
      = t.tracking.schedule :=
    foldl_keeps (p := fun u => u.tracking.schedule = t.tracking.schedule) (fun u x hu => hu.symm ▸ rfl) _ rfl
  have k := ListsKept.foldl (f := fun s x => s.compensate x.stage x.input x.amount) (fun u x hu => hu.compensate _ _ _)
    (t.tracking.schedule.filter f) h
  unfold State.applyEntries
  refine k.setTracking fun hk => ?_
  rw [e] at hk
  exact (List.length_filter_le _ _).trans hk

theorem insertEntry_length (x : ScheduleEntry) (q : List ScheduleEntry) : (insertEntry x q).length = q.length + 1 := by
  induction q with
  | nil => rfl
  | cons y q ih =>
    unfold insertEntry
    split <;> simp [ih]

theorem ListsKept.takeCompensation (h : ListsKept s t) (x : ScheduleEntry) : ListsKept s (t.takeCompensation x) := by
  have late (n : Nat) : ListsKept s (t.compensateLate x n) := ((h.compensate _ _ _).bump _).raise _ _ _
  unfold State.takeCompensation
  dsimp only
  split
  · exact late 0
  · split
    · exact late 1
    · split
      · exact late 2
      · next room => exact h.setTracking fun _ => by simp only [insertEntry_length]; omega

theorem ListsKept.runStep (h : ListsKept s t) : ListsKept s t.runStep := by
  have record (n : NodeId) (u : State) (b : List Byte) (hu : ListsKept s u) : ListsKept s (u.takeRecord n b) := by
    unfold State.takeRecord
    dsimp only
    split
    · exact hu
    · exact hu.takeCompensation _
  unfold State.runStep
  split
  · next c rest hw =>
    have k : ListsKept s (t.setService { t.service with work := rest }) :=
      h.setService fun ⟨a, b⟩ => ⟨by rw [hw] at a; simp only [List.length_cons] at a ⊢; omega, b⟩
    split
    · dsimp only
      split
      · exact ListsKept.foldl (record _) _ k
      · exact k.bump _
    · exact h
  · exact h

/-! ### Preamplifiers (R105 to R122) -/

theorem ListsKept.setEntry (h : ListsKept s t) (n : Nat) (e : PreampEntry) : ListsKept s (t.setEntry n e) := h.setPreamp id

theorem ListsKept.raiseOwner (h : ListsKept s t) (n cause) : ListsKept s (t.raiseOwner n cause) :=
  h.of_onlyIn (by simp [groupsButLists])

theorem ListsKept.setOwner (h : ListsKept s t) (n o st g cause) : ListsKept s (t.setOwner n o st g cause) :=
  (h.setEntry _ _).raiseOwner _ _

theorem ListsKept.graceExpiry (h : ListsKept s t) (n : Nat) : ListsKept s (t.graceExpiry n) := by
  unfold State.graceExpiry
  split
  · exact h.setOwner _ _ _ _ _
  · exact h

theorem ListsKept.ownerLost (h : ListsKept s t) (node : NodeId) : ListsKept s (t.ownerLost node) :=
  ListsKept.forEach (fun i u hu => by dsimp only; (repeat' split) <;> first | exact hu.setOwner _ _ _ _ _ | exact hu) _ h

theorem ListsKept.ownerBack (h : ListsKept s t) (node : NodeId) : ListsKept s (t.ownerBack node) :=
  ListsKept.forEach (fun i u hu => by dsimp only; (repeat' split) <;> first | exact hu.setOwner _ _ _ _ _ | exact hu) _ h

theorem ListsKept.ownerDemoted (h : ListsKept s t) (node : NodeId) : ListsKept s (t.ownerDemoted node) :=
  ListsKept.forEach (fun i u hu => by split <;> first | exact hu.setOwner _ _ _ _ _ | exact hu) _ h

/-- A change that finds room is created within both queues (R114). -/
theorem ListsKept.createChange (h : ListsKept s t) {n : Nat} {g : Gain} {who : NodeId}
    (room : t.changeRoom who (t.deltaFor n g) = true) : ListsKept s (t.createChange n g who) := by
  simp only [State.changeRoom, Bool.and_eq_true, decide_eq_true_eq] at room
  obtain ⟨hsteps, hqueue⟩ := room
  refine ListsKept.setPreamp (ListsKept.setService (h.setEntry n _) fun ⟨hw, ho, hc, hr, _⟩ => ⟨hw, ho, hc, hr, ?_⟩)
    fun ⟨_, hb, hd⟩ => ⟨?_, hb, hd⟩
  · show (t.preamp.queue ++ [_]).length ≤ 16
    rwa [List.length_append, List.length_singleton]
  · show (t.service.stepQueue ++ _).length ≤ 32
    rwa [List.length_append, List.length_map]

/-- A next target taken from its entry leaves the room for its change and the change itself as they were. -/
theorem changeRoom_setNext {n : Nat} {who : NodeId} {g : Gain} :
    (t.setEntry n { t.entry n with next := none }).changeRoom who
      ((t.setEntry n { t.entry n with next := none }).deltaFor n g) = t.changeRoom who (t.deltaFor n g) := by
  have e : ((t.setEntry n { t.entry n with next := none }).entry n).gain = (t.entry n).gain := by
    rcases Nat.lt_or_ge n 64 with h | h
    · rw [State.setEntry_entry h, if_pos rfl]
    · simp only [State.entry, State.setEntry, State.setPreamp_preamp, Tab.put_beyond _ _ h]
  simp only [State.deltaFor, e]
  rfl

theorem ListsKept.promoteOne (h : ListsKept s t) (n : Nat) : ListsKept s (State.promoteOne n t) := by
  unfold State.promoteOne
  dsimp only
  split
  · split
    · exact (h.setEntry _ _).raiseOwner _ _
    · split
      · next room => exact (h.setEntry _ _).createChange (by rw [changeRoom_setNext]; exact room)
      · exact h
  · exact h

theorem ListsKept.promote (h : ListsKept s t) : ListsKept s t.promote := by
  unfold State.promote
  split
  · exact ListsKept.forEach (fun i u hu => hu.promoteOne i) _ h
  · exact h

theorem ListsKept.applyChange (h : ListsKept s t) (n : Nat) : ListsKept s (t.applyChange n) := by
  have trim (u : State) (hu : ListsKept s u) (c : PendingChange) : ListsKept s (u.trimCompensate n c) := by
    have k (x : Int) : ListsKept s (u.setTracking { u.tracking with strim := u.tracking.strim.put n x }) := hu.setTracking id
    unfold State.trimCompensate
    split
    · exact hu
    · dsimp only
      split
      · exact (k _).setEntry _ _
      · exact k _
  unfold State.applyChange
  split
  · exact trim _ (h.setEntry _ _) _
  · exact h

theorem ListsKept.changeNow (h : ListsKept s t) (n : Nat) : ListsKept s (t.changeNow n) := by
  unfold State.changeNow
  split
  · exact (h.applyChange n).promote
  · exact h

theorem ListsKept.converterFault (h : ListsKept s t) (x : ConvCommand) (cause : Nat) : ListsKept s (t.converterFault x cause) :=
  ((h.setEntry _ _).raise _ _ _).bump _

theorem ListsKept.preampJump (h : ListsKept s t) : ListsKept s t.preampJump := by
  have one (i : Nat) (u : State) (hu : ListsKept s u) : ListsKept s (State.jumpChange i u) := by
    unfold State.jumpChange
    split
    · dsimp only
      (repeat' split) <;> first | exact hu | exact hu.applyChange _ | exact (hu.applyChange _).converterFault _ _
    · exact hu
  have k : ListsKept s (Machine.forEach 64 State.jumpChange t) := ListsKept.forEach one _ h
  unfold State.preampJump
  dsimp only
  split
  · split
    · exact k.promote
    · exact k
  · exact h

theorem reloadPass_length (a : Nat) : (t.reloadPass a).length ≤ 64 := by
  unfold State.reloadPass
  rw [List.length_map]
  exact (List.length_filter_le _ _).trans (by simp)

theorem ListsKept.startReload (h : ListsKept s t) (a : Nat) : ListsKept s (t.startReload a) :=
  h.setPreamp fun ⟨hq, ho, _⟩ => ⟨hq, ho, reloadPass_length a⟩

theorem ListsKept.startupReload (h : ListsKept s t) (a : Nat) : ListsKept s (t.startupReload a) := by
  unfold State.startupReload
  split
  · exact (h.startReload a).setPreamp id
  · exact h

theorem ListsKept.reloadTimeout (h : ListsKept s t) : ListsKept s t.reloadTimeout := by
  unfold State.reloadTimeout
  split
  · exact h.startupReload _
  · exact h

theorem ListsKept.expireOldest (h : ListsKept s t) : ListsKept s t.expireOldest := by
  unfold State.expireOldest
  split
  · next o q e =>
    have k : ListsKept s (t.setPreamp { t.preamp with outstanding := q }) :=
      h.setPreamp fun ⟨hq, ho, hr⟩ => ⟨hq, by rw [e, List.length_cons] at ho; exact (Nat.le_succ _).trans ho, hr⟩
    exact k.converterFault _ _
  · exact h

theorem ListsKept.ackExpiry (h : ListsKept s t) : ListsKept s t.ackExpiry := by
  unfold State.ackExpiry
  split
  · exact h.expireOldest
  · exact h

/-- The oldest command leaves, so one fewer is outstanding (R120). -/
theorem State.expireOldest_outstanding : t.expireOldest.preamp.outstanding = t.preamp.outstanding.tail := by
  unfold State.expireOldest
  split
  · next e => rw [e]; rfl
  · next e => rw [e]; rfl

/-- At 48 outstanding commands the transfer makes room first (R120). -/
theorem ListsKept.transfer (h : ListsKept s t) (x : ConvCommand) : ListsKept s (t.transfer x) := by
  refine h.trans ?_
  unfold State.transfer
  dsimp only
  split
  · have k : ListsKept t t.expireOldest := ListsKept.refl.expireOldest
    refine ⟨k.sends, k.ranks, fun hq => ?_, k.filed⟩
    obtain ⟨-, ⟨-, ho, -⟩, -⟩ := QueueLaw_iff.mp hq
    obtain ⟨hs, ⟨hp, -, hr⟩, ht⟩ := QueueLaw_iff.mp (k.queues hq)
    refine QueueLaw_iff.mpr ⟨hs, ⟨hp, ?_, hr⟩, ht⟩
    show (t.expireOldest.preamp.outstanding ++ [_]).length ≤ 48
    rw [State.expireOldest_outstanding, List.length_append, List.length_tail, List.length_singleton]
    omega
  · next room =>
    exact ListsKept.refl.setPreamp fun ⟨hq, _, hr⟩ =>
      ⟨hq, by simp only [List.length_append, List.length_singleton]; omega, hr⟩

end Sys2Proof.Machine
end

section
/-! What the larger operations make of the lists and queues whose laws every step keeps, in the order of the model's files
(R41, R77, R119, R120, R126, R130, R137, section 5.3.1). -/

namespace Sys2Proof.Machine

variable {l : List Group} {s t u v : State} {p : Side} {c : Cell} {r : Reply}

/-! ### The converter line (R116, R119) -/

theorem ListsKept.nextCommand (h : ListsKept s t) {x : ConvCommand} (e : t.nextCommand = some (x, u)) : ListsKept s u := by
  unfold State.nextCommand at e
  split at e
  · next c q hq =>
    obtain ⟨-, rfl⟩ := Prod.mk.inj (Option.some.inj e)
    exact h.setPreamp fun ⟨ha, hb, hr⟩ => ⟨ha, hb, by rw [hq, List.length_cons] at hr; exact (Nat.le_succ _).trans hr⟩
  · split at e
    · next c q hq =>
      obtain ⟨-, rfl⟩ := Prod.mk.inj (Option.some.inj e)
      exact h.setPreamp fun ⟨ha, hb, hr⟩ => ⟨by rw [hq, List.length_cons] at ha; exact (Nat.le_succ _).trans ha, hb, hr⟩
    · exact absurd e nofun

theorem ListsKept.runLine (fuel : Nat) (h : ListsKept s t) : ListsKept s (State.runLine fuel t) := by
  induction fuel generalizing t with
  | zero => exact h
  | succ n ih =>
    unfold State.runLine
    split
    · next c u e =>
      split
      · exact (h.nextCommand e).transfer c
      · exact ih ((h.nextCommand e).converterFault c 1)
    · exact h

theorem ListsKept.converterLine (h : ListsKept s t) : ListsKept s t.converterLine := by
  unfold State.converterLine
  split
  · dsimp only
    split
    · exact h.runLine _
    · exact (h.runLine _).promote
  · exact h

theorem ListsKept.pulseStrobe (h : ListsKept s t) : ListsKept s t.pulseStrobe := by
  unfold State.pulseStrobe
  split
  · exact h.setPreamp id
  · exact h

theorem ListsKept.setConfirmed (h : ListsKept s t) (n : Nat) (b : Bool) : ListsKept s (t.setConfirmed n b) := h.setEntry _ _

theorem ListsKept.acknowledge (h : ListsKept s t) (a b : Nat) : ListsKept s (t.acknowledge a b) := by
  unfold State.acknowledge
  dsimp only
  split
  · refine ListsKept.setConfirmed ?_ _ _
    refine h.setPreamp fun ⟨hq, ho, hr⟩ => ⟨hq, ?_, hr⟩
    exact (List.eraseP_sublist.length_le).trans ho
  · exact h

/-! ### Rosters and reachability (R32 to R34, R95, R128) -/

theorem ListsKept.setStepQueue (h : ListsKept s t) {q : List StepRecord} (hq : q.length ≤ t.service.stepQueue.length) :
    ListsKept s (t.setStepQueue q) :=
  h.setService fun ⟨hw, ho, hc, hr, hs⟩ => ⟨hw, ho, hc, hr, hq.trans hs⟩

theorem ListsKept.discardSteps (h : ListsKept s t) (n : NodeId) : ListsKept s (t.discardSteps n) := by
  unfold State.discardSteps
  dsimp only
  split
  · exact h
  · exact (h.setStepQueue (List.length_filter_le _ _)).promote

theorem ListsKept.removedCell (h : ListsKept s t) : ListsKept s (t.removedCell c) := by
  unfold State.removedCell
  split
  · exact h.answerHost
  · exact h.bump _

theorem ListsKept.purgeOutbound (h : ListsKept s t) (n : NodeId) : ListsKept s (t.purgeOutbound n) :=
  ListsKept.foldl (fun _ _ hu => hu.removedCell) _
    (h.setService fun ⟨hw, ho, hc⟩ => ⟨hw, (List.length_filter_le _ _).trans ho, hc⟩)

theorem ListsKept.abandonReport (h : ListsKept s t) (n : NodeId) : ListsKept s (t.abandonReport n) :=
  h.of_onlyIn (by simp [groupsButLists])

theorem ListsKept.releaseOfNode (h : ListsKept s t) (n : NodeId) : ListsKept s (t.releaseOfNode n) :=
  h.of_onlyIn (by simp [groupsButLists])

theorem ListsKept.nodeLost (h : ListsKept s t) (n : NodeId) : ListsKept s (t.nodeLost n) := by
  unfold State.nodeLost
  extract_lets owners steps talk
  have ho : ListsKept s owners := by
    simp only [owners]
    split
    · exact h.ownerLost n
    · exact h
  have ht : ListsKept s talk := by
    simp only [talk]
    split
    · exact (ho.discardSteps n).releaseOfNode n
    · exact ho.discardSteps n
  exact (ht.purgeOutbound n).abandonReport n

theorem ListsKept.setReach (h : ListsKept s t) (n : NodeId) (x : Reach) : ListsKept s (t.setReach n x) := by
  have k : ListsKept s (t.setMembers { t.members with reach := t.members.reach.put n.val x }) := h.setMembers rfl
  have kr := k.raise .reach n.val x.detail
  unfold State.setReach
  dsimp only
  split
  · exact k
  · split
    · split
      · exact kr.nodeLost n
      · split
        · exact kr.ownerBack n
        · exact kr
      · exact kr
    · split
      · exact kr.ownerDemoted n
      · exact kr

theorem ListsKept.takeRoster (h : ListsKept s t) (b : Byte) : ListsKept s (t.takeRoster b) :=
  ListsKept.foldl (fun _ _ hu => hu.setReach _ _) _ h

theorem ListsKept.isolationExpiry (h : ListsKept s t) : ListsKept s t.isolationExpiry := by
  unfold State.isolationExpiry
  split
  · refine ListsKept.foldl (fun u n hu => ?_) _ (h.setMembers rfl)
    dsimp only
    split
    · exact hu
    · exact hu.setReach _ _
  · exact h

/-! ### The mix (R137, R141, R142) -/

theorem sendsFit_expire {b : Bus} (talker : Bool) (h : sendsFit b.sends) : sendsFit (b.expire talker).sends := by
  refine ⟨(List.length_filter_le _ _).trans (by rw [List.length_map]; exact h.1), ?_⟩
  refine (List.Nodup.sublist (List.filter_sublist.map Send.source) ?_ )
  rw [List.map_map]
  exact h.2

theorem sendsFit_boundary {b : Bus} (talker : Bool) (h : sendsFit b.sends) : sendsFit (b.boundary talker).sends := by
  have e (x : Bus) : (if talker then { x with duckApplied := stepToward x.duckApplied x.duckDepth } else x).sends = x.sends := by
    split <;> rfl
  unfold Bus.boundary
  dsimp only
  rw [e]
  split
  · exact h
  · split
    · exact sendsFit_expire talker h
    · exact h

theorem ListsKept.mixBus (h : ListsKept s t) (n : Nat) : ListsKept s (State.mixBus n t) := by
  have k : ListsKept s (t.setBus n ((t.bus n).boundary (t.talker n).isSome)) := h.setBus fun _ => sendsFit_boundary _
  unfold State.mixBus
  dsimp only
  split
  · exact k.setAudio _
  · refine ListsKept.raise (ListsKept.setBus (k.setAudio _) fun hn hb => ?_) _ _ _
    change sendsFit ((t.setBus n _).bus n).sends at hb
    rwa [State.setBus_bus hn, if_pos rfl] at hb

theorem ListsKept.mix (h : ListsKept s t) : ListsKept s t.mix := by
  unfold State.mix
  split
  · exact ListsKept.forEach (fun n u hu => hu.mixBus n) _ h
  · exact h

theorem ListsKept.rampExpiry (h : ListsKept s t) (n : Nat) : ListsKept s (t.rampExpiry n) := by
  unfold State.rampExpiry
  split
  · exact h.setBus fun _ => sendsFit_expire (t.talker n).isSome
  · exact h

/-! ### The arbiter's ranks (R41) -/

/-- Four ranks that form a permutation of 0 to 3: each lies below 4 and no two are equal. -/
theorem ranksPerm_iff (ranks : Tab Nat 4) :
    ranks.toList.Perm [0, 1, 2, 3] ↔
      (∀ i, i < 4 → ranks.get i < 4) ∧ ∀ i j, i < 4 → j < 4 → ranks.get i = ranks.get j → i = j := by
  have hlen := ranks.length_eq
  have hget (i : Nat) (hi : i < 4) : ranks.get i = ranks.toList[i]'(by omega) := by
    simp [Tab.get, List.getD, show i < ranks.toList.length by omega]
  constructor
  · intro h
    have nodup : ranks.toList.Nodup := h.symm.nodup (by decide)
    refine ⟨fun i hi => ?_, fun i j hi hj e => ?_⟩
    · have hm := h.subset (List.getElem_mem (l := ranks.toList) (n := i) (by omega))
      rw [hget i hi]
      simp only [List.mem_cons, List.not_mem_nil, or_false] at hm
      omega
    · rw [hget i hi, hget j hj] at e
      exact (List.Nodup.getElem_inj_iff nodup).mp e
  · rintro ⟨hlt, hinj⟩
    have nodup : ranks.toList.Nodup := List.nodup_iff_injective_get.mpr fun i j e =>
      Fin.ext (hinj i j (by omega) (by omega) (by rw [hget i (by omega), hget j (by omega)]; exact e))
    refine (nodup.subperm fun x hx => ?_).perm_of_length_le (by simp [hlen])
    obtain ⟨i, hi, rfl⟩ := List.mem_iff_getElem.mp hx
    have := hlt i (by omega)
    rw [hget i (by omega)] at this
    simp only [List.mem_cons, List.not_mem_nil, or_false]
    omega

/-- An award leaves the ranks a permutation of 0 to 3 (R41). -/
theorem Arbiter.award_perm (a : Arbiter) (w : NodeId) (h : a.ranks.toList.Perm [0, 1, 2, 3]) :
    (a.award w).ranks.toList.Perm [0, 1, 2, 3] := by
  obtain ⟨levels, ranks⟩ := a
  obtain ⟨hlt, hinj⟩ := (ranksPerm_iff ranks).mp h
  rw [Arbiter.award_eq, ranksPerm_iff]
  have hw := hlt w.val w.isLt
  refine ⟨fun i hi => ?_, fun i j hi hj e => ?_⟩
  · have hi' := hlt i hi
    rw [Tab.get_ofFn _ hi]
    split_ifs <;> omega
  · have same := hinj i j hi hj
    have ie := hinj i w.val hi w.isLt
    have je := hinj j w.val hj w.isLt
    rw [Tab.get_ofFn _ hi, Tab.get_ofFn _ hj] at e
    split_ifs at e <;> omega

/-- The arbiter's awards leave the ranks a permutation of 0 to 3 (R41). -/
theorem Arbiter.fill_perm (n : Nat) (a : Arbiter) (h : a.ranks.toList.Perm [0, 1, 2, 3]) :
    (Arbiter.fill n a).2.ranks.toList.Perm [0, 1, 2, 3] := by
  induction n generalizing a with
  | zero => exact h
  | succ n ih =>
    unfold Arbiter.fill
    split
    · exact ih _ (a.award_perm _ h)
    · exact ih _ h

theorem ListsKept.arbitrate (h : ListsKept s t) (x : Header) : ListsKept s (t.arbitrate x) :=
  h.trans ⟨id, Arbiter.fill_perm 6 ⟨_, t.members.ranks⟩, id, id⟩

/-! ### The service lane (R36 to R39, R89 to R92) -/

theorem ListsKept.setLaneOut (h : ListsKept s t) (k x) : ListsKept s (t.setLaneOut k x) := h.setService id

theorem ListsKept.takeOutbound (h : ListsKept s t) (k : Nat) : ListsKept s (t.takeOutbound k) := by
  unfold State.takeOutbound
  split
  · next c q e =>
    refine ListsKept.setLaneOut ?_ _ _
    refine h.setService fun ⟨hw, ho, hc⟩ => ⟨hw, ?_, hc⟩
    rw [e, List.length_cons] at ho
    exact (Nat.le_succ _).trans ho
  · exact h.setLaneOut _ _

theorem ListsKept.takeWhole (h : ListsKept s t) (k : Nat) : ListsKept s (t.takeWhole k) := by
  unfold State.takeWhole
  split
  · next c q e =>
    split
    · refine ListsKept.setLaneOut ?_ _ _
      refine h.setService fun ⟨hw, ho, hc, hr, hs⟩ => ⟨hw, ho, hc, ?_, hs⟩
      rw [e, List.length_cons] at hr
      exact (Nat.le_succ _).trans hr
    · exact h.takeOutbound k
  · exact h.takeOutbound k

theorem packStep_length (q : List StepRecord) : (packStep q).2.length ≤ q.length := by
  unfold packStep
  split
  · exact Nat.le_refl _
  · exact (takeFor_spec _ _ _).2.1.length_le

theorem ListsKept.takeCell (h : ListsKept s t) (k : Nat) : ListsKept s (t.takeCell k) := by
  unfold State.takeCell
  split
  · exact ((h.setStepQueue (packStep_length _)).setLaneOut _ _).promote
  · exact h.takeWhole k

theorem ListsKept.laneTurn (h : ListsKept s t) (n : Nat) : ListsKept s (t.laneTurn n) := by
  unfold State.laneTurn
  split
  · split
    · exact h.takeCell _
    · exact h.setService id
  · exact h

theorem ListsKept.workIntake (h : ListsKept s t) : ListsKept s (t.workIntake c) := by
  unfold State.workIntake
  split
  · next room => exact h.pushWork room
  · split
    · next room => exact (h.bump .cellDiscards).pushOutbound room.2
    · exact h.bump _

theorem ListsKept.consoleIntake (h : ListsKept s t) : ListsKept s (t.consoleIntake c) := by
  unfold State.consoleIntake
  split
  · split
    · next room => exact h.pushConsole room
    · exact h.bump _
  · exact h.bump _

theorem ListsKept.routeRing (h : ListsKept s t) : ListsKept s (t.routeRing c) := by
  have d : ListsKept s (t.bump .cellDiscards) := h.bump _
  unfold State.routeRing
  split
  · split
    · exact h.workIntake
    · exact h.workIntake
    · exact h.workIntake
    · split
      · exact d
      · exact h.workIntake
    all_goals first
      | exact d
      | split
        · exact d
        · exact h.consoleIntake
  · split
    · exact d
    · exact h

theorem ListsKept.relayTake (h : ListsKept s t) (w : NodeId) : ListsKept s (t.relayTake w c) := by
  unfold State.relayTake
  split
  · split
    · next room =>
      exact h.setService fun ⟨hw, ho, hc, _, hs⟩ => ⟨hw, ho, hc, by simpa using hasRoom_iff.mp room, hs⟩
    · exact h.bump _
  · exact h

theorem ListsKept.takeRingCell (h : ListsKept s t) (w : NodeId) (b : List Byte) : ListsKept s (t.takeRingCell w b) := by
  unfold State.takeRingCell
  extract_lets c ok relayed
  have k : ListsKept s relayed := by
    simp only [relayed]
    split
    · exact h.relayTake w
    · exact h
  split
  · exact k
  · split
    · exact k.routeRing
    · exact k.bump _

theorem ListsKept.judgeParts (h : ListsKept s t) (w x) : ListsKept s (t.judgeParts w x) := by
  unfold State.judgeParts
  split
  · split
    · exact h
    · split
      · exact h.bump _
      · split
        · exact h
        · exact h.takeRingCell _ _
  · exact h

theorem ListsKept.judgeLane (h : ListsKept s t) : ListsKept s t.judgeLane := h.judgeParts _ _

theorem ListsKept.judgeLate (h : ListsKept s t) : ListsKept s t.judgeLate := by
  unfold State.judgeLate
  split
  · refine ListsKept.judgeParts ?_ _ _
    exact h.setService id
  · exact h

theorem ListsKept.joinLane (h : ListsKept s t) (n : Nat) (x : Lane) : ListsKept s (t.joinLane n x) := by
  unfold State.joinLane
  split
  · exact h.setService id
  · exact h

theorem ListsKept.takeLane (h : ListsKept s t) (a b x) : ListsKept s (t.takeLane a b x) := by
  unfold State.takeLane State.joinReturn
  split
  · split
    · split
      · exact h.setService id
      · split
        · exact h.judgeLate.joinLane _ _
        · exact h
    · split
      · exact h.joinLane _ _
      · exact h
  · exact h.joinLane _ _

theorem ListsKept.ringCell (h : ListsKept s t) : ListsKept s t.ringCell := by
  unfold State.ringCell
  extract_lets late
  have k : ListsKept s late := by
    simp only [late]
    split
    · exact h.judgeLate
    · exact h
  split
  · exact k.judgeLane.setService id
  · exact k

theorem ListsKept.nextCellTime (h : ListsKept s t) : ListsKept s t.nextCellTime := by
  unfold State.nextCellTime
  dsimp only
  refine ListsKept.setService ?_ id
  split
  · exact h.judgeLate
  · exact h

theorem ListsKept.refuseHost (h : ListsKept s t) : ListsKept s (t.refuseHost c) := (h.bump _).answerHost

theorem ListsKept.takeHostCell (h : ListsKept s t) : ListsKept s (t.takeHostCell c) := by
  unfold State.takeHostCell
  split
  · exact h.bump _
  · split
    · unfold State.hostAll
      split
      · split
        · next room => exact (h.pushWork room).answerHost
        · exact h.refuseHost
      · split
        · next room =>
          rw [Bool.and_eq_true] at room
          exact (h.pushWork room.1).pushOutbound room.2
        · exact h.refuseHost
    · split
      · exact h.answerHost
      · split
        · split
          · next room => exact h.pushWork room
          · exact h.refuseHost
        · unfold State.hostOther
          split
          · exact h.answerHost
          · split
            · split
              · next room => exact h.pushOutbound room
              · exact h.refuseHost
            · exact h.answerHost

theorem ListsKept.consoleCell (h : ListsKept s t) : ListsKept s t.consoleCell := by
  have judge (b : List Byte) : ListsKept s (t.judgeConsole b) := by
    unfold State.judgeConsole
    split
    · exact h
    · split
      · exact h
      · split
        · exact h.takeHostCell
        · exact h.bump _
  unfold State.consoleCell
  split
  · exact (judge _).setService id
  · exact h

theorem ListsKept.consoleFrame (h : ListsKept s t) : ListsKept s t.consoleFrame := by
  unfold State.consoleFrame
  split
  · extract_lets lane _ _ u
    have k : ListsKept s u := h.setService id
    split
    · split
      · next c q e =>
        refine k.setService fun ⟨hw, ho, hc, hr⟩ => ⟨hw, ho, ?_, hr⟩
        rw [e, List.length_cons] at hc
        exact (Nat.le_succ _).trans hc
      · exact k.setService id
    · exact k
  · exact h

end Sys2Proof.Machine
end

section
/-! Frames, boundaries, requests, images and resets keep the laws of the lists and queues, and so does every step (O58). -/

namespace Sys2Proof.Machine

variable {l : List Group} {s t u v : State} {p : Side} {c : Cell} {r : Reply}

/-! ### The jump of the counters (R35, R81, R118, R132) -/

theorem ListsKept.forSides {f : Side → State → State} (hf : ∀ q u, ListsKept s u → ListsKept s (f q u)) (h : ListsKept s t) :
    ListsKept s (t.forSides f) := hf _ _ (hf _ _ h)

theorem ListsKept.swapNow (h : ListsKept s t) : ListsKept s t.swapNow := h.of_onlyIn (by simp [groupsButLists])

theorem ListsKept.reached (h : ListsKept s t) : ListsKept s t.reached :=
  (ListsKept.forEach (fun n _ hu => hu.changeNow n) _ (h.forSides fun _ _ hu => hu.unwrapNow).swapNow).reloadTimeout

theorem ListsKept.laneJump (h : ListsKept s t) (a b : Nat) : ListsKept s (t.laneJump a b) := by
  unfold State.laneJump
  split
  · exact h
  · extract_lets judged
    refine ListsKept.setService (t := judged) ?_ id
    simp only [judged]
    split
    · exact h.consoleCell
    · exact h.judgeLane.consoleCell

theorem ListsKept.setNumbers (h : ListsKept s t) (a b : Nat) : ListsKept s (t.setNumbers a b) := by
  have k (x : Timing) : ListsKept s (t.setTiming x) := h.of_onlyIn (by simp [groupsButLists])
  unfold State.setNumbers
  dsimp only
  split
  · exact k _
  · exact (k _).setMembers rfl

theorem ListsKept.swapJump (h : ListsKept s t) (a : Nat) : ListsKept s (t.swapJump a) :=
  h.of_onlyIn (by simp [groupsButLists])

theorem ListsKept.jump (h : ListsKept s t) (a b : Nat) : ListsKept s (t.jump a b) := by
  have k := (((((h.reached.laneJump a b).setNumbers a b).presentJump).swapJump t.reached.timing.superframe).preampJump).applyEntries
  unfold State.jump
  dsimp only
  split
  · exact (k _).pulseStrobe
  · exact k _

theorem ListsKept.loadCounters (h : ListsKept s t) (x : Header) : ListsKept s (t.loadCounters x) := by
  unfold State.loadCounters
  split
  · exact h.reloadTimeout
  · exact h.jump _ _

theorem ListsKept.setClock (h : ListsKept s t) (x : ClockState) : ListsKept s (t.setClock x) :=
  h.of_onlyIn (by simp [groupsButLists])

theorem ListsKept.clockLock (h : ListsKept s t) (x : Header) : ListsKept s (t.clockLock x) := by
  unfold State.clockLock
  dsimp only
  split
  · exact h.loadCounters x
  · exact ((h.loadCounters x).setClock _).startupReload _

/-! ### A received frame (sections 1.3 and 2.4) -/

theorem ListsKept.transmit (h : ListsKept s t) (f : Frame) : ListsKept s (t.transmit p f) :=
  h.of_onlyIn (by simp [groupsButLists])

theorem ListsKept.takeReturn (h : ListsKept s t) (x : Header) (slots) : ListsKept s (t.takeReturn x slots) := by
  unfold State.takeReturn
  extract_lets _ store _ map
  have k : ListsKept s store := h.setMembers rfl
  have km : ListsKept s map := k.setMembers rfl
  split
  · split
    · exact km.arbitrate x
    · exact km
  · exact k

theorem ListsKept.takeLists (h : ListsKept s t) (x : Header) : ListsKept s (t.takeLists x) := by
  unfold State.takeLists
  split
  · exact h.setMembers rfl
  · split
    · exact h.takeRoster _
    · exact h

theorem ListsKept.forward (h : ListsKept s t) (x slots lane) : ListsKept s (t.forward x slots lane) := by
  unfold State.forward
  split
  · exact (h.laneTurn _).transmit _
  · exact h

theorem ListsKept.ringTraffic (h : ListsKept s t) (x slots lane) : ListsKept s (t.ringTraffic x slots lane) := by
  unfold State.ringTraffic
  dsimp only
  split
  · split
    · exact ((h.takeReturn x slots).masterSeen.fileRing _ _).takeLane _ _ _
    · exact ((h.takeReturn x slots).fileRing _ _).takeLane _ _ _
  · split
    · exact ((((h.clockLock x).masterSeen.takeLists x).fileRing _ _).takeLane _ _ _).forward _ _ _
    · exact (((h.takeLists x).fileRing _ _).takeLane _ _ _).forward _ _ _

theorem ListsKept.takeFrame (h : ListsKept s t) (f : Frame) : ListsKept s (t.takeFrame p f) := by
  have k : ListsKept s (t.passTurned p f) := h.of_onlyIn (by simp [groupsButLists])
  unfold State.takeFrame
  dsimp only
  split
  · split
    · exact k.ringTraffic _ _ _
    · exact k
  · exact k

theorem ListsKept.deliver (h : ListsKept s t) (f : Frame) : ListsKept s (t.deliver p f) := by
  have flagged (x : Port) (y : PortFlags) : ListsKept s ((t.setPort p x).setFlags p y) :=
    (h.setPort (p := p) x).of_onlyIn (by simp [groupsButLists])
  unfold State.deliver
  dsimp only
  split
  · exact (flagged _ _).control f
  · exact ((flagged _ _).control f).takeFrame f

theorem ListsKept.toHunt (h : ListsKept s t) (a b : Bool) : ListsKept s (t.toHunt p a b) :=
  h.of_onlyIn (by simp [groupsButLists])

theorem ListsKept.badFrame (h : ListsKept s t) : ListsKept s (t.badFrame p) := by
  unfold State.badFrame
  extract_lets run _ counted
  have k : ListsKept s counted := h.of_onlyIn (by simp [counted, groupsButLists])
  split
  · exact (k.toHunt _ _).evaluate
  · exact k

theorem ListsKept.setReference (h : ListsKept s t) (x : Reference) : ListsKept s (t.setReference p x) :=
  h.of_onlyIn (by simp [groupsButLists])

theorem ListsKept.searchFrame (h : ListsKept s t) (x : Option Reference) (f : Frame) : ListsKept s (t.searchFrame p x f) := by
  unfold State.searchFrame
  split
  · split
    · exact h.deliver f
    · exact h.setReference _
  · split
    · exact h.setReference _
    · exact h

theorem ListsKept.receive (h : ListsKept s t) (period : List Byte) : ListsKept s (t.receive p period) := by
  unfold State.receive
  split
  · exact h.deliver _
  · exact h.badFrame
  · exact h.searchFrame _ _
  · split
    · exact h.setReference _
    · exact h
  · exact h.searchFrame _ _
  · exact h

theorem ListsKept.receivePeriod (h : ListsKept s t) (period : List Byte) : ListsKept s (t.receivePeriod p period) := by
  unfold State.receivePeriod
  split
  · exact h
  · extract_lets kept
    have k : ListsKept s kept :=
      (h.event fun u hu => hu.absenceExpiry).of_onlyIn (by simp [kept, groupsButLists])
    split
    · exact k.event fun u hu => hu.receive _
    · exact k

theorem ListsKept.lightOff (h : ListsKept s t) : ListsKept s (t.lightOff p) := by
  unfold State.lightOff
  split
  · exact h
  · extract_lets _ dark
    have k : ListsKept s dark := h.of_onlyIn (by simp [dark, groupsButLists])
    split
    · exact k
    · exact (k.toHunt _ _).evaluate

/-! ### The boundaries (R24) -/

theorem ListsKept.restoreExpiry (h : ListsKept s t) : ListsKept s (t.restoreExpiry p) :=
  h.of_onlyIn (by simp [groupsButLists])

theorem ListsKept.holdExpiry (h : ListsKept s t) (n : Nat) : ListsKept s (t.holdExpiry n) :=
  h.of_onlyIn (by simp [groupsButLists])

theorem ListsKept.flipLine (h : ListsKept s t) (n : Fin 8) : ListsKept s (t.flipLine n) :=
  h.of_onlyIn (by simp [groupsButLists])

theorem ListsKept.settleRing (h : ListsKept s t) : ListsKept s t.settleRing := by
  unfold State.settleRing
  refine ListsKept.forSides (fun q u hu => hu.event fun v hv => hv.unwrapNow) ?_
  refine ListsKept.forSides (fun q u hu => hu.restoreExpiry) ?_
  refine ListsKept.forSides (fun q u hu => hu.event fun v hv => hv.holdoffExpiry) ?_
  exact (h.ringCell.consoleCell.event fun v hv => hv.absenceExpiry).event fun v hv => hv.isolationExpiry

theorem ListsKept.settleBlocks (h : ListsKept s t) : ListsKept s t.settleBlocks := by
  have swap := h.event fun v hv => hv.swapNow
  have changes := ListsKept.forEach (f := fun n s => s.event (·.changeNow n))
    (fun n u hu => hu.event fun v hv => hv.changeNow n) 64 swap
  have graces := ListsKept.forEach (f := fun n s => s.event (·.graceExpiry n))
    (fun n u hu => hu.event fun v hv => hv.graceExpiry n) 64 changes.reloadTimeout
  have holds := ListsKept.forEach (f := fun n s => s.event (·.holdExpiry n))
    (fun n u hu => hu.event fun v hv => hv.holdExpiry n) 4 graces
  have flips := ListsKept.foldl (f := fun s n => s.event (·.flipLine n))
    (fun u n hu => hu.event fun v hv => hv.flipLine n) (List.finRange 8) holds
  exact ListsKept.forEach (fun n u hu => hu.event fun v hv => hv.ackExpiry) 48 flips

theorem ListsKept.settle (h : ListsKept s t) : ListsKept s t.settle := h.settleRing.settleBlocks

theorem ListsKept.advance (h : ListsKept s t) : ListsKept s t.advance := by
  unfold State.advance
  extract_lets cell counted checked
  have kc : ListsKept s cell := by
    simp only [cell]
    split
    · exact h.nextCellTime
    · exact h
  have kt : ListsKept s (cell.setTiming cell.timing.advance) := kc.of_onlyIn (by simp [groupsButLists])
  have kp := kt.setPreamp (x := cell.preamp.frame) fun ⟨hq, ho, hr⟩ => ⟨hq, by simpa [Preamp.frame] using ho, hr⟩
  have kd : ListsKept s counted := kp.setPresent (x := cell.present.frame) fun _ _ hp => hp
  have kk : ListsKept s checked := kd.of_onlyIn (by simp [checked, groupsButLists])
  split
  · exact kk.redetermine
  · exact kk

theorem ListsKept.superframe (h : ListsKept s t) (levels : Tab Bool 8) : ListsKept s (t.superframe levels) := by
  unfold State.superframe
  refine ListsKept.pulseStrobe ?_
  refine ListsKept.setLines ?_ _
  refine ListsKept.setTalk ?_ _
  refine ListsKept.setPreamp ?_ id
  refine ListsKept.setRing ?_ _
  exact h.setMembers rfl

theorem ListsKept.begin (h : ListsKept s t) (levels : Tab Bool 8) : ListsKept s (t.begin levels) := by
  have k := h.settle.event fun v hv => hv.advance
  unfold State.begin
  dsimp only
  split
  · exact k.superframe levels
  · exact k

theorem ListsKept.trackTo (h : ListsKept s t) (n : Nat) : ListsKept s (t.trackTo n) := h.applyEntries _

theorem ListsKept.presentFrame (h : ListsKept s t) : ListsKept s t.presentFrame := by
  unfold State.presentFrame
  extract_lets slots checked
  have k : ListsKept s checked := by
    simp only [checked, slots]
    split
    · exact h.presentSlots _
    · exact (h.presentSlots t.count).of_onlyIn (by simp [groupsButLists])
  exact (k.trackTo checked.present.lastCapture).of_onlyIn (by simp [groupsButLists])

theorem ListsKept.originate (h : ListsKept s t) : ListsKept s t.originate := by
  have lists : ListsKept s t.originLists := by
    unfold State.originLists
    split
    · exact h.setMembers rfl
    · exact h
  have roster (u : State) (hu : ListsKept s u) : ListsKept s u.originRoster := by
    unfold State.originRoster
    split
    · refine ListsKept.takeRoster ?_ _
      exact hu.setMembers rfl
    · exact hu
  unfold State.originate
  split
  · dsimp only
    refine roster _ ?_
    split
    · exact (lists.laneTurn _).transmit _
    · exact lists.laneTurn _
  · exact h

theorem ListsKept.frameWork (h : ListsKept s t) (inputs : Tab Sample 64) : ListsKept s (t.frameWork inputs) := by
  have sent (u : State) (hu : ListsKept s u) : ListsKept s u.outputs.sendSupervision :=
    hu.of_onlyIn (by simp [groupsButLists])
  have dropped (u : State) (hu : ListsKept s u) : ListsKept s u.dropOutgoing := hu.of_onlyIn (by simp [groupsButLists])
  unfold State.frameWork
  refine ListsKept.setTiming (dropped _ (sent _ ?_).originate) _
  exact (h.setAudio _).converterLine.presentFrame.mix.fileOwn.consoleFrame

theorem ListsKept.localBoundary (h : ListsKept s t) (inputs : Tab Sample 64) : ListsKept s (t.localBoundary inputs) := by
  unfold State.localBoundary
  split
  · exact h
  · split
    · exact h.settle.event fun v hv => hv.frameWork inputs
    · dsimp only
      refine ListsKept.event ?_ fun v hv => hv.frameWork inputs
      split
      · exact (h.begin _).settle
      · exact h.begin _

theorem ListsKept.superframeBoundary (h : ListsKept s t) (levels : Tab Bool 8) : ListsKept s (t.superframeBoundary levels) := by
  unfold State.superframeBoundary
  split
  · exact h.begin levels
  · exact h

end Sys2Proof.Machine
end

section
/-! Requests, images and resets keep the laws of the lists and queues, and so does every step (O58). -/

namespace Sys2Proof.Machine

variable {l : List Group} {s t u v : State} {p : Side} {c : Cell} {r : Reply}

/-! ### Requests and their answers (R93, R94) -/

/-- What an action may do: it keeps the laws, and the room for its answer. -/
structure Acted (s t : State) : Prop where
  kept : ListsKept s t
  straps : t.straps = s.straps
  outbound : t.service.outbound.length ≤ s.service.outbound.length
  console : t.service.console.length ≤ s.service.console.length

theorem Acted.refl : Acted s s := ⟨.refl, rfl, Nat.le_refl _, Nat.le_refl _⟩

theorem Acted.trans (h : Acted s t) (k : Acted t u) : Acted s u :=
  ⟨h.kept.trans k.kept, k.straps.trans h.straps, k.outbound.trans h.outbound, k.console.trans h.console⟩

/-- The groups of an action that touches neither the straps nor the service lane engine. -/
def groupsOfActs : List Group := [.portE, .portW, .timing, .ring, .members, .plan, .present, .checker, .audio, .preamp,
  .tracking, .buses, .talk, .lines, .sets, .notices, .counters, .image, .pending]

theorem Acted.of (k : ListsKept s t) (o : OnlyIn groupsOfActs s t) : Acted s t := by
  have hs : t.service = s.service := o.at .service (by decide)
  exact ⟨k, o.at .straps (by decide), by rw [hs], by rw [hs]⟩

/-- An action on what no law speaks of. -/
theorem Acted.quiet (o : OnlyIn groupsButLists s t) : Acted s t :=
  .of (ListsKept.refl.of_onlyIn o) (o.mono (by decide))

theorem ListsKept.answer_of_acted (h : ListsKept s t) (k : Acted t u) (room : t.answerRoom c = true) :
    ListsKept s (u.answer c r) :=
  (h.trans k.kept).place (answerRoom_of_le k.straps k.outbound k.console room)

theorem answerRoom_popWork (h : t.answerRoom c = true) : t.popWork.answerRoom c = true := h

theorem ListsKept.runHead (h : ListsKept s t) {f : Cell → Bool} {act : Cell → State → State × Reply}
    (hact : ∀ c u, Acted u (act c u).1) : ListsKept s (t.runHead f act) := by
  unfold State.runHead
  split
  · next c hc =>
    split
    · exact h.popWork.answer_of_acted (hact c _) (answerRoom_popWork (State.request_eq_some hc).2.2)
    · exact h
  · exact h

theorem ListsKept.runAct (h : ListsKept s t) {code args : Nat} {stage : Bool} {act : Cell → State → State × Reply}
    (hact : ∀ c u, Acted u (act c u).1) : ListsKept s (t.runAct code stage args act) := by
  refine h.runHead fun c u => ?_
  unfold State.checked
  split
  · exact .refl
  · split
    · exact .refl
    · exact hact c u

/-! ### The writers of the tables (R97) -/

theorem writeAll_acted {w : EntryWriter} (hw : ∀ i b u, Acted u (w i b u).1) (q : List (List Byte)) (i : Nat) (u : State) :
    Acted u (writeAll w i q u).1 := by
  induction q generalizing i u with
  | nil => exact .refl
  | cons b q ih => exact (hw i b u).trans (ih _ _)

theorem writeAct_acted {w : Table → EntryWriter} (hw : ∀ k i b u, Acted u (w k i b u).1) (c : Cell) (u : State) :
    Acted u (writeAct w c u).1 := by
  unfold writeAct
  split
  · exact .refl
  · split
    · exact .refl
    · split
      · exact writeAll_acted (hw _) _ _ _
      · exact .refl

theorem ListsKept.runWrite (h : ListsKept s t) {q : List Table} {w : Table → EntryWriter}
    (hw : ∀ k i b u, Acted u (w k i b u).1) : ListsKept s (t.runWrite q w) := h.runHead (writeAct_acted hw)

theorem accept_acted {α : Type} {x : Parsed α} {put : α → State} (hput : ∀ a, Acted s (put a)) : Acted s (s.accept x put).1 := by
  unfold State.accept
  split
  · exact hput _
  · exact hput _
  · exact .refl

theorem writeSlot_acted (k : Table) (i : Nat) (b : List Byte) : Acted s (writeSlot k i b s).1 := by
  unfold writeSlot
  split
  · exact .refl
  · exact accept_acted fun a => .quiet (by simp [groupsButLists])

theorem writeDrop_acted (k : Table) (i : Nat) (b : List Byte) : Acted s (writeDrop k i b s).1 := by
  unfold writeDrop
  split
  · exact .refl
  · exact accept_acted fun a => .quiet (by simp [groupsButLists])

theorem writeDtrim_acted (i : Nat) (b : List Byte) : Acted s (writeDtrim i b s).1 :=
  accept_acted fun a => .quiet (by simp [groupsButLists])

theorem writeStrim_acted (i : Nat) (b : List Byte) : Acted s (writeStrim i b s).1 := by
  refine accept_acted fun a => .of ?_ (by simp [groupsOfActs])
  refine ListsKept.setEntry ?_ _ _
  exact ListsKept.refl.setTracking id

theorem writeTrack_acted (i : Nat) (b : List Byte) : Acted s (writeTrack i b s).1 :=
  accept_acted fun a => .of (ListsKept.refl.setTracking id) (by simp [groupsOfActs])

theorem parseBus_sends {x : Bus} {b : List Byte} {y : Bus} (h : parseBus x b = .taken y ∨ parseBus x b = .clamped y) :
    y.sends = x.sends := by
  unfold parseBus at h
  dsimp only at h
  split at h <;> rcases h with h | h <;> cases h <;> rfl

theorem writeBus_acted (i : Nat) (b : List Byte) : Acted s (writeBus i b s).1 := by
  have put (y : Bus) (hy : y.sends = (s.bus i).sends) : Acted s (s.setBus i y) :=
    .of (ListsKept.refl.setBus fun _ k => by rw [hy]; exact k) (by simp [groupsOfActs])
  unfold writeBus State.accept
  split
  · next e => exact put _ (parseBus_sends (.inl e))
  · next e => exact put _ (parseBus_sends (.inr e))
  · exact .refl

/-- A send replaced by one of the same source leaves the sources of its list. -/
theorem map_source_set {q : List Send} {n : Nat} {x y : Send} (hy : q[n]? = some y) (e : x.source = y.source) :
    (q.set n x).map Send.source = q.map Send.source := by
  obtain ⟨hn, rfl⟩ := List.getElem?_eq_some_iff.mp hy
  rw [List.map_set, e, ← List.getElem_map Send.source (h := by simpa using hn), List.set_getElem_self]

/-- A send list after a write keeps within its capacity and has no source twice (R137, R138). -/
theorem sendsFit_write {q q' : List Send} {n : Nat} {a : AudioSource} {x : Nat} (hn : n < 32)
    (e : sendWrite q n a x = .ok q') (h : sendsFit q) : sendsFit q' := by
  obtain ⟨hlen, hnodup⟩ := h
  unfold sendWrite at e
  split at e
  · exact absurd e nofun
  · next short =>
    split at e
    · next y hy =>
      split at e
      · cases e
        exact ⟨by rwa [List.length_set], by rw [map_source_set hy (x := y.takeOver x) rfl]; exact hnodup⟩
      · split at e <;> exact absurd e nofun
    · next hy =>
      split at e
      · split at e
        · cases e
          refine ⟨by rwa [List.length_map], ?_⟩
          have same : (q.map fun y => if y.source = a then y.takeOver x else y).map Send.source = q.map Send.source := by
            rw [List.map_map]
            refine List.map_congr_left fun y _ => ?_
            simp only [Function.comp_apply]
            split <;> rfl
          rwa [same]
        · exact absurd e nofun
      · next new =>
        cases e
        have hl : q.length ≤ n := List.getElem?_eq_none_iff.mp hy
        refine ⟨by simp only [List.length_append, List.length_singleton]; omega, ?_⟩
        rw [List.map_append, List.nodup_append]
        refine ⟨hnodup, by simp, fun b hb c hc => ?_⟩
        simp only [List.map_cons, List.map_nil, List.mem_singleton] at hc
        subst hc
        rintro rfl
        obtain ⟨y, hy, rfl⟩ := List.mem_map.mp hb
        exact new (List.any_eq_true.mpr ⟨y, hy, by simp⟩)

theorem writeSend_acted (i : Nat) (b : List Byte) : Acted s (writeSend i b s).1 := by
  unfold writeSend
  split
  · exact .refl
  · split
    · next q e =>
      exact .of (ListsKept.refl.setBus fun _ k => sendsFit_write (Nat.mod_lt _ (by decide)) e k) (by simp [groupsOfActs])
    · exact .refl

theorem writeTalksrc_acted (i : Nat) (b : List Byte) : Acted s (writeTalksrc i b s).1 := by
  unfold writeTalksrc
  split
  · exact accept_acted fun a => .quiet (by simp [groupsButLists])
  · exact .refl

theorem writeLine_acted (i : Nat) (b : List Byte) : Acted s (writeLine i b s).1 := by
  unfold writeLine
  split
  · exact accept_acted fun a => .quiet (by simp [groupsButLists])
  · exact .refl

theorem writeSet_acted (i : Nat) (b : List Byte) : Acted s (writeSet i b s).1 := by
  refine accept_acted fun a => .of ?_ (by simp [groupsOfActs])
  unfold State.setField
  dsimp only
  split
  · refine ListsKept.setPresent (ListsKept.refl.setSets _) fun _ _ hp => hp
  · exact ListsKept.refl.setSets _

/-! ### READ (R98) and REPORT (R181) -/

theorem ListsKept.dataCell (h : ListsKept s t) {k : Table} {x : Reading} (room : t.answerRoom c = true) :
    ListsKept s (t.dataCell k c x) := by
  have effect : OnlyIn groupsButLists t (t.readEffect k x.next (x.batch k)) := by simp [groupsButLists]
  have kept := h.of_onlyIn effect
  have hs : (t.readEffect k x.next (x.batch k)).service = t.service := effect.at .service (by decide)
  unfold State.dataCell
  refine ListsKept.place ?_ ?_
  · exact kept.setService id
  · exact answerRoom_of_le (effect.at .straps (by decide)) (Nat.le_of_eq (by rw [← hs]; rfl)) (Nat.le_of_eq (by rw [← hs]; rfl)) room

theorem ListsKept.answerPopped (h : ListsKept s t) (room : t.answerRoom c = true) : ListsKept s (t.popWork.answer c r) :=
  h.popWork.answer_of_acted .refl (answerRoom_popWork room)

theorem ListsKept.startRead (h : ListsKept s t) : ListsKept s t.startRead := by
  unfold State.startRead
  split
  · next c hc =>
    have room := (State.request_eq_some hc).2.2
    split
    · split
      · exact h.answerPopped room
      · split
        · exact h.answerPopped room
        · split
          · exact h.dataCell room
          · exact h.answerPopped room
    · exact h
  · exact h

theorem State.readInProgress_room {k : Table} {x : Reading} (h : t.readInProgress = some (c, k, x)) : t.answerRoom c = true := by
  unfold State.readInProgress at h
  split at h
  · split at h
    · next room =>
      obtain ⟨k', -, e⟩ := Option.map_eq_some_iff.mp h
      cases e
      exact room
    · exact absurd h nofun
  · exact absurd h nofun

theorem ListsKept.nextData (h : ListsKept s t) : ListsKept s t.nextData := by
  unfold State.nextData
  split
  · next e =>
    split
    · exact h.dataCell (State.readInProgress_room e)
    · exact h
  · exact h

theorem ListsKept.finishRead (h : ListsKept s t) : ListsKept s t.finishRead := by
  unfold State.finishRead
  split
  · next e =>
    split
    · have room := State.readInProgress_room e
      refine ListsKept.place ?_ room
      exact h.popWork.setService id
    · exact h
  · exact h

theorem State.stream_room {x : ReportStream} (h : t.stream = some x) : hasRoom t.service.outbound = true := by
  unfold State.stream at h
  split at h
  · split at h
    · assumption
    · exact absurd h nofun
  · exact absurd h nofun

theorem ListsKept.startReport (h : ListsKept s t) : ListsKept s t.startReport := by
  unfold State.startReport
  split
  · next c hc =>
    have room := (State.request_eq_some hc).2.2
    split
    · split
      · exact h.answerPopped room
      · split
        · exact h.answerPopped room
        · split
          · exact h.answerPopped room
          · exact h.popWork.setImage _
    · exact h
  · exact h

theorem ListsKept.sendFragment (h : ListsKept s t) : ListsKept s t.sendFragment := by
  unfold State.sendFragment
  split
  · next e =>
    split
    · exact (h.pushOutbound (State.stream_room e)).setImage _
    · exact h
  · exact h

theorem ListsKept.finishReport (h : ListsKept s t) : ListsKept s t.finishReport := by
  unfold State.finishReport
  split
  · next e =>
    split
    · exact (h.pushOutbound (State.stream_room e)).setImage _
    · exact h
  · exact h

theorem ListsKept.sendNotice (h : ListsKept s t) : ListsKept s t.sendNotice := by
  unfold State.sendNotice
  split
  · split
    · next ok =>
      unfold State.canDeliver at ok
      dsimp only
      split
      · next own =>
        rw [if_pos own, Bool.and_eq_true] at ok
        exact (h.setNotices _).pushConsole ok.2
      · next other =>
        rw [if_neg other, Bool.and_eq_true] at ok
        exact (h.setNotices _).pushOutbound ok.2
    · exact h
  · exact h

/-! ### The actions -/

theorem qualified_acted {who : NodeId} {a b : Nat} {x : State × Reply} (h : Acted s x.1) :
    Acted s (s.qualified who a b x).1 := by
  unfold State.qualified State.refuse
  split
  · exact .refl
  · split
    · exact h
    · exact .refl

theorem setOwner_acted (n o st g cause) : Acted s (s.setOwner n o st g cause) :=
  .of (ListsKept.refl.setOwner _ _ _ _ _) (by simp [groupsOfActs])

theorem foldl_acted {α : Type} {f : State → α → State} (hf : ∀ u a, Acted u (f u a)) (q : List α) : Acted s (q.foldl f s) := by
  induction q generalizing s with
  | nil => exact .refl
  | cons a q ih => exact (hf s a).trans ih

theorem claim_acted (who : NodeId) (a b : Nat) : Acted s (s.claim who a b).1 := by
  refine qualified_acted (foldl_acted (fun u n => ?_) _)
  unfold State.claimOne
  split
  · exact setOwner_acted _ _ _ _ _
  · exact .refl

theorem release_acted (who : NodeId) (a b : Nat) : Acted s (s.release who a b).1 := by
  refine qualified_acted (foldl_acted (fun u n => ?_) _)
  unfold State.releaseOne
  split
  · exact setOwner_acted _ _ _ _ _
  · exact .refl

theorem setGain_acted (who : NodeId) (n a b d : Nat) : Acted s (s.setGain who n a b d).1 := by
  unfold State.setGain
  split
  · split
    · exact .refl
    · split
      · exact .refl
      · unfold State.requestGain
        dsimp only
        split
        · next ok => exact ⟨ListsKept.refl.createChange ok.2, rfl, Nat.le_refl _, Nat.le_refl _⟩
        · exact .of (ListsKept.refl.setEntry _ _) (by simp [groupsOfActs])
  · exact .refl

theorem removeSend_acted (b n : Nat) : Acted s (s.removeSend b n).1 := by
  have put (q : List Send) (hq : sendsFit (s.bus b).sends → sendsFit q) : Acted s (s.setSends b q) :=
    .of (ListsKept.refl.setBus fun _ => hq) (by simp [groupsOfActs])
  unfold State.removeSend
  split
  · exact .refl
  · split
    · exact .refl
    · next x hx =>
      split
      · exact put _ fun ⟨hlen, hnodup⟩ =>
          ⟨(List.eraseIdx_sublist _ _).length_le.trans hlen, hnodup.sublist ((List.eraseIdx_sublist _ _).map _)⟩
      · refine put _ fun ⟨hlen, hnodup⟩ => ⟨by rwa [List.length_set], ?_⟩
        exact (map_source_set hx (x := { x with target := 0, draining := true }) rfl).symm ▸ hnodup

theorem clearCounters_acted : Acted s s.clearCounters := by
  refine .of ?_ (by simp [groupsOfActs])
  unfold State.clearCounters
  dsimp only
  split
  · refine (ListsKept.refl.setCounters (.fill 14 0)).setBuses fun b hb k => ?_
    rw [Tab.get_map _ _ hb]
    exact k
  · exact ListsKept.refl.setCounters _

theorem ListsKept.changeLoop (h : ListsKept s t) (m : LoopMode) : ListsKept s (t.changeLoop p m) := by
  unfold State.changeLoop
  extract_lets old _ switched failed
  have k : ListsKept s switched := h.of_onlyIn (by simp [switched, groupsButLists])
  refine ListsKept.evaluate ?_
  simp only [failed]
  split
  · exact k.failSpan
  · exact k

theorem setLoop_acted (m : LoopMode) : Acted s (s.setLoop p m).1 := by
  unfold State.setLoop State.refuse
  split
  · exact .refl
  · split
    · exact .refl
    · exact .of (ListsKept.refl.changeLoop m) (by simp [groupsOfActs])

end Sys2Proof.Machine
end

section
/-! The image, the resets and every command keep the laws of the lists and queues (O58). -/

namespace Sys2Proof.Machine

variable {l : List Group} {s t u v : State} {p : Side} {c : Cell} {r : Reply}

/-! ### The tables of an image (R154, R178) -/

/-- A stored send is appended to a list that has room and not its source, or skipped (R154). -/
theorem appendSend_fits (x : Tab Bus 16) (bytes : List Byte) (h : ∀ b, b < 16 → sendsFit (x.get b).sends) :
    ∀ b, b < 16 → sendsFit ((appendSend x bytes).get b).sends := by
  intro b hb
  unfold appendSend
  dsimp only
  split
  · next a _ =>
    split
    · exact h b hb
    · next ok =>
      obtain ⟨hk, hnew, hroom⟩ := not_or.mp ok |>.imp id not_or.mp
      rw [Tab.get_put _ _ (by omega)]
      split
      · next e =>
        rw [e] at hnew hroom ⊢
        obtain ⟨-, hnodup⟩ := h b hb
        refine ⟨by simp only [List.length_append, List.length_singleton]; omega, ?_⟩
        rw [List.map_append, List.nodup_append]
        refine ⟨hnodup, by simp, fun y hy z hz => ?_⟩
        simp only [List.map_cons, List.map_nil, List.mem_singleton] at hz
        subst hz
        rintro rfl
        obtain ⟨w, hw, rfl⟩ := List.mem_map.mp hy
        exact hnew (List.any_eq_true.mpr ⟨w, hw, by simp⟩)
      · exact h b hb
  · exact h b hb

/-- The buses of an image hold send lists within their capacity and without a source twice (R154). -/
theorem loadBuses_fits (buss send : Option (List Byte)) : ∀ b, b < 16 → sendsFit ((loadBuses buss send).get b).sends := by
  have fresh : sendsFit [] := ⟨Nat.zero_le _, List.nodup_nil⟩
  have start : ∀ b, b < 16 →
      sendsFit ((loadTable 16 4 (fun _ => .afterReset) (fun _ => parseStoredBus) buss : Tab Bus 16).get b).sends := by
    intro b hb
    unfold loadTable
    rw [Tab.get_ofFn _ hb]
    split <;> exact fresh
  have fold (q : List (List Byte)) (x : Tab Bus 16) (hx : ∀ b, b < 16 → sendsFit (x.get b).sends) :
      ∀ b, b < 16 → sendsFit ((q.foldl appendSend x).get b).sends := by
    induction q generalizing x with
    | nil => exact hx
    | cons a q ih => exact ih _ (appendSend_fits x a hx)
  exact fold _ _ start

theorem ListsKept.loadTables (h : ListsKept s t) (q : List Chunk) : ListsKept s (t.loadTables q) := by
  have stage (u : State) (hu : ListsKept s u) : ListsKept s (u.loadStage q) := by
    unfold State.loadStage
    refine ListsKept.setTalk ?_ _
    refine ListsKept.setBuses ?_ fun b hb _ => loadBuses_fits _ _ b hb
    refine ListsKept.setTracking ?_ id
    exact hu.setPreamp id
  unfold State.loadTables
  extract_lets plan _ lines
  have k : ListsKept s lines := ((h.setPlan _).setSets _).setLines _
  split
  · exact stage _ k
  · exact k

theorem loadTables_present (u : State) (q : List Chunk) : (u.loadTables q).present = u.present :=
  OnlyIn.at (l := [.plan, .sets, .lines, .preamp, .tracking, .buses, .talk]) (by simp) .present (by decide)

theorem ListsKept.takeImage (h : ListsKept s t) (m : Option (List Byte)) : ListsKept s (t.takeImage m) := by
  unfold State.takeImage State.raiseImage
  split
  · refine ListsKept.raise ?_ _ _ _
    refine ListsKept.setPresent ((h.setImage _).loadTables _) fun _ _ hp => ?_
    rwa [loadTables_present] at hp
  · refine ListsKept.raise ?_ _ _ _
    refine ListsKept.setPresent ((h.setImage _).loadTables _) fun _ _ hp => ?_
    rwa [loadTables_present] at hp

theorem ListsKept.examine (h : ListsKept s t) : ListsKept s (t.examine p) := h.of_onlyIn (by simp [groupsButLists])

theorem ListsKept.enablePorts (h : ListsKept s t) : ListsKept s t.enablePorts := by
  unfold State.enablePorts
  extract_lets enabled _ timed formed
  have ke : ListsKept s enabled := h.forSides fun _ _ hu => hu.setPort _
  have kt : ListsKept s timed := (ke.setTiming _).pulseStrobe
  have kf : ListsKept s formed := ListsKept.redetermine (ListsKept.forSides (fun _ _ hu => hu.examine) (kt.setRingState _))
  split
  · exact kf.startupReload _
  · exact kf

theorem ListsKept.loadComplete (h : ListsKept s t) (m : Option (List Byte)) : ListsKept s (t.loadComplete m) := by
  unfold State.loadComplete
  split
  · exact (h.takeImage m).enablePorts
  · exact h

theorem storeAct_acted (a b d e : Nat) : Acted s (s.storeAct a b d e).1 := by
  have store (q : List Byte) : Acted s (s.beginStore q) := .quiet (by simp [groupsButLists])
  unfold State.storeAct State.refuse
  (repeat' split) <;> first | exact .refl | exact store _

theorem ListsKept.endStore (h : ListsKept s t) (m : Option (List Byte)) : ListsKept s (t.endStore m) :=
  h.of_onlyIn (by simp [groupsButLists])

/-! ### RESTART (R182) -/

theorem restart_acted : Acted s s.restart := by
  have service (u : State) (hu : ListsKept s u) : ListsKept s u.restartService :=
    hu.setService fun _ => ⟨Nat.zero_le _, Nat.zero_le _, Nat.zero_le _, Nat.zero_le _, Nat.zero_le _⟩
  have tables (u : State) (hu : ListsKept s u) : ListsKept s u.restartTables := by
    unfold State.restartTables
    dsimp only
    split
    · exact (hu.loadTables _).setPresent fun _ _ hp => hp
    · exact hu.loadTables _
  have cleared (u : State) (hu : ListsKept s u) : ListsKept s u.restartCleared := by
    unfold State.restartCleared
    refine ListsKept.setLines (ListsKept.setTalk (ListsKept.setCounters (ListsKept.setNotices ?_ _) _) _) _
    refine ListsKept.setTracking (ListsKept.setChecker ?_ _) fun _ => Nat.zero_le _
    exact hu.setMembers rfl
  have converters (u : State) (hu : ListsKept s u) : ListsKept s u.restartConverters := by
    unfold State.restartConverters
    split
    · refine ListsKept.startReload ?_ _
      exact hu.setPreamp fun ⟨_, _, hr⟩ => ⟨Nat.zero_le _, Nat.zero_le _, hr⟩
    · exact hu
  have k := converters _ (cleared _ (tables _ (service _ (ListsKept.refl.setImage { s.image with loader := .idle, buffer := [] }))))
  have after : OnlyIn groupsOfActs (s.setImage { s.image with loader := .idle, buffer := [] }).restartService s.restart := by
    simp [groupsOfActs, State.restart]
  have empty := after.at .service (by decide)
  exact ⟨k.raise _ _ _, after.at .straps (by decide), by rw [empty]; exact Nat.zero_le _, by rw [empty]; exact Nat.zero_le _⟩

theorem restartAct_acted : Acted s s.restartAct.1 := by
  unfold State.restartAct State.refuse
  split
  · exact .refl
  · exact restart_acted

/-- After a hard reset every list is empty and the ranks are in order (R177). -/
theorem ListsKept.ofStraps (id : NodeId) (role : Role) (protect : Bool) (q : List Instr) :
    ListsKept s (.ofStraps id role protect q) := by
  refine ⟨fun _ b hb => ?_, fun _ => List.Perm.refl _, fun _ => ?_, fun _ i hi => ?_⟩
  · simp only [State.bus, State.ofStraps, Tab.get_fill _ hb]
    exact ⟨Nat.zero_le _, List.nodup_nil⟩
  · exact ⟨Nat.zero_le _, Nat.zero_le _, Nat.zero_le _, Nat.zero_le _, Nat.zero_le _, Nat.zero_le _, Nat.zero_le _,
      Nat.zero_le _, Nat.zero_le _⟩
  · simp only [State.ofStraps, Tab.get_fill _ hi]
    exact .nil

/-! ### Every command -/

theorem exec_keeps_lists {c : Instr} (h : exec c s = .next t) : ListsKept s t := by
  have k : ListsKept s s := .refl
  cases c <;> (cases h)
  case hardReset => exact .ofStraps _ _ _ _
  case imageLoadComplete => exact k.event fun _ hu => hu.loadComplete _
  case lightDetected => exact k.event fun _ hu => hu.of_onlyIn (by simp [groupsButLists])
  case lossOfLight => exact k.event fun _ hu => hu.lightOff
  case receiveFrame => exact k.receivePeriod _
  case localFrameBoundary => exact k.localBoundary _
  case superframeBoundary => exact k.superframeBoundary _
  case masterAbsenceExpiry => exact k.event fun _ hu => hu.absenceExpiry
  case isolationCountExpiry => exact k.event fun _ hu => hu.isolationExpiry
  case wrapHoldoffExpiry => exact k.event fun _ hu => hu.holdoffExpiry
  case restoreHoldExpiry => exact k.restoreExpiry
  case unwrapApply => exact k.event fun _ hu => hu.unwrapNow
  case bankSwapApply => exact k.event fun _ hu => hu.swapNow
  case preampChangeApply => exact k.event fun _ hu => hu.changeNow _
  case trackingApply => split
                        · exact k.trackTo _
                        · exact k
  case graceExpiry => exact k.event fun _ hu => hu.graceExpiry _
  case maxHoldExpiry => exact k.event fun _ hu => hu.holdExpiry _
  case rampExpiry => exact k.rampExpiry _
  case debounceFlip => exact k.event fun _ hu => hu.flipLine _
  case ackDeadlineExpiry => exact k.event fun _ hu => hu.ackExpiry
  case converterAck => exact k.acknowledge _ _
  case reloadPassTimeout => exact k.reloadTimeout
  case ringCellComplete => exact k.ringCell
  case consoleCellReceived => exact k.consoleCell
  case writeTable => exact k.runHead (writeAct_acted fun _ _ _ _ => .refl)
  case writeSlotEntry => exact k.runWrite fun q i b _ => writeSlot_acted q i b
  case writeDropEntry => exact k.runWrite fun q i b _ => writeDrop_acted q i b
  case writeDtrim => exact k.runWrite fun _ i b _ => writeDtrim_acted i b
  case writeStrim => exact k.runWrite fun _ i b _ => writeStrim_acted i b
  case writeTrack => exact k.runWrite fun _ i b _ => writeTrack_acted i b
  case writeBus => exact k.runWrite fun _ i b _ => writeBus_acted i b
  case writeSend => exact k.runWrite fun _ i b _ => writeSend_acted i b
  case writeTalksrc => exact k.event fun _ hu => hu.runWrite fun _ i b _ => writeTalksrc_acted i b
  case writeLines => exact k.event fun _ hu => hu.runWrite fun _ i b _ => writeLine_acted i b
  case writeSets => exact k.runWrite fun _ i b _ => writeSet_acted i b
  case readTable => exact k.startRead
  case dataCellNext => exact k.nextData
  case readDoneAnswer => exact k.finishRead
  case copyBank => exact k.runAct fun _ _ => .quiet (by simp [groupsButLists])
  case swapBank => exact k.runAct fun _ _ => .quiet (by simp [groupsButLists])
  case loop =>
    refine k.event fun _ hu => hu.runAct fun _ _ => ?_
    split
    · exact setLoop_acted _
    · exact .refl
  case patternCheck => exact k.runAct fun _ _ => .quiet (by simp [groupsButLists])
  case clearCounters => exact k.runAct fun _ _ => clearCounters_acted
  case claim => exact k.event fun _ hu => hu.runAct fun _ _ => claim_acted _ _ _
  case release => exact k.event fun _ hu => hu.runAct fun _ _ => release_acted _ _ _
  case setPreamp => exact k.runAct fun _ _ => setGain_acted _ _ _ _ _
  case removeSend => exact k.runAct fun _ _ => removeSend_acted _ _
  case talkPress => exact k.event fun _ hu => hu.runAct fun _ _ => .quiet (by simp [groupsButLists])
  case talkRelease => exact k.event fun _ hu => hu.runAct fun _ _ => .quiet (by simp [groupsButLists])
  case step => exact k.event fun _ hu => hu.runStep
  case store => exact k.runAct fun _ _ => storeAct_acted _ _ _ _
  case storeComplete => exact k.event fun _ hu => hu.endStore _
  case report => exact k.startReport
  case reportFragment => exact k.sendFragment
  case reportDone => exact k.finishReport
  case restart => exact k.event fun _ hu => hu.runAct fun _ _ => restartAct_acted
  case noticeSend => exact k.sendNotice
  case unknownAction => exact k.runHead fun _ _ => .refl

/-- Settles O58: each command keeps the four laws, and the queue of waiting commands is in none of them. -/
theorem listsAndQueuesKept : Obligations.ListsAndQueuesKept := by
  intro s t h
  have k : ListsKept s t := by
    unfold step at h
    split at h
    · next c rest _ =>
      have rest_kept : ListsKept s (s.setPending rest) := ListsKept.refl.of_onlyIn (by simp [groupsButLists])
      exact rest_kept.trans (exec_keeps_lists h)
    · cases h
      exact .refl
  exact ⟨k.sends, k.ranks, k.queues, k.filed⟩

end Sys2Proof.Machine
end

section
/-! The lane receiver: what becomes of a ring cell at the end of its cell time, settled for O29 (R37 to R39, R90, R92). -/

namespace Sys2Proof.Machine

variable {s t u : State} {c : Cell} {w : NodeId}

/-! ### The bytes of a cell time (R37) -/

/-- A cell time of which a frame is missing has no bytes. -/
theorem laneJoin_missing {parts : Tab (Option Lane) 8} {j : Nat} (hj : j < 8) (h : parts.get j = none) :
    laneJoin parts = none := by
  have hmem : none ∈ parts.toList := by
    have hl : j < parts.toList.length := by rw [parts.length_eq]; exact hj
    have e : parts.toList[j] = none := by
      simpa [Tab.get, List.getD, hl] using h
    exact e ▸ List.getElem_mem hl
  have none_of : ∀ q : List (Option Lane), none ∈ q → q.mapM (fun x => x) = none := by
    intro q hq
    induction q with
    | nil => exact absurd hq List.not_mem_nil
    | cons x q ih =>
      cases x with
      | none => rfl
      | some y =>
        have hq' : none ∈ q := by simpa using hq
        simp [ih hq']
  simp [laneJoin, none_of _ hmem]

/-- The bytes of eight frames that all came. -/
theorem laneJoin_whole (parts : Tab Lane 8) : laneJoin (parts.map some) = some (parts.toList.flatMap Tab.toList) := by
  have whole : ∀ q : List Lane, (q.map some).mapM (fun x => x) = some q := by
    intro q
    induction q with
    | nil => rfl
    | cons x q ih => simp [ih]
  simp [laneJoin, Tab.map, whole]

/-- Where all eight frames came, the last one did. -/
theorem lastCame_whole (parts : Tab Lane 8) : lastCame (parts.map some) = true := by
  have : Inhabited Lane := ⟨.fill 3 0⟩
  rw [lastCame, Tab.get_map _ _ (by decide)]
  rfl

/-! ### Judging (R37) -/

/-- The cell time under assembly is marked as judged. -/
def State.markJudged (s : State) : State :=
  s.setService { s.service with laneIn := { s.service.laneIn with judged := true } }

theorem State.ringCell_of_due (hlate : s.lateDue = false) (hdue : s.laneDue = true) : s.ringCell = s.judgeLane.markJudged := by
  simp [State.ringCell, hlate, hdue, State.markJudged]

/-- Bytes already judged are not judged again. -/
theorem State.ringCell_idle (hlate : s.lateDue = false) (hj : s.service.laneIn.judged = true) : s.ringCell = s := by
  simp [State.ringCell, hlate, State.laneDue, hj]

/-- A cell time with a frame missing counts one cell error. -/
theorem State.judgeLane_missing (hw : s.laneWriter = some w) (h : w ≠ s.id) (hm : laneJoin s.service.laneIn.parts = none) :
    s.judgeLane = s.bump .cellErrors := by
  simp only [State.judgeLane, State.judgeParts, hw, if_neg h, hm]

/-- A whole cell time is empty or handed over. -/
theorem State.judgeLane_whole (hw : s.laneWriter = some w) (h : w ≠ s.id) {bytes : List Byte}
    (hb : laneJoin s.service.laneIn.parts = some bytes) :
    s.judgeLane = if bytes.all (· == 0) then s else s.takeRingCell w bytes := by
  simp only [State.judgeLane, State.judgeParts, hw, if_neg h, hb]

/-- The routing moves only the work, outbound and console queues (R90). -/
theorem State.routeRing_service : (s.routeRing c).service =
    { s.service with work := (s.routeRing c).service.work, outbound := (s.routeRing c).service.outbound
                     console := (s.routeRing c).service.console } := by
  have work : (s.workIntake c).service = { s.service with
      work := (s.workIntake c).service.work, outbound := (s.workIntake c).service.outbound
      console := (s.workIntake c).service.console } := by
    unfold State.workIntake
    (repeat' split) <;> rfl
  have console : (s.consoleIntake c).service = { s.service with
      work := (s.consoleIntake c).service.work, outbound := (s.consoleIntake c).service.outbound
      console := (s.consoleIntake c).service.console } := by
    unfold State.consoleIntake
    (repeat' split) <;> rfl
  unfold State.routeRing
  (repeat' split) <;> first | exact work | exact console | rfl

/-! ### The relay at node 0 (R38) -/

/-- The cells node 0 relays: for ALL, or for a node between node 0 and the writer in path order (R38). -/
theorem State.relays_iff : s.relays w c = true ↔ c.dest = toAll
    ∨ ∃ d, c.dest = toNode d ∧ before s.members.ringMap 0 d = true ∧ before s.members.ringMap d w = true := by
  have named (d : NodeId) : c.destNode = some d ↔ c.dest = toNode d := by
    unfold Cell.destNode
    constructor
    · intro h
      split at h
      · cases h; rfl
      · exact absurd h nofun
    · intro h
      simp [h, toNode]
  simp only [State.relays, Bool.or_eq_true, beq_iff_eq, Option.any_eq_true, Bool.and_eq_true, named]

/-- Without a good CRC, or for another destination, nothing is relayed. -/
theorem State.relayTake_none (h : s.relays w c = false) : s.relayTake w c = s := by simp [State.relayTake, h]

theorem State.relayTake_room (h : s.relays w c = true) (room : s.service.relay.length < 16) :
    s.relayTake w c = s.setService { s.service with relay := s.service.relay ++ [{ c with relayed := true }] } := by
  simp [State.relayTake, h, hasRoom, room]

theorem State.relayTake_full (h : s.relays w c = true) (full : 16 ≤ s.service.relay.length) :
    s.relayTake w c = s.bump .cellDiscards := by
  simp [State.relayTake, h, hasRoom, Nat.not_lt.mpr full]

/-! ### The acceptance of a cell from the ring (R39) -/

/-- The state in which a cell from the ring is accepted: at node 0 a checked one has been taken for relay (R38). -/
def State.relayed (s : State) (w : NodeId) (bytes : List Byte) : State :=
  if s.id = 0 ∧ cellCrcOk bytes = true then s.relayTake w (cellFields bytes) else s

theorem State.relayed_members (bytes : List Byte) : (s.relayed w bytes).members = s.members ∧ (s.relayed w bytes).id = s.id := by
  have o : OnlyIn [.service, .counters] s (s.relayed w bytes) := by
    unfold State.relayed
    split <;> simp
  exact ⟨o.at .members (by decide), by rw [State.id, State.id, show _ = s.straps from o.at .straps (by decide)]⟩

/-- A cell from the ring: the relay first, then the acceptance by the map as it stood, the CRC check and the routing
(R37 to R39). -/
theorem State.takeRingCell_eq (bytes : List Byte) : s.takeRingCell w bytes =
    if (cellFields bytes).relayed = true ∧ before s.members.ringMap s.id (cellFields bytes).origin = false then s.relayed w bytes
    else if cellCrcOk bytes then (s.relayed w bytes).routeRing (cellFields bytes)
    else (s.relayed w bytes).bump .cellErrors := by
  obtain ⟨hm, hi⟩ := s.relayed_members (w := w) bytes
  have e : s.takeRingCell w bytes = if (cellFields bytes).relayed = true
        ∧ before (s.relayed w bytes).members.ringMap (s.relayed w bytes).id (cellFields bytes).origin = false then s.relayed w bytes
      else if cellCrcOk bytes then (s.relayed w bytes).routeRing (cellFields bytes)
      else (s.relayed w bytes).bump .cellErrors := rfl
  rw [e, hm, hi]

/-- A relayed copy of a node that does not lie after this one is discarded (R39). -/
theorem State.takeRingCell_stale {bytes : List Byte} (h : (cellFields bytes).relayed = true)
    (hb : before s.members.ringMap s.id (cellFields bytes).origin = false) : s.takeRingCell w bytes = s.relayed w bytes := by
  rw [State.takeRingCell_eq, if_pos ⟨h, hb⟩]

/-- Any other cell is accepted: it is routed where its CRC matches, and counted where not (R37, R39). -/
theorem State.takeRingCell_accepted {bytes : List Byte}
    (h : (cellFields bytes).relayed = false ∨ before s.members.ringMap s.id (cellFields bytes).origin = true) :
    s.takeRingCell w bytes = if cellCrcOk bytes then (s.relayed w bytes).routeRing (cellFields bytes)
      else (s.relayed w bytes).bump .cellErrors := by
  rw [State.takeRingCell_eq, if_neg]
  rintro ⟨hr, hb⟩
  rcases h with h | h
  · rw [h] at hr; exact absurd hr nofun
  · rw [h] at hb; exact absurd hb nofun

/-- The relay queue after a cell from the ring is what the relay made of it. -/
theorem State.takeRingCell_relay (bytes : List Byte) :
    (s.takeRingCell w bytes).service.relay = (s.relayed w bytes).service.relay := by
  have routed : ((s.relayed w bytes).routeRing (cellFields bytes)).service.relay = (s.relayed w bytes).service.relay := by
    rw [State.routeRing_service]
  by_cases h : (cellFields bytes).relayed = false ∨ before s.members.ringMap s.id (cellFields bytes).origin = true
  · rw [State.takeRingCell_accepted h]
    split
    · exact routed
    · rfl
  · rw [not_or, Bool.not_eq_false, Bool.not_eq_true] at h
    rw [State.takeRingCell_stale h.1 h.2]

/-! ### The cell time's end -/

/-- Elsewhere than at node 0 no late cell time is awaited. -/
theorem State.lateDue_elsewhere (h : s.id ≠ 0) : s.lateDue = false := by simp [State.lateDue, h]

/-- What one cell error leaves of counters and queues. -/
theorem cellError_counted : (s.bump .cellErrors).counter .cellErrors = min (s.counter .cellErrors + 1) 65535
    ∧ CountersOutside [.cellErrors] s (s.bump .cellErrors) := CountersOutside.of_bump s .cellErrors

/-- The cell time's end at a node other than node 0. -/
theorem ringCell_elsewhere (h0 : s.id ≠ 0) (hrun : s.timing.running = true) (howed : s.timing.frameOwed = false)
    (hframe : s.timing.frame % 8 = 7) (hj : s.service.laneIn.judged = false) : s.ringCell = s.judgeLane.markJudged :=
  State.ringCell_of_due (State.lateDue_elsewhere h0) (by simp [State.laneDue, hrun, howed, hframe, hj, h0])

/-- The cell of another node at node 0, once its eighth frame has returned (R37, R38, R89). -/
theorem ringCell_node0 {parts : Tab Lane 8} (h0 : s.id = 0) (hrun : s.timing.running = true)
    (howed : s.timing.frameOwed = false) (hframe : s.timing.frame % 8 = 7) (hj : s.service.laneIn.judged = false)
    (hlate : s.service.laneLate = none) (hw : s.laneWriter = some w) (hne : w ≠ 0)
    (hparts : s.service.laneIn.parts = parts.map some) (hfull : (parts.toList.flatMap Tab.toList).all (· == 0) = false) :
    s.ringCell = (s.takeRingCell w (parts.toList.flatMap Tab.toList)).markJudged := by
  have came : lastCame s.service.laneIn.parts = true := by rw [hparts, lastCame_whole]
  rw [State.ringCell_of_due (by simp [State.lateDue, hlate]) (by simp [State.laneDue, hrun, howed, hframe, hj, came]),
    State.judgeLane_whole hw (by rw [h0]; exact hne) (hparts ▸ laneJoin_whole parts), if_neg (by rw [hfull]; exact nofun)]

/-- Settles O29: the cell time is judged once, and the acceptance, the relay and the routing are those of the lemmas above. -/
theorem ringCellsJudged : Obligations.RingCellsJudged := by
  refine ⟨fun s h0 hj => ?_, fun s w parts h0 hrun howed hframe hj hlate hw hne hparts => ?_,
    fun s w h0 hrun howed hframe hj hw hne => ?_⟩
  · show Host.Outcome.next s.ringCell = .next s
    rw [State.ringCell_idle (State.lateDue_elsewhere h0) hj]
  · intro bytes c relays hfull
    have hrel : s.relays w c = true ↔ relays := State.relays_iff
    have relayed_ok (hok : cellCrcOk bytes = true) : s.relayed w bytes = s.relayTake w c := by
      rw [State.relayed, if_pos ⟨h0, hok⟩]
    have relayed_bad (hok : cellCrcOk bytes = false) : s.relayed w bytes = s := by
      rw [State.relayed, if_neg (by simp [hok])]
    have untaken (h : ¬ relays) : s.relayTake w c = s :=
      State.relayTake_none (Bool.eq_false_iff.mpr fun k => h (hrel.mp k))
    have accepted (h : c.relayed = false ∨ before s.members.ringMap 0 c.origin = true) :=
      State.takeRingCell_accepted (s := s) (w := w) (bytes := bytes) (by rw [h0]; exact h)
    refine ⟨s.ringCell, rfl, by simp, ?_⟩
    rw [ringCell_node0 h0 hrun howed hframe hj hlate hw hne hparts hfull]
    refine ⟨rfl, fun hok hr hroom => ?_, fun h => ?_, fun hok hacc => ⟨fun h => ?_, fun hr hfull => ?_⟩, fun hok hr => ?_⟩
    · show (s.takeRingCell w bytes).service.relay = _
      rw [State.takeRingCell_relay, relayed_ok hok, State.relayTake_room (hrel.mpr hr) hroom]
      rfl
    · show (s.takeRingCell w bytes).service.relay = _
      rw [State.takeRingCell_relay]
      rcases Bool.eq_false_or_eq_true (cellCrcOk bytes) with hok | hok
      · rw [relayed_ok hok]
        by_cases hr : relays
        · rw [State.relayTake_full (hrel.mpr hr) ((h.resolve_left (by simp [hok])).resolve_left (not_not.mpr hr))]
          rfl
        · rw [untaken hr]
      · rw [relayed_bad hok]
    · show RingRouted s (s.takeRingCell w bytes) c
      rw [accepted hacc, if_pos hok, relayed_ok hok]
      by_cases hr : relays
      · have routed := State.routeRing_spec (s.relayTake w c) c
        rw [State.relayTake_room (hrel.mpr hr) (h.resolve_left (not_not.mpr hr))] at routed ⊢
        exact routed
      · rw [untaken hr]
        exact State.routeRing_spec s c
    · show RingRouted _ (s.takeRingCell w bytes) c
      rw [accepted hacc, if_pos hok, relayed_ok hok, State.relayTake_full (hrel.mpr hr) hfull]
      exact State.routeRing_spec _ c
    · show (s.takeRingCell w bytes).counter _ = _ ∧ CountersOutside _ s (s.takeRingCell w bytes)
      rw [accepted (.inl hr), if_neg (by simp [hok]), relayed_bad hok]
      exact cellError_counted
  · refine ⟨s.ringCell, rfl, by simp, ?_⟩
    rw [ringCell_elsewhere h0 hrun howed hframe hj]
    refine ⟨rfl, fun ⟨j, hlt, hnone⟩ => ?_, fun parts hparts => ?_⟩
    · rw [State.judgeLane_missing hw hne (laneJoin_missing hlt hnone)]
      exact ⟨cellError_counted.1, rfl⟩
    · intro bytes c judged
      have elsewhere : s.relayed w bytes = s := by rw [State.relayed, if_neg fun h => h0 h.1]
      have whole : s.judgeLane = if bytes.all (· == 0) then s else s.takeRingCell w bytes :=
        State.judgeLane_whole hw hne (hparts ▸ laneJoin_whole parts)
      have taken (h : bytes.all (· == 0) = false) : s.judgeLane = s.takeRingCell w bytes := by
        rw [whole, if_neg (by rw [h]; exact nofun)]
      refine ⟨fun h => ?_, fun h hr hb => ?_, fun h hacc => ⟨fun hok => ?_, fun hok => ?_⟩⟩
      · rw [whole, if_pos h]
        exact ⟨rfl, rfl⟩
      · rw [taken h, State.takeRingCell_stale hr hb, elsewhere]
        exact ⟨rfl, rfl⟩
      · rw [taken h, State.takeRingCell_accepted hacc, if_neg (by rw [hok]; exact nofun), elsewhere]
        exact ⟨cellError_counted.1, cellError_counted.2, rfl⟩
      · rw [taken h, State.takeRingCell_accepted hacc, if_pos hok, elsewhere]
        refine ⟨State.routeRing_spec s c, ?_⟩
        exact congrArg (fun x : Service => { x with laneIn := { x.laneIn with judged := true } }) State.routeRing_service

end Sys2Proof.Machine
end

section
/-! The clock and the ring after a master frame and after eight periods without one, settled for O16 (R35, R62, R81, R167). -/

namespace Sys2Proof.Machine

variable {l : List Group} {s t u : State} {p : Side}

/-! ### The load of the counters (R35, R81) -/

/-- What falls due by the old numbers leaves the stored samples (R53, R72, R117, R179). -/
theorem State.reached_slots : s.reached.present.slots = s.present.slots := by
  have unwrap (q : Side) (u : State) : (u.unwrapNow q).present.slots = u.present.slots := by
    unfold State.unwrapNow
    split
    · rw [State.evaluate_slots, State.redetermine_slots]
      cases q <;> rfl
    · rfl
  have rest : OnlyIn [.plan, .preamp, .service, .tracking, .notices, .counters]
      (s.forSides fun p s => s.unwrapNow p) s.reached := by
    unfold State.reached
    rw [OnlyIn.reloadTimeout (h := by simp), OnlyIn.forEach _ _ fun _ _ => OnlyIn.changeNow _ (by simp)]
    simp
  rw [rest.at .present (by decide)]
  exact (unwrap .w _).trans (unwrap .e s)

/-- A jump changes the two numbers of the local timer and nothing else in it. -/
theorem State.jump_timing (superframe frame : Nat) :
    (s.jump superframe frame).timing = { s.timing with superframe := superframe, frame := frame } := by
  have before : OnlyIn [.ring, .present, .lines, .plan, .preamp, .service, .tracking, .notices, .counters] s
      (s.reached.laneJump superframe frame) := by simp
  have after (u : State) (old : Nat) : OnlyIn [.present, .plan, .preamp, .service, .tracking, .notices, .counters] u
      (let t := ((u.presentJump.swapJump old).preampJump).trackJump; if frame = 0 then t.pulseStrobe else t) := by
    dsimp only
    split <;> simp
  have numbers (u : State) : (u.setNumbers superframe frame).timing = { u.timing with superframe := superframe, frame := frame } := by
    unfold State.setNumbers
    dsimp only
    split <;> rfl
  have e := (after ((s.reached.laneJump superframe frame).setNumbers superframe frame) s.reached.timing.superframe).at .timing
    (by decide)
  refine Eq.trans e ?_
  rw [numbers, show _ = s.timing from before.at .timing (by decide)]

/-- A jump clears every stored sample; states and last values stay (R81). -/
theorem State.jump_slots (superframe frame : Nat) :
    (s.jump superframe frame).present.slots = s.present.slots.map fun x => { x with filed := [] } := by
  have before : OnlyIn [.service, .counters, .timing, .members] s.reached
      ((s.reached.laneJump superframe frame).setNumbers superframe frame) := by simp
  have after (u : State) (old : Nat) : OnlyIn [.plan, .preamp, .service, .tracking, .notices, .counters] u
      (let t := ((u.swapJump old).preampJump).trackJump; if frame = 0 then t.pulseStrobe else t) := by
    dsimp only
    split <;> simp
  have e := (after ((s.reached.laneJump superframe frame).setNumbers superframe frame).presentJump
    s.reached.timing.superframe).at .present (by decide)
  have slots : ((s.reached.laneJump superframe frame).setNumbers superframe frame).present.slots = s.present.slots := by
    rw [show _ = s.reached.present from before.at .present (by decide), State.reached_slots]
  refine (congrArg Present.slots e).trans ?_
  rw [← slots]
  rfl

theorem State.reloadTimeout_timing : s.reloadTimeout.timing = s.timing := OnlyIn.at (l := [.preamp]) (by simp) .timing (by decide)

/-- The loaded counters carry the frame's numbers (R35). -/
theorem State.loadCounters_timing (h : Header) :
    (s.loadCounters h).timing = { s.timing with superframe := h.superframe, frame := h.frame } := by
  unfold State.loadCounters
  split
  · next same => rw [State.reloadTimeout_timing, ← same.1, ← same.2]
  · exact State.jump_timing _ _

/-- A master frame leaves the clock LOCKED at its own numbers (R35). -/
theorem State.clockLock_timing (h : Header) :
    (s.clockLock h).timing = { s.timing with superframe := h.superframe, frame := h.frame, clock := .locked } := by
  have locked (u : State) (n : Nat) : ((u.setClock .locked).startupReload n).timing = { u.timing with clock := .locked } := by
    rw [show _ = (u.setClock .locked).timing from OnlyIn.at (l := [.preamp]) (by simp) .timing (by decide)]
    unfold State.setClock
    split
    · next e => rw [← e]
    · rfl
  unfold State.clockLock
  dsimp only
  split
  · next e => rw [State.loadCounters_timing] at e ⊢; rw [← e]
  · rw [locked, State.loadCounters_timing]

/-- The lock of the clock leaves the presentation buffer as the load of the counters left it. -/
theorem State.clockLock_present (h : Header) : (s.clockLock h).present = (s.loadCounters h).present := by
  unfold State.clockLock
  dsimp only
  split
  · rfl
  · exact OnlyIn.at (l := [.preamp, .timing, .notices, .counters]) (by simp) .present (by decide)

/-- A LOCKED clock's counters loaded with the numbers they hold: nothing changes. -/
theorem State.clockLock_aligned {h : Header} (hs : s.timing.superframe = h.superframe) (hf : s.timing.frame = h.frame)
    (hc : s.timing.clock = .locked) : s.clockLock h = s := by
  have e : s.loadCounters h = s := by
    have notDue : s.reloadDue = false := by simp [State.reloadDue, hc]
    simp [State.loadCounters, hs, hf, State.reloadTimeout, notDue]
  simp [State.clockLock, e, hc]

/-- Any other numbers are a jump, which clears the stored samples (R81). -/
theorem State.clockLock_slots {h : Header} (hn : s.timing.superframe ≠ h.superframe ∨ s.timing.frame ≠ h.frame) :
    (s.clockLock h).present.slots = s.present.slots.map fun x => { x with filed := [] } := by
  rw [State.clockLock_present, State.loadCounters, if_neg (not_and_or.mpr hn), State.jump_slots]

/-! ### The ring state set (R63, R167) -/

/-- The start of D leaves everything but the presentation buffer. -/
theorem State.setRingState_ring (x : RingState) : (s.setRingState x).ring = { s.ring with state := x } := by
  have e : OnlyIn [.present, .notices, .lines, .counters] (s.setRing { s.ring with state := x }) (s.setRingState x) := by
    unfold State.setRingState
    simp
  exact e.at .ring (by decide)

/-- Every line follows the ring state that has been set (R164, R167). -/
theorem State.setRingState_output (x : RingState) (n : Nat) (hn : n < 8) :
    ((s.setRingState x).line n).output = (s.setRingState x).lineOutput ((s.setRingState x).line n).function := by
  unfold State.setRingState
  simp only [State.line, State.driveLines, State.setLines_lines, Tab.get_map _ _ hn]
  rfl

/-- In ISOLATED every FAULT line is asserted (R167). -/
theorem State.lineOutput_isolated (h : s.ring.state = .isolated) : s.lineOutput .fault = some true := by
  simp [State.lineOutput, h, RingState.broken]

/-- A master-absence count of 8 calls for ISOLATED out of DARK (R62). -/
theorem State.determined_absent (hd : s.ring.state ≠ .dark) (ha : s.timing.masterAbsence = 8) : s.determined = .isolated := by
  simp [State.determined, hd, ha]

theorem State.setClock_ring (c : ClockState) : (s.setClock c).ring = s.ring :=
  OnlyIn.at (l := [.timing, .notices, .counters]) (by simp) .ring (by decide)

theorem State.setClock_timing (c : ClockState) : (s.setClock c).timing = { s.timing with clock := c } := by
  unfold State.setClock
  split
  · next e => rw [← e]
  · rfl

/-- The clock's part of the end of a master's presence: LOCKED becomes HOLDOVER (R35). -/
def State.unlocked (s : State) : State := if s.timing.clock = .locked then s.setClock .holdover else s

theorem State.unlocked_ring : s.unlocked.ring = s.ring := by
  unfold State.unlocked
  split
  · exact State.setClock_ring _
  · rfl

theorem State.unlocked_timing : s.unlocked.timing =
    { s.timing with clock := if s.timing.clock = .locked then .holdover else s.timing.clock } := by
  unfold State.unlocked
  split
  · rw [State.setClock_timing]
  · rfl

/-- The end of a master's presence in a ring that is neither DARK nor ISOLATED (R35, R62). -/
theorem State.absenceExpiry_isolates (ha : s.timing.masterAbsence = 8) (hm : s.timing.masterInPeriod = false)
    (hd : s.ring.state ≠ .dark) (hi : s.ring.state ≠ .isolated) : s.absenceExpiry = s.unlocked.setRingState .isolated := by
  have due : s.absenceDue = true := by simp [State.absenceDue, ha, hm, State.determined_absent hd ha, hi.symm]
  have det : s.unlocked.determined = .isolated :=
    State.determined_absent (by rw [State.unlocked_ring]; exact hd) (by rw [State.unlocked_timing]; exact ha)
  show (if s.absenceDue then s.unlocked.redetermine else s) = _
  rw [if_pos due, State.redetermine, det, if_neg (by rw [State.unlocked_ring]; exact hi.symm)]

/-- Settles O16: the load of the counters by its lemmas, the expiry by what it makes of clock, ring and lines. -/
theorem masterAbsenceEndsTheRing : Obligations.MasterAbsenceEndsTheRing := by
  refine ⟨fun s h => ?_, fun s ha hm hd hi => ?_⟩
  · intro t
    have timing : t.timing = _ := State.clockLock_timing h
    refine ⟨by rw [timing], by rw [timing], by rw [timing], fun hs hf hc => State.clockLock_aligned hs hf hc, fun hn i hlt => ?_⟩
    rw [State.clockLock_slots hn, Tab.get_map _ _ hlt]
  · have expiry : (s.setRaised []).absenceExpiry = (s.setRaised []).unlocked.setRingState .isolated :=
      State.absenceExpiry_isolates (s := s.setRaised []) ha hm hd hi
    have ring : (s.event State.absenceExpiry).ring = { s.ring with state := .isolated } := by
      rw [State.event_ring, expiry, State.setRingState_ring, State.unlocked_ring]
      rfl
    refine ⟨s.event State.absenceExpiry, rfl, by simp, by rw [ring], ?_, fun p => ?_, fun n hn hf => ?_⟩
    · rw [State.event_timing, expiry, show _ = (s.setRaised []).unlocked.timing from
        OnlyIn.at (l := [.ring, .present, .lines, .notices, .counters]) (by simp) .timing (by decide), State.unlocked_timing]
      rfl
    · cases p <;> simp only [State.span, ring]
    · have line : (s.event State.absenceExpiry).line n = ((s.setRaised []).unlocked.setRingState .isolated).line n := by
        simp only [State.line, State.event_lines, expiry]
      rw [line] at hf ⊢
      rw [State.setRingState_output _ n hn, hf, State.lineOutput_isolated (by rw [State.setRingState_ring])]

end Sys2Proof.Machine
end

section
/-! Ownership of the preamps and the reachability records: what a change of a record, a roster and the isolation make of them,
settled for O17 (R32, R33, R110, R111). -/

namespace Sys2Proof.Machine

variable {l : List Group} {s t u : State} {i : Nat} {m n : NodeId}

/-! ### The ownership of a preamp entry (R110 to R112) -/

/-- Whose an input is: its owner, the owner's state and the grace timer. -/
structure Ownership where
  owner : Option NodeId
  state : OwnerState
  grace : Nat

/-- The ownership of an input. -/
def State.ownership (s : State) (i : Nat) : Ownership := ⟨(s.entry i).owner, (s.entry i).ownerState, (s.entry i).grace⟩

theorem OnlyIn.ownership_eq (h : OnlyIn l s t) (hp : .preamp ∉ l) : t.ownership i = s.ownership i := by
  have e : t.preamp = s.preamp := h.at .preamp hp
  simp only [State.ownership, State.entry, e]

theorem State.setEntry_ownership {k : Nat} {e : PreampEntry} (ho : e.owner = (s.entry k).owner)
    (hs : e.ownerState = (s.entry k).ownerState) (hg : e.grace = (s.entry k).grace) :
    (s.setEntry k e).ownership i = s.ownership i := by
  rcases Nat.lt_or_ge k 64 with hk | hk
  · unfold State.ownership
    rw [State.setEntry_entry hk]
    split
    · next h => rw [← h, ho, hs, hg]
    · rfl
  · simp only [State.ownership, State.entry, State.setEntry, State.setPreamp_preamp, Tab.put_beyond _ _ hk]

theorem State.setOwner_ownership {k : Nat} {o : Option NodeId} {st : OwnerState} {g : Nat} {cause : OwnerCause} (hk : k < 64) :
    (s.setOwner k o st g cause).ownership i = if k = i then ⟨o, st, g⟩ else s.ownership i := by
  unfold State.ownership
  rw [State.setOwner_entry hk]
  split <;> rfl

/-- A gain change that is created, applied or discarded leaves every owner (R114 to R118). -/
theorem State.createChange_ownership (k : Nat) (g : Gain) (who : NodeId) :
    (s.createChange k g who).ownership i = s.ownership i := by
  have e : (s.createChange k g who).ownership i = (s.setEntry k { s.entry k with
      pending := some ⟨g, s.deltaFor k g, sfAdd s.timing.superframe 4, who⟩ }).ownership i := rfl
  rw [e]
  exact State.setEntry_ownership rfl rfl rfl

theorem State.promote_ownership : s.promote.ownership i = s.ownership i := by
  have one (k : Nat) (u : State) : (State.promoteOne k u).ownership i = u.ownership i := by
    have discarded : (u.setEntry k { u.entry k with next := none }).ownership i = u.ownership i :=
      State.setEntry_ownership rfl rfl rfl
    unfold State.promoteOne
    dsimp only
    split
    · split
      · exact discarded
      · split
        · rw [State.createChange_ownership, discarded]
        · rfl
    · rfl
  unfold State.promote
  split
  · exact forEach_keeps (p := fun u => u.ownership i = s.ownership i) (fun k u hu => (one k u).trans hu) _ rfl
  · rfl

theorem State.applyChange_ownership (k : Nat) : (s.applyChange k).ownership i = s.ownership i := by
  have trim (u : State) (c : PendingChange) : (u.trimCompensate k c).ownership i = u.ownership i := by
    unfold State.trimCompensate
    split
    · rfl
    · dsimp only
      split
      · exact State.setEntry_ownership rfl rfl rfl
      · rfl
  unfold State.applyChange
  split
  · rw [trim]
    exact State.setEntry_ownership rfl rfl rfl
  · rfl

theorem State.changeNow_ownership (k : Nat) : (s.changeNow k).ownership i = s.ownership i := by
  unfold State.changeNow
  split
  · rw [State.promote_ownership, State.applyChange_ownership]
  · rfl

theorem State.ackExpiry_ownership : s.ackExpiry.ownership i = s.ownership i := by
  have fault (u : State) (c : ConvCommand) (cause : Nat) : (u.converterFault c cause).ownership i = u.ownership i := by
    have e : (u.converterFault c cause).ownership i = (u.setConfirmed (c.address * 16 + c.channel) false).ownership i := rfl
    rw [e]
    exact State.setEntry_ownership rfl rfl rfl
  unfold State.ackExpiry State.expireOldest
  split
  · split
    · rw [fault]; rfl
    · rfl
  · rfl

/-! ### What one operation per index makes of one entry -/

/-- Operations of which each moves the value at its own index alone move the value at i once. -/
theorem forEach_at {α : Type} {k : Nat} {f : Nat → State → State} {P : State → Prop} {g : State → Nat → α} {upd : α → α}
    (hP : ∀ j u, P u → P (f j u)) (hother : ∀ j u, j < k → j ≠ i → P u → g (f j u) i = g u i)
    (hown : ∀ u, P u → g (f i u) i = upd (g u i)) (hi : i < k) (h : P s) : g (forEach k f s) i = upd (g s i) := by
  have along : ∀ q : List Nat, q.Nodup → (∀ j ∈ q, j < k) → ∀ u, P u →
      g (q.foldl (fun s j => f j s) u) i = if i ∈ q then upd (g u i) else g u i := by
    intro q
    induction q with
    | nil => intro _ _ u _; rfl
    | cons j q ih =>
      intro hq hk u hu
      obtain ⟨hj, hq⟩ := List.nodup_cons.mp hq
      rw [List.foldl_cons, ih hq (fun a ha => hk a (List.mem_cons_of_mem _ ha)) _ (hP j u hu)]
      by_cases e : i = j
      · subst e
        rw [if_neg hj, if_pos List.mem_cons_self, hown u hu]
      · rw [hother j u (hk j List.mem_cons_self) (Ne.symm e) hu]
        simp only [List.mem_cons, e, false_or]
  refine (along _ List.nodup_range (fun j hj => List.mem_range.mp hj) s h).trans ?_
  rw [if_pos (List.mem_range.mpr hi)]

/-- What the loss of a node makes of an ownership, with SETS.orphan_grace (R110). -/
def Ownership.lost (node : NodeId) (grace : Nat) (o : Ownership) : Ownership :=
  if o.owner = some node ∧ o.state = .held then
    if grace = 0 then ⟨some node, .orphaned, 0⟩ else ⟨some node, .grace, grace⟩
  else o

/-- What the return of a node makes of an ownership (R111). -/
def Ownership.back (node : NodeId) (o : Ownership) : Ownership :=
  if o.owner = some node ∧ o.state = .grace then ⟨some node, .held, 0⟩ else o

/-- What a node's turn to STAGE makes of an ownership (R110). -/
def Ownership.demoted (node : NodeId) (o : Ownership) : Ownership :=
  if o.owner = some node then ⟨none, .held, 0⟩ else o

theorem State.ownerLost_ownership (hi : i < 64) :
    (s.ownerLost n).ownership i = (s.ownership i).lost n s.sets.orphanGrace := by
  refine forEach_at (P := fun u => u.sets = s.sets) (g := State.ownership) (fun j u hu => ?_) (fun j u hj hne hu => ?_)
    (fun u hu => ?_) hi rfl
  · dsimp only
    (repeat' split) <;> exact hu
  · dsimp only
    (repeat' split) <;> first | rfl | exact (State.setOwner_ownership hj).trans (if_neg hne)
  · dsimp only
    rw [hu]
    unfold Ownership.lost
    by_cases h : (u.entry i).owner = some n ∧ (u.entry i).ownerState = .held
    · rw [if_pos h, if_pos (show (u.ownership i).owner = some n ∧ (u.ownership i).state = .held from h)]
      split <;> exact (State.setOwner_ownership hi).trans (if_pos rfl)
    · rw [if_neg h, if_neg (show ¬ ((u.ownership i).owner = some n ∧ (u.ownership i).state = .held) from h)]

theorem State.ownerBack_ownership (hi : i < 64) : (s.ownerBack n).ownership i = (s.ownership i).back n := by
  refine forEach_at (P := fun _ => True) (g := State.ownership) (fun _ _ _ => trivial) (fun j u hj hne _ => ?_)
    (fun u _ => ?_) hi trivial
  · dsimp only
    split
    · exact (State.setOwner_ownership hj).trans (if_neg hne)
    · rfl
  · dsimp only
    unfold Ownership.back
    by_cases h : (u.entry i).owner = some n ∧ (u.entry i).ownerState = .grace
    · rw [if_pos h, if_pos (show (u.ownership i).owner = some n ∧ (u.ownership i).state = .grace from h)]
      exact (State.setOwner_ownership hi).trans (if_pos rfl)
    · rw [if_neg h, if_neg (show ¬ ((u.ownership i).owner = some n ∧ (u.ownership i).state = .grace) from h)]

theorem State.ownerDemoted_ownership (hi : i < 64) : (s.ownerDemoted n).ownership i = (s.ownership i).demoted n := by
  refine forEach_at (P := fun _ => True) (g := State.ownership) (fun _ _ _ => trivial) (fun j u hj hne _ => ?_)
    (fun u _ => ?_) hi trivial
  · split
    · exact (State.setOwner_ownership hj).trans (if_neg hne)
    · rfl
  · unfold Ownership.demoted
    by_cases h : (u.entry i).owner = some n
    · rw [if_pos h, if_pos (show (u.ownership i).owner = some n from h)]
      exact (State.setOwner_ownership hi).trans (if_pos rfl)
    · rw [if_neg h, if_neg (show ¬ (u.ownership i).owner = some n from h)]

/-! ### A reachability record that takes new values (R34) -/

/-- What a record's new values make of an ownership at a STAGE node (R110, R111). -/
def Ownership.after (node : NodeId) (old new : Reach) (grace : Nat) (o : Ownership) : Ownership :=
  if old.state ≠ new.state then
    match new.state with
    | .unreachable => o.lost node grace
    | .reachable => o.back node
    | .unknown => o
  else if roleChanged old.role new.role = true ∧ new.state = .reachable ∧ new.role = some .stage then o.demoted node
  else o

/-- An ownership of another node, or of none, is not touched. -/
theorem Ownership.after_other {o : Ownership} {old new : Reach} {grace : Nat} (h : o.owner ≠ some m) :
    o.after m old new grace = o := by
  unfold Ownership.after Ownership.lost Ownership.back Ownership.demoted
  simp only [h, false_and, if_false, ite_self]
  split
  · split <;> rfl
  · rfl

/-- The loss of a node (R34): the owners first, all else leaves the owners as they are. -/
theorem State.nodeLost_ownership (hi : i < 64) :
    (s.nodeLost n).ownership i = if s.isStage then (s.ownership i).lost n s.sets.orphanGrace else s.ownership i := by
  have steps (u : State) : (u.discardSteps n).ownership i = u.ownership i := by
    unfold State.discardSteps
    dsimp only
    split
    · rfl
    · exact State.promote_ownership
  have talk (u : State) : (if u.isStage then u.releaseOfNode n else u).ownership i = u.ownership i :=
    OnlyIn.ownership_eq (l := [.talk, .lines, .notices, .counters]) (by split <;> simp) (by decide)
  have rest (u : State) : ((u.purgeOutbound n).abandonReport n).ownership i = u.ownership i :=
    OnlyIn.ownership_eq (l := [.service, .counters, .image]) (by simp) (by decide)
  unfold State.nodeLost
  dsimp only
  rw [rest, talk, steps]
  split
  · exact State.ownerLost_ownership hi
  · rfl

/-- A record replaced, with all that follows from it: of the members only that record changes (R34). -/
theorem State.setReach_members (x : Reach) :
    (s.setReach n x).members = { s.members with reach := s.members.reach.put n.val x } := by
  have after (u : State) : OnlyIn [.preamp, .service, .talk, .lines, .image, .notices, .counters] u (u.nodeLost n)
      ∧ OnlyIn [.preamp, .service, .talk, .lines, .image, .notices, .counters] u (u.ownerBack n)
      ∧ OnlyIn [.preamp, .service, .talk, .lines, .image, .notices, .counters] u (u.ownerDemoted n) := by
    exact ⟨by simp, by simp, by simp⟩
  have lost (u : State) : (u.nodeLost n).members = u.members := (after u).1.at .members (by decide)
  have back (u : State) : (u.ownerBack n).members = u.members := (after u).2.1.at .members (by decide)
  have demoted (u : State) : (u.ownerDemoted n).members = u.members := (after u).2.2.at .members (by decide)
  unfold State.setReach
  dsimp only
  split
  · rfl
  · split
    · split
      · rw [lost]; rfl
      · split
        · rw [back]; rfl
        · rfl
      · rfl
    · split
      · rw [demoted]; rfl
      · rfl

/-- The ownership of an input after a record has taken new values (R110, R111). -/
theorem State.setReach_ownership (x : Reach) (hi : i < 64) : (s.setReach n x).ownership i =
    if s.isStage then (s.ownership i).after n (s.reachOf n) x s.sets.orphanGrace else s.ownership i := by
  unfold State.setReach
  extract_lets old _ put told
  have owners : put.ownership i = s.ownership i ∧ told.ownership i = s.ownership i := ⟨rfl, rfl⟩
  have lost : (told.nodeLost n).ownership i = if s.isStage then (s.ownership i).lost n s.sets.orphanGrace else s.ownership i :=
    State.nodeLost_ownership hi
  have back : (told.ownerBack n).ownership i = (s.ownership i).back n := State.ownerBack_ownership hi
  have demoted : (told.ownerDemoted n).ownership i = (s.ownership i).demoted n := State.ownerDemoted_ownership hi
  have toldStage : told.isStage = s.isStage := rfl
  have e : s.reachOf n = old := rfl
  rw [e]
  unfold Ownership.after
  clear_value put told old
  obtain ⟨st, role, present, absent⟩ := x
  dsimp only at *
  by_cases hstate : old.state = st
  · by_cases hrole : roleChanged old.role role = false
    · simp only [hstate, hrole, and_self, if_true, ne_eq, not_true_eq_false, if_false, Bool.false_eq_true, false_and, ite_self,
        owners]
    · rw [Bool.not_eq_false] at hrole
      by_cases hd : st = .reachable ∧ role = some .stage
      · obtain ⟨rfl, rfl⟩ := hd
        cases hs : s.isStage <;> simp [hstate, hrole, toldStage, hs, owners, demoted]
      · have hd' : ¬ (st = .reachable ∧ role = some .stage ∧ told.isStage = true) := fun h => hd ⟨h.1, h.2.1⟩
        simp [hstate, hrole, hd, hd', owners]
  · cases st <;> cases hs : s.isStage <;> simp [hstate, toldStage, hs, owners, lost, back]

/-! ### Every other record in turn (R32, R33) -/

/-- An operation on one node's record: it gives the record a new value, and the owners what follows from that. -/
structure RecordStep (f : NodeId → State → State) (g : NodeId → Reach → Reach) : Prop where
  members : ∀ n u, (f n u).members = { u.members with reach := u.members.reach.put n.val (g n (u.reachOf n)) }
  straps : ∀ n u, (f n u).straps = u.straps
  sets : ∀ n u, (f n u).sets = u.sets
  owners : ∀ n u i, i < 64 → (f n u).ownership i =
    if u.isStage then (u.ownership i).after n (u.reachOf n) (g n (u.reachOf n)) u.sets.orphanGrace else u.ownership i

variable {f : NodeId → State → State} {g : NodeId → Reach → Reach}

theorem RecordStep.reachOf (h : RecordStep f g) (m n : NodeId) (u : State) :
    (f m u).reachOf n = if m = n then g m (u.reachOf m) else u.reachOf n := by
  have e : m.val = n.val ↔ m = n := Fin.val_inj
  simp only [State.reachOf, h.members, Tab.get_put _ _ m.isLt, e]

theorem RecordStep.isStage (h : RecordStep f g) (u : State) : (f n u).isStage = u.isStage := by
  simp only [State.isStage, h.straps]

/-- Each record of the nodes of a list takes its new value, every other stays. -/
theorem RecordStep.foldl_reachOf (h : RecordStep f g) {q : List NodeId} (hq : q.Nodup) (u : State) :
    (q.foldl (fun s n => f n s) u).reachOf n = if n ∈ q then g n (u.reachOf n) else u.reachOf n := by
  induction q generalizing u with
  | nil => rfl
  | cons m q ih =>
    obtain ⟨hm, hq⟩ := List.nodup_cons.mp hq
    rw [List.foldl_cons, ih hq, h.reachOf]
    by_cases e : m = n
    · subst e
      rw [if_neg hm, if_pos rfl, if_pos List.mem_cons_self]
    · simp only [if_neg e, List.mem_cons, Ne.symm e, false_or]

theorem RecordStep.foldl_members (h : RecordStep f g) (q : List NodeId) (u : State) :
    (q.foldl (fun s n => f n s) u).members =
      { u.members with reach := (q.foldl (fun s n => f n s) u).members.reach } := by
  induction q generalizing u with
  | nil => rfl
  | cons m q ih =>
    rw [List.foldl_cons, ih, h.members]

/-- An input whose owner is none of the nodes of a list keeps its ownership. -/
theorem RecordStep.foldl_ownership_other (h : RecordStep f g) (hi : i < 64) (q : List NodeId) (u : State)
    (ho : ∀ m ∈ q, (u.ownership i).owner ≠ some m) : (q.foldl (fun s n => f n s) u).ownership i = u.ownership i := by
  induction q generalizing u with
  | nil => rfl
  | cons m q ih =>
    have step : (f m u).ownership i = u.ownership i := by
      rw [h.owners m u i hi, Ownership.after_other (ho m List.mem_cons_self), ite_self]
    rw [List.foldl_cons, ih _ (by rw [step]; exact fun k hk => ho k (List.mem_cons_of_mem _ hk)), step]

/-- What follows for an owner's input leaves it with that owner or with none. -/
theorem Ownership.after_owner {o : Ownership} {old new : Reach} {grace : Nat} (h : o.owner = some n) (hm : m ≠ n) :
    (o.after n old new grace).owner ≠ some m := by
  have own : ∀ x : Option NodeId, x = some n ∨ x = none → x ≠ some m := by
    rintro x (rfl | rfl)
    · exact fun e => hm (Option.some.inj e).symm
    · exact nofun
  apply own
  unfold Ownership.after Ownership.lost Ownership.back Ownership.demoted
  (repeat' split) <;> simp [h]

/-- At a STAGE node an input follows what becomes of its owner's record, and of no other. -/
theorem RecordStep.foldl_ownership (h : RecordStep f g) (hi : i < 64) {q : List NodeId} (hq : q.Nodup) (hn : n ∈ q) (u : State)
    (hs : u.isStage = true) (ho : (u.ownership i).owner = some n) : (q.foldl (fun s n => f n s) u).ownership i =
      (u.ownership i).after n (u.reachOf n) (g n (u.reachOf n)) u.sets.orphanGrace := by
  induction q generalizing u with
  | nil => exact absurd hn List.not_mem_nil
  | cons m q ih =>
    obtain ⟨hm, hq⟩ := List.nodup_cons.mp hq
    have step := h.owners m u i hi
    rw [if_pos hs] at step
    rw [List.foldl_cons]
    by_cases e : m = n
    · subst e
      rw [h.foldl_ownership_other hi q _ (by rw [step]; exact fun k hk => Ownership.after_owner ho fun e => hm (e ▸ hk)), step]
    · rw [Ownership.after_other (by rw [ho]; exact fun x => e (Option.some.inj x).symm)] at step
      have same : (f m u).reachOf n = u.reachOf n := by rw [h.reachOf, if_neg e]
      rw [ih hq ((List.mem_cons.mp hn).resolve_left (Ne.symm e)) _ ((h.isStage u).trans hs) (by rw [step, ho]), step, same,
        h.sets]

theorem otherNodes_nodup (s : State) : ((List.finRange 4).filter fun n => n != s.id).Nodup :=
  (List.nodup_finRange 4).filter _

theorem mem_otherNodes : n ∈ ((List.finRange 4).filter fun n => n != s.id) ↔ n ≠ s.id := by
  simp [List.mem_filter]

/-- Every other node's record takes its new value, the own stays. -/
theorem RecordStep.forOthers_reachOf (h : RecordStep f g) :
    (s.forOthers f).reachOf n = if n ≠ s.id then g n (s.reachOf n) else s.reachOf n := by
  unfold State.forOthers
  rw [h.foldl_reachOf (otherNodes_nodup s)]
  simp only [mem_otherNodes]

theorem RecordStep.forOthers_ownership (h : RecordStep f g) (hi : i < 64) (hn : n ≠ s.id) (hs : s.isStage = true)
    (ho : (s.ownership i).owner = some n) : (s.forOthers f).ownership i =
      (s.ownership i).after n (s.reachOf n) (g n (s.reachOf n)) s.sets.orphanGrace :=
  h.foldl_ownership hi (otherNodes_nodup s) (mem_otherNodes.mpr hn) s hs ho

/-- A record set to a value of itself is such an operation. -/
theorem RecordStep.setReach (g : NodeId → Reach → Reach) : RecordStep (fun n u => u.setReach n (g n (u.reachOf n))) g where
  members _ _ := State.setReach_members _
  straps n u := OnlyIn.at (l := [.members, .preamp, .service, .talk, .lines, .image, .notices, .counters]) (by simp) .straps
    (by decide)
  sets n u := OnlyIn.at (l := [.members, .preamp, .service, .talk, .lines, .image, .notices, .counters]) (by simp) .sets
    (by decide)
  owners _ _ _ hi := State.setReach_ownership _ hi

/-! ### The four ways an ownership follows a record (R110, R111) -/

theorem Ownership.after_lost {o : Ownership} {old new : Reach} {grace : Nat} (h : old.state ≠ .unreachable)
    (hn : new.state = .unreachable) (ho : o.owner = some n) (hs : o.state = .held) :
    o.after n old new grace = if grace = 0 then ⟨some n, .orphaned, 0⟩ else ⟨some n, .grace, grace⟩ := by
  simp [Ownership.after, hn, h, Ownership.lost, ho, hs]

theorem Ownership.after_back {o : Ownership} {old new : Reach} {grace : Nat} (h : old.state ≠ .reachable)
    (hn : new.state = .reachable) (ho : o.owner = some n) (hs : o.state = .grace) :
    o.after n old new grace = ⟨some n, .held, 0⟩ := by
  simp [Ownership.after, hn, h, Ownership.back, ho, hs]

/-- A known role becomes STAGE where it was DESK. -/
theorem roleChanged_stage (r : Option Role) : roleChanged r (some .stage) = true ↔ r = some .desk := by
  cases r with
  | none => simp [roleChanged]
  | some r => cases r <;> simp [roleChanged]

theorem Ownership.after_demoted {o : Ownership} {old new : Reach} {grace : Nat} (h : old.state = .reachable)
    (hn : new.state = .reachable) (hr : old.role = some .desk) (hr' : new.role = some .stage) (ho : o.owner = some n) :
    o.after n old new grace = ⟨none, .held, 0⟩ := by
  simp [Ownership.after, h, hn, hr', (roleChanged_stage old.role).mpr hr, Ownership.demoted, ho]

theorem Ownership.after_else {o : Ownership} {old new : Reach} {grace : Nat}
    (hd : ¬ (old.state = .reachable ∧ new.state = .reachable ∧ old.role = some .desk ∧ new.role = some .stage))
    (hl : ¬ ((old.state ≠ .unreachable ∧ new.state = .unreachable) ∧ o.state = .held))
    (hb : ¬ ((old.state ≠ .reachable ∧ new.state = .reachable) ∧ o.state = .grace)) : o.after n old new grace = o := by
  unfold Ownership.after
  split
  · next hne =>
    split
    · next hn => exact if_neg fun h => hl ⟨⟨fun e => hne (e.trans hn.symm), hn⟩, h.2⟩
    · next hn => exact if_neg fun h => hb ⟨⟨fun e => hne (e.trans hn.symm), hn⟩, h.2⟩
    · rfl
  · next heq =>
    rw [not_not] at heq
    refine if_neg fun ⟨hr, hs, hr'⟩ => hd ⟨heq.trans hs, hs, ?_, hr'⟩
    rw [hr'] at hr
    exact (roleChanged_stage _).mp hr

/-! ### The roster and the isolation (R32, R33) -/

/-- A record that the isolation makes UNREACHABLE, unless it is already (R33). -/
def Reach.isolated (r : Reach) : Reach :=
  if r.state = .unreachable then r else { r with state := .unreachable, present := 0, absent := 8 }

theorem Reach.isolated_state (r : Reach) : r.isolated.state = .unreachable ∧ r.isolated.role = r.role := by
  unfold Reach.isolated
  split
  · next h => exact ⟨h, rfl⟩
  · exact ⟨rfl, rfl⟩

/-- The isolation's step on one record. -/
theorem RecordStep.isolate : RecordStep (fun n s => if s.isUnreachable n then s
    else s.setReach n { s.reachOf n with state := .unreachable, present := 0, absent := 8 }) fun _ => Reach.isolated := by
  have gone (n : NodeId) (u : State) (h : u.isUnreachable n = true) : (u.reachOf n).isolated = u.reachOf n :=
    if_pos (by simpa [State.isUnreachable] using h)
  have here (n : NodeId) (u : State) (h : ¬ u.isUnreachable n = true) : (u.reachOf n).isolated =
      { u.reachOf n with state := .unreachable, present := 0, absent := 8 } :=
    if_neg (by simpa [State.isUnreachable] using h)
  have step := RecordStep.setReach fun _ => Reach.isolated
  refine ⟨fun n u => ?_, fun n u => ?_, fun n u => ?_, fun n u i hi => ?_⟩
  · split
    · next h => rw [gone n u h, State.reachOf, Tab.put_get]
    · next h => rw [← here n u h]; exact step.members n u
  · split
    · rfl
    · next h => rw [← here n u h]; exact step.straps n u
  · split
    · rfl
    · next h => rw [← here n u h]; exact step.sets n u
  · split
    · next h =>
      have same : roleChanged (u.reachOf n).role (u.reachOf n).role = false := by simp [roleChanged]
      simp [gone n u h, Ownership.after, same]
    · next h => rw [← here n u h]; exact step.owners n u i hi

/-- The isolation expiry acts on every other record once it is owed (R33). -/
theorem State.isolationExpiry_owed (h : s.members.isolationOwed = true) : s.isolationExpiry =
    (s.setMembers { s.members with isolationOwed := false }).forOthers fun n s => if s.isUnreachable n then s
      else s.setReach n { s.reachOf n with state := .unreachable, present := 0, absent := 8 } :=
  if_pos h

end Sys2Proof.Machine
end

section
/-! Rosters and the isolation, settled for O17 (R32, R33, R110, R111). -/

namespace Sys2Proof.Machine

variable {s : State} {i : Nat} {n : NodeId}

/-- A roster's step on one record (R32). -/
theorem RecordStep.roster (roster : Byte) :
    RecordStep (fun n s => s.setReach n ((s.reachOf n).marked (markRole roster n.val)))
      fun n r => r.marked (markRole roster n.val) := .setReach fun n r => r.marked (markRole roster n.val)

/-- The record of another node after a roster. -/
theorem State.takeRoster_reachOf (roster : Byte) (h : n ≠ s.id) :
    (s.takeRoster roster).reachOf n = (s.reachOf n).marked (markRole roster n.val) := by
  rw [State.takeRoster, (RecordStep.roster roster).forOthers_reachOf, if_pos h]

theorem State.takeRoster_own (roster : Byte) : (s.takeRoster roster).reachOf s.id = s.reachOf s.id := by
  rw [State.takeRoster, (RecordStep.roster roster).forOthers_reachOf, if_neg (not_not.mpr rfl)]

/-- A mark counts up to 2, where the record becomes REACHABLE, and gives the role (R32). -/
theorem Reach.marked_some (r : Reach) (role : Role) : r.marked (some role) =
    { state := if r.present + 1 < 2 then r.state else .reachable, role := some role, present := min (r.present + 1) 2, absent := 0 } := by
  unfold Reach.marked
  by_cases h : r.present + 1 < 2
  · simp only [h, if_true, show ¬ min (r.present + 1) 2 = 2 by omega, if_false]
  · simp only [h, if_false, show min (r.present + 1) 2 = 2 by omega, if_true]

/-- An ABSENT counts up to 8, where the record becomes UNREACHABLE (R32). -/
theorem Reach.marked_none (r : Reach) : r.marked none =
    { state := if r.absent + 1 < 8 then r.state else .unreachable, role := r.role, present := 0, absent := min (r.absent + 1) 8 } := by
  unfold Reach.marked
  by_cases h : r.absent + 1 < 8
  · simp only [h, if_true, show ¬ min (r.absent + 1) 8 = 8 by omega, if_false]
  · simp only [h, if_false, show min (r.absent + 1) 8 = 8 by omega, if_true]

/-- The isolation expiry as an event: records, owners and what it owes (R33). -/
theorem isolationExpiry_event (h : s.members.isolationOwed = true) :
    (s.event State.isolationExpiry).members.isolationOwed = false
    ∧ (∀ n, (s.event State.isolationExpiry).reachOf n = if n ≠ s.id then (s.reachOf n).isolated else s.reachOf n)
    ∧ ∀ i n, i < 64 → n ≠ s.id → s.isStage = true → (s.entry i).owner = some n →
        (s.event State.isolationExpiry).ownership i =
          (s.ownership i).after n (s.reachOf n) (s.reachOf n).isolated s.sets.orphanGrace := by
  have step := RecordStep.isolate
  have e := State.isolationExpiry_owed (s := s.setRaised []) h
  have members := State.event_members (s := s) State.isolationExpiry
  refine ⟨?_, fun n => ?_, fun i n hi hn hs ho => ?_⟩
  · rw [members, e, State.forOthers, step.foldl_members]
    rfl
  · rw [State.reachOf, members, e]
    exact step.forOthers_reachOf
  · have preamp : (s.event State.isolationExpiry).ownership i = ((s.setRaised []).isolationExpiry).ownership i := by
      simp only [State.ownership, State.entry, State.event_preamp]
    rw [preamp, e]
    exact step.forOthers_ownership hi hn hs ho

/-- Settles O17: every other record takes its new value, and an owned input follows its owner's record alone. -/
theorem isolationLosesTheOthers : Obligations.IsolationLosesTheOthers := by
  refine ⟨fun s roster => ?_, fun s howed => ?_⟩
  · intro t
    refine ⟨by simp [t], State.takeRoster_own roster, fun n hn => ?_⟩
    have new : t.reachOf n = (s.reachOf n).marked (markRole roster n.val) := State.takeRoster_reachOf roster hn
    refine ⟨fun role hr => ?_, fun hr => ?_, fun hs i hi ho => ?_⟩
    · rw [new, hr, Reach.marked_some]
    · rw [new, hr, Reach.marked_none]
    · have follows : t.ownership i = (s.ownership i).after n (s.reachOf n) (t.reachOf n) s.sets.orphanGrace := by
        rw [new]
        exact (RecordStep.roster roster).forOthers_ownership hi hn hs ho
      have owned : (s.ownership i).owner = some n := ho
      have owner : (t.entry i).owner = _ := congrArg Ownership.owner follows
      have state : (t.entry i).ownerState = _ := congrArg Ownership.state follows
      have grace : (t.entry i).grace = _ := congrArg Ownership.grace follows
      intro e e' new' lost back demoted
      refine ⟨fun ⟨hl, hl'⟩ hh => ?_, fun ⟨hb, hb'⟩ hg => ?_, fun ⟨hd, hd', hr, hr'⟩ => ?_, fun hd hl hb => ?_⟩
      · rw [Ownership.after_lost hl hl' owned hh] at owner state grace
        refine ⟨?_, fun h0 => ?_, fun h0 => ?_⟩
        · rw [owner]; split <;> rfl
        · exact ⟨by rw [state, if_pos h0], by rw [grace, if_pos h0]⟩
        · exact ⟨by rw [state, if_neg h0], by rw [grace, if_neg h0]⟩
      · rw [Ownership.after_back hb hb' owned hg] at owner state grace
        exact ⟨owner, state, grace⟩
      · rw [Ownership.after_demoted hd hd' hr hr' owned] at owner grace
        exact ⟨owner, grace⟩
      · rw [Ownership.after_else hd hl hb] at owner state grace
        exact ⟨owner, state, grace⟩
  · obtain ⟨owes, records, owners⟩ := isolationExpiry_event howed
    refine ⟨s.event State.isolationExpiry, rfl, owes, by simp, by rw [records, if_neg (not_not.mpr rfl)], fun n hn => ?_,
      fun hs i n hi hn hun ho hh => ?_⟩
    · rw [records, if_pos hn]
      exact (s.reachOf n).isolated_state
    · have follows := owners i n hi hn hs ho
      have reached : (s.reachOf n).state ≠ .unreachable := by simpa [State.isUnreachable] using hun
      rw [Ownership.after_lost reached (s.reachOf n).isolated_state.1 ho hh] at follows
      have owner := congrArg Ownership.owner follows
      have state := congrArg Ownership.state follows
      have grace := congrArg Ownership.grace follows
      refine ⟨owner.trans (by split <;> rfl), fun h0 => ?_, fun h0 => ?_⟩
      · rw [if_pos h0] at state
        exact state
      · rw [if_neg h0] at state grace
        exact ⟨state, grace⟩

end Sys2Proof.Machine
end

section
/-! What is taken before a boundary leaves what does not stand due, settled with the superframe boundary for O14 (R24, R33, R48,
R50, R111, R119, R160, R165). -/

namespace Sys2Proof.Machine

variable {l : List Group} {s t u v : State} {p q : Side} {i n : Nat}

/-! ### What every expiry keeps, the whole of what stands due keeps -/

/-- What every operation of an index below n keeps, `forEach` keeps. -/
theorem forEach_keeps_lt {P : State → Prop} {f : Nat → State → State} {k : Nat} (hf : ∀ i u, i < k → P u → P (f i u))
    (h : P s) : P (forEach k f s) := by
  have along : ∀ q : List Nat, (∀ j ∈ q, j < k) → ∀ u, P u → P (q.foldl (fun s j => f j s) u) := by
    intro q
    induction q with
    | nil => exact fun _ _ h => h
    | cons j q ih =>
      exact fun hq u hu => ih (fun a ha => hq a (List.mem_cons_of_mem _ ha)) _ (hf j u (hq j List.mem_cons_self) hu)
  exact along _ (fun j hj => List.mem_range.mp hj) s h

/-- A property that each expiry keeps, and the lane's cells and the notice queue too (assumption log, entry 6). -/
structure SettleKeeps (P : State → Prop) : Prop where
  quiet : ∀ u v, P u → OnlyIn [.service, .counters, .notices] u v → P v
  absence : ∀ u, P u → P u.absenceExpiry
  isolation : ∀ u, P u → P u.isolationExpiry
  holdoff : ∀ p u, P u → P (u.holdoffExpiry p)
  restore : ∀ p u, P u → P (u.restoreExpiry p)
  unwrap : ∀ p u, P u → P (u.unwrapNow p)
  swap : ∀ u, P u → P u.swapNow
  change : ∀ n u, P u → P (u.changeNow n)
  grace : ∀ n u, P u → P (u.graceExpiry n)
  reload : ∀ u, P u → P u.reloadTimeout
  hold : ∀ c u, c < 4 → P u → P (u.holdExpiry c)
  flip : ∀ (n : Fin 8) u, P u → P (u.flipLine n)
  ack : ∀ u, P u → P u.ackExpiry

theorem SettleKeeps.event {P : State → Prop} (h : SettleKeeps P) {f : State → State} (hf : ∀ u, P u → P (f u)) (u : State)
    (hu : P u) : P (u.event f) :=
  h.quiet _ _ (hf _ (h.quiet u (u.setRaised []) hu (by simp))) ((State.event_only f).mono (by decide))

theorem SettleKeeps.settle {P : State → Prop} (h : SettleKeeps P) (hs : P s) : P s.settle := by
  have cells : P s.ringCell.consoleCell := h.quiet _ _ hs (by simp)
  have sides {f : Side → State → State} (hf : ∀ p u, P u → P (f p u)) (u : State) (hu : P u) : P (u.forSides f) :=
    hf .w _ (hf .e u hu)
  have ring : P s.settleRing := by
    unfold State.settleRing
    refine sides (fun p u hu => h.event (h.unwrap p) u hu) _ ?_
    refine sides (fun p u hu => h.restore p u hu) _ ?_
    refine sides (fun p u hu => h.event (h.holdoff p) u hu) _ ?_
    exact h.event h.isolation _ (h.event h.absence _ cells)
  have changes := forEach_keeps (f := fun n s => s.event (·.changeNow n)) (fun n => h.event (h.change n)) 64
    (h.event h.swap _ ring)
  have graces := forEach_keeps (f := fun n s => s.event (·.graceExpiry n)) (fun n => h.event (h.grace n)) 64
    (h.reload _ changes)
  have holds := forEach_keeps_lt (k := 4) (f := fun c s => s.event (·.holdExpiry c))
    (fun c u hc => h.event (fun v => h.hold c v hc) u) graces
  have flips := foldl_keeps (f := fun s n => s.event (·.flipLine n)) (fun u n => h.event (h.flip n) u) (List.finRange 8) holds
  have acks := forEach_keeps (f := fun _ s => s.event State.ackExpiry) (fun _ => h.event h.ack) 48 flips
  unfold State.settle State.settleBlocks
  exact acks

/-! ### A span whose holds have not run out (R48, R50, R53) -/

/-- No hold of the span stands at 0, and no unwrap of it waits. -/
def Span.running (x : Span) : Prop :=
  ¬ (x.state = .defect ∧ x.holdoff = 0) ∧ ¬ (x.state = .restoring ∧ x.ready = false ∧ x.restore = 0)
    ∧ x.state ≠ .unwrapPending

theorem State.holdoffExpiry_span_ne (h : q ≠ p) : (s.holdoffExpiry p).span q = s.span q := by
  unfold State.holdoffExpiry State.failSpan
  split
  · rw [State.evaluate_span_ne h, State.redetermine_span, State.setSpan_span_ne _ h]
  · rfl

theorem State.nameUnwrap_span_ne (h : q ≠ p) : (s.nameUnwrap p).span q = s.span q := by
  unfold State.nameUnwrap
  dsimp only
  split
  · split
    · exact State.setSpan_span_ne _ h
    · rfl
  · rfl

theorem State.restoreExpiry_span_ne (h : q ≠ p) : (s.restoreExpiry p).span q = s.span q := by
  unfold State.restoreExpiry
  split
  · rw [State.nameUnwrap_span_ne h, State.setSpan_span_ne _ h]
  · rfl

/-- A running span is left as it is by everything that stands due. -/
theorem settleKeeps_span {x : Span} (hx : x.running) : SettleKeeps fun u => u.span p = x := by
  obtain ⟨hd, hr, hu⟩ := hx
  have away {u v : State} {l : List Group} (h : u.span p = x) (o : OnlyIn l u v) (hl : .ring ∉ l) : v.span p = x :=
    (o.span_eq hl).trans h
  refine ⟨fun u v h o => away h o (by decide), fun u h => State.absenceExpiry_span.trans h,
    fun u h => away (l := [.members, .preamp, .service, .talk, .lines, .image, .notices, .counters]) h (by simp) (by decide),
    fun q u h => ?_, fun q u h => ?_, fun q u h => ?_,
    fun u h => away (l := [.plan, .notices, .counters]) h (by simp) (by decide),
    fun n u h => away (l := [.preamp, .service, .tracking, .notices, .counters]) h (by simp) (by decide),
    fun n u h => away (l := [.preamp, .notices, .counters]) h (by simp) (by decide),
    fun u h => away (l := [.preamp]) h (by simp) (by decide),
    fun c u _ h => away (l := [.talk, .lines, .notices, .counters]) h (by simp) (by decide),
    fun n u h => away (l := [.talk, .lines, .notices, .counters]) h (by simp) (by decide),
    fun u h => away (l := [.preamp, .notices, .counters]) h (by simp) (by decide)⟩
  · by_cases e : p = q
    · subst e
      have idle : u.holdoffDue p = false := by
        rw [Bool.eq_false_iff]
        simpa [State.holdoffDue, h] using hd
      rw [State.holdoffExpiry, if_neg (by rw [idle]; exact nofun)]
      exact h
    · rw [State.holdoffExpiry_span_ne e]
      exact h
  · by_cases e : p = q
    · subst e
      have idle : u.restoreDue p = false := by
        rw [Bool.eq_false_iff]
        simpa [State.restoreDue, h] using hr
      rw [State.restoreExpiry, if_neg (by rw [idle]; exact nofun)]
      exact h
    · rw [State.restoreExpiry_span_ne e]
      exact h
  · by_cases e : p = q
    · subst e
      have idle : u.unwrapDue p = false := by simp [State.unwrapDue, h, hu]
      rw [State.unwrapNow, if_neg (by rw [idle]; exact nofun)]
      exact h
    · rw [State.unwrapNow_span_ne e]
      exact h

/-! ### The control lines (R164 to R167) -/

/-- Of each line's record at most the output differs. -/
def LinesDriven (s t : State) : Prop := ∀ n, n < 8 → t.line n = { s.line n with output := (t.line n).output }

theorem LinesDriven.refl : LinesDriven s s := fun _ _ => rfl

theorem LinesDriven.trans (h : LinesDriven s t) (k : LinesDriven t u) : LinesDriven s u := fun n hn => by
  rw [k n hn, h n hn]

theorem LinesDriven.of_onlyIn (h : OnlyIn l s t) (hl : .lines ∉ l) : LinesDriven s t := fun n _ => by
  have e : t.lines = s.lines := h.at .lines hl
  simp only [State.line, e]

theorem LinesDriven.driveLines (h : LinesDriven s t) : LinesDriven s t.driveLines := fun n hn => by
  simp only [State.line, State.driveLines, State.setLines_lines, Tab.get_map _ _ hn]
  rw [show t.lines.records.get n = _ from h n hn]
  rfl

theorem LinesDriven.foldl {α : Type} {f : State → α → State} (hf : ∀ u a, LinesDriven u (f u a)) (q : List α) :
    LinesDriven s (q.foldl f s) := foldl_keeps (p := LinesDriven s) (fun u a hu => hu.trans (hf u a)) q .refl

theorem LinesDriven.redetermine : LinesDriven s s.redetermine := by
  unfold State.redetermine State.setRingState
  split
  · exact .refl
  · exact LinesDriven.driveLines (.of_onlyIn (l := [.ring, .present, .notices, .counters]) (by simp) (by decide))

theorem LinesDriven.evaluate : LinesDriven s (s.evaluate p) := by
  unfold State.evaluate
  split
  · exact .refl
  · exact LinesDriven.trans (.of_onlyIn (l := [.ring]) (by simp) (by decide)) .redetermine

theorem LinesDriven.absenceExpiry : LinesDriven s s.absenceExpiry := by
  unfold State.absenceExpiry
  split
  · refine LinesDriven.trans (LinesDriven.of_onlyIn (l := [.timing, .notices, .counters]) ?_ (by decide)) .redetermine
    split <;> simp
  · exact .refl

theorem LinesDriven.setSpan (x : Span) : LinesDriven s (s.setSpan p x) :=
  .of_onlyIn (l := [.ring]) (by simp) (by decide)

theorem LinesDriven.holdoffExpiry : LinesDriven s (s.holdoffExpiry p) := by
  unfold State.holdoffExpiry State.failSpan
  split
  · exact (LinesDriven.setSpan _).trans (LinesDriven.redetermine.trans .evaluate)
  · exact .refl

theorem LinesDriven.unwrapNow : LinesDriven s (s.unwrapNow p) := by
  unfold State.unwrapNow
  split
  · exact (LinesDriven.setSpan _).trans (LinesDriven.redetermine.trans .evaluate)
  · exact .refl

theorem LinesDriven.setRow (c : Nat) (x : TalkRow) : LinesDriven s (s.setRow c x) :=
  LinesDriven.driveLines (.of_onlyIn (l := [.talk]) (by simp) (by decide))

theorem LinesDriven.raise (h : LinesDriven s t) (k n d) : LinesDriven s (t.raise k n d) :=
  h.trans (.of_onlyIn (l := [.notices]) (by simp) (by decide))

theorem LinesDriven.releaseTalk (k : Fin 8) (r : TalkReason) : LinesDriven s (s.releaseTalk k r) := by
  unfold State.releaseTalk
  dsimp only
  split
  · exact (LinesDriven.setRow _ _).raise _ _ _
  · split
    · exact (LinesDriven.setRow _ _).raise _ _ _
    · exact .refl

theorem LinesDriven.press (k : Fin 8) : LinesDriven s (s.press k) := by
  unfold State.press
  dsimp only
  split
  · exact .refl
  · exact .setRow _ _
  · exact .refl
  · exact .setRow _ _
  · exact .setRow _ _
  · exact .of_onlyIn (l := [.notices, .counters]) (by simp) (by decide)

theorem LinesDriven.holdExpiry (c : Nat) : LinesDriven s (s.holdExpiry c) := by
  unfold State.holdExpiry
  split
  · split
    · exact .releaseTalk _ _
    · exact .refl
  · exact .refl

theorem LinesDriven.nodeLost (m : NodeId) : LinesDriven s (s.nodeLost m) := by
  have talk (u : State) : LinesDriven u (u.releaseOfNode m) := by
    refine LinesDriven.foldl (fun u k => ?_) _
    dsimp only
    split
    · split
      · exact .releaseTalk _ _
      · exact .refl
    · exact .refl
  unfold State.nodeLost
  extract_lets owners steps released
  have ho : LinesDriven s steps := by
    simp only [steps, owners]
    exact .of_onlyIn (l := [.preamp, .service, .notices, .counters]) (by split <;> simp) (by decide)
  have hr : LinesDriven s released := by
    simp only [released]
    split
    · exact ho.trans (talk _)
    · exact ho
  exact hr.trans (.of_onlyIn (l := [.service, .counters, .image]) (by simp) (by decide))

theorem LinesDriven.setReach (m : NodeId) (x : Reach) : LinesDriven s (s.setReach m x) := by
  have put (x : Members) : LinesDriven s (s.setMembers x) := .of_onlyIn (l := [.members]) (by simp) (by decide)
  have owners (u : State) : LinesDriven u (u.ownerBack m) ∧ LinesDriven u (u.ownerDemoted m) :=
    ⟨.of_onlyIn (l := [.preamp, .notices, .counters]) (by simp) (by decide),
      .of_onlyIn (l := [.preamp, .notices, .counters]) (by simp) (by decide)⟩
  unfold State.setReach
  dsimp only
  split
  · exact put _
  · split
    · split
      · exact ((put _).raise _ _ _).trans (.nodeLost m)
      · split
        · exact ((put _).raise _ _ _).trans (owners _).1
        · exact (put _).raise _ _ _
      · exact (put _).raise _ _ _
    · split
      · exact ((put _).raise _ _ _).trans (owners _).2
      · exact (put _).raise _ _ _

theorem LinesDriven.isolationExpiry : LinesDriven s s.isolationExpiry := by
  unfold State.isolationExpiry
  split
  · refine LinesDriven.trans (.of_onlyIn (l := [.members]) (t := s.setMembers _) (by simp) (by decide))
      (LinesDriven.foldl (fun u m => ?_) _)
    dsimp only
    split
    · exact .refl
    · exact .setReach _ _
  · exact .refl

/-- A flip of another line, or one that does not stand due, leaves a line's record but for the output (R165). -/
theorem State.flipLine_line {k : Fin 8} (hn : n < 8) (h : k.val ≠ n ∨ (s.line n).changes ≠ 4) :
    (s.flipLine k).line n = { s.line n with output := ((s.flipLine k).line n).output } := by
  unfold State.flipLine
  by_cases due : s.flipDue k.val = true
  · rw [if_pos due]
    have hk : k.val ≠ n := by
      rintro rfl
      exact h.elim (fun e => e rfl) fun e => e (by simpa [State.flipDue] using due)
    split
    · dsimp only
      have put (x : Line) : (s.setLine k.val x).line n = s.line n := by
        simp only [State.line, State.setLine, State.setLines_lines, Tab.get_put_ne _ _ hk]
      split
      · split
        · rw [LinesDriven.press _ n hn, put]
        · rw [State.lineRelease, LinesDriven.releaseTalk _ _ n hn, put]
      · rw [put]
    · rfl
  · rw [if_neg due]

/-- A line whose change count does not stand at 4 is left as it is but for its output by everything that stands due. -/
theorem settleKeeps_line {x : Line} (hn : n < 8) (hx : x.changes ≠ 4) :
    SettleKeeps fun u => u.line n = { x with output := (u.line n).output } := by
  have along {u v : State} (h : u.line n = { x with output := (u.line n).output }) (k : LinesDriven u v) :
      v.line n = { x with output := (v.line n).output } := by
    rw [k n hn, h]
  have away {u v : State} {l : List Group} (h : u.line n = { x with output := (u.line n).output }) (o : OnlyIn l u v)
      (hl : .lines ∉ l) := along h (.of_onlyIn o hl)
  refine ⟨fun u v h o => away h o (by decide), fun u h => along h .absenceExpiry, fun u h => along h .isolationExpiry,
    fun q u h => along h .holdoffExpiry, fun q u h => away (l := [.ring]) h (by simp) (by decide),
    fun q u h => along h .unwrapNow, fun u h => away (l := [.plan, .notices, .counters]) h (by simp) (by decide),
    fun n u h => away (l := [.preamp, .service, .tracking, .notices, .counters]) h (by simp) (by decide),
    fun n u h => away (l := [.preamp, .notices, .counters]) h (by simp) (by decide),
    fun u h => away (l := [.preamp]) h (by simp) (by decide), fun c u _ h => along h (.holdExpiry c), fun k u h => ?_,
    fun u h => away (l := [.preamp, .notices, .counters]) h (by simp) (by decide)⟩
  rw [State.flipLine_line hn (.inr (by rw [h]; exact hx)), h]

/-! ### An ownership in GRACE whose timer runs (R111) -/

theorem State.setOwner_ownership_ne {k : Nat} {o : Option NodeId} {st : OwnerState} {g : Nat} {cause : OwnerCause}
    (h : k ≠ i) : (s.setOwner k o st g cause).ownership i = s.ownership i := by
  have e (x : PreampEntry) : (s.setEntry k x).entry i = s.entry i := by
    simp only [State.entry, State.setEntry, State.setPreamp_preamp, Tab.get_put_ne _ _ h]
  have r : (s.setOwner k o st g cause).entry i =
      (s.setEntry k { s.entry k with owner := o, ownerState := st, grace := g }).entry i := rfl
  simp only [State.ownership, r, e]

/-- The isolation leaves an input that is not HELD with its owner (R110). -/
theorem State.isolationExpiry_ownership (hi : i < 64) (h : (s.ownership i).state ≠ .held) :
    s.isolationExpiry.ownership i = s.ownership i := by
  by_cases owed : s.members.isolationOwed = true
  · rw [State.isolationExpiry_owed owed]
    refine foldl_keeps (p := fun u => u.ownership i = s.ownership i) (fun u m hu => ?_) _ rfl
    rw [RecordStep.isolate.owners m u i hi]
    split
    · rw [Ownership.after_else, hu]
      · rw [(Reach.isolated_state _).1]; exact fun h => absurd h.2.1 nofun
      · rw [hu]; exact fun k => h k.2
      · rw [(Reach.isolated_state _).1]; exact fun h => absurd h.1.2 nofun
    · exact hu
  · rw [State.isolationExpiry, State.isolationDue, if_neg owed]

/-- An input in GRACE whose timer has not run out keeps owner, state and timer through everything that stands due. -/
theorem settleKeeps_ownership {o : Ownership} (hi : i < 64) (hs : o.state = .grace) (hg : o.grace ≠ 0) :
    SettleKeeps fun u => u.ownership i = o := by
  have away {u v : State} {l : List Group} (h : u.ownership i = o) (k : OnlyIn l u v) (hl : .preamp ∉ l) :
      v.ownership i = o := (k.ownership_eq hl).trans h
  refine ⟨fun u v h o => away h o (by decide),
    fun u h => away (l := [.timing, .ring, .present, .lines, .notices, .counters]) h (by simp) (by decide), fun u h => ?_,
    fun q u h => away (l := [.ring, .present, .lines, .notices, .counters]) h (by simp) (by decide),
    fun q u h => away (l := [.ring]) h (by simp) (by decide),
    fun q u h => away (l := [.ring, .present, .lines, .notices, .counters]) h (by simp) (by decide),
    fun u h => away (l := [.plan, .notices, .counters]) h (by simp) (by decide),
    fun n u h => (State.changeNow_ownership n).trans h, fun n u h => ?_, fun u h => ?_,
    fun c u _ h => away (l := [.talk, .lines, .notices, .counters]) h (by simp) (by decide),
    fun k u h => away (l := [.talk, .lines, .notices, .counters]) h (by simp) (by decide),
    fun u h => State.ackExpiry_ownership.trans h⟩
  · rw [State.isolationExpiry_ownership hi (by rw [h, hs]; exact nofun)]
    exact h
  · unfold State.graceExpiry
    split
    · next due =>
      have hne : n ≠ i := by
        rintro rfl
        have zero : (u.ownership n).grace = 0 := by
          simp only [State.graceDue, Bool.and_eq_true, beq_iff_eq] at due
          exact due.2
        exact hg (h ▸ zero)
      rw [State.setOwner_ownership_ne hne]
      exact h
    · exact h
  · unfold State.reloadTimeout State.startupReload
    (repeat' split) <;> exact h

/-! ### The talk register while nothing of it stands due (R159 to R161) -/

/-- Without an isolation owed, a flip or a timer that stands due the talk register stays. -/
theorem settleKeeps_talk {x : Talk} (hx : ∀ r, r < 4 → (x.register.get r).timer ≠ some 0) : SettleKeeps fun u =>
    u.talk = x ∧ u.members.isolationOwed = false ∧ ∀ n, n < 8 → (u.line n).changes ≠ 4 := by
  have along {u v : State} {l : List Group}
      (h : u.talk = x ∧ u.members.isolationOwed = false ∧ ∀ n, n < 8 → (u.line n).changes ≠ 4) (k : LinesDriven u v)
      (o : OnlyIn l u v) (hl : .talk ∉ l ∧ .members ∉ l) :
      v.talk = x ∧ v.members.isolationOwed = false ∧ ∀ n, n < 8 → (v.line n).changes ≠ 4 := by
    obtain ⟨ht, hm, hc⟩ := h
    refine ⟨(show v.talk = u.talk from o.at .talk hl.1).trans ht, ?_, fun n hn => ?_⟩
    · rw [show v.members = u.members from o.at .members hl.2, hm]
    · rw [k n hn]; exact hc n hn
  have away {u v : State} {l : List Group}
      (h : u.talk = x ∧ u.members.isolationOwed = false ∧ ∀ n, n < 8 → (u.line n).changes ≠ 4) (o : OnlyIn l u v)
      (hl : .talk ∉ l ∧ .members ∉ l ∧ .lines ∉ l) := along h (.of_onlyIn o hl.2.2) o ⟨hl.1, hl.2.1⟩
  refine ⟨fun u v h o => away h o (by decide),
    fun u h => along (l := [.timing, .ring, .present, .lines, .notices, .counters]) h .absenceExpiry (by simp) (by decide),
    fun u h => ?_,
    fun q u h => along (l := [.ring, .present, .lines, .notices, .counters]) h .holdoffExpiry (by simp) (by decide),
    fun q u h => away (l := [.ring]) h (by simp) (by decide),
    fun q u h => along (l := [.ring, .present, .lines, .notices, .counters]) h .unwrapNow (by simp) (by decide),
    fun u h => away (l := [.plan, .notices, .counters]) h (by simp) (by decide),
    fun n u h => away (l := [.preamp, .service, .tracking, .notices, .counters]) h (by simp) (by decide),
    fun n u h => away (l := [.preamp, .notices, .counters]) h (by simp) (by decide),
    fun u h => away (l := [.preamp]) h (by simp) (by decide), fun c u hc h => ?_, fun k u h => ?_,
    fun u h => away (l := [.preamp, .notices, .counters]) h (by simp) (by decide)⟩
  · rw [State.isolationExpiry, State.isolationDue, if_neg (by rw [h.2.1]; exact nofun)]
    exact h
  · have idle : u.holdDue c = false := by
      have e : u.talkRow c = x.register.get c := by rw [State.talkRow, h.1]
      simp [State.holdDue, e, hx c hc]
    rw [State.holdExpiry, if_neg (by rw [idle]; exact nofun)]
    exact h
  · have idle : u.flipDue k.val = false := by
      rw [Bool.eq_false_iff]
      simpa [State.flipDue] using h.2.2 k.val k.isLt
    rw [State.flipLine, if_neg (by rw [idle]; exact nofun)]
    exact h

end Sys2Proof.Machine
end

section
/-! The superframe boundary, settled for O14 (R24, R33, R36, R48, R50, R111, R119, R160, R165). -/

namespace Sys2Proof.Machine

variable {l : List Group} {s t u : State} {p : Side} {i n : Nat}

/-! ### What a frame boundary counts (R24) -/

/-- A boundary's counting before the ring state is determined again. -/
def State.counted (s : State) : State :=
  (((s.setTiming s.timing.advance).setPreamp s.preamp.frame).setPresent s.present.frame).setChecker s.checker.frame

/-- The end of a cell time where the frame that ends is its eighth (R36). -/
def State.cellEnd (s : State) : State := if s.timing.frame % 8 = 7 then s.nextCellTime else s

/-- The cell time's end is the counting's first part, the ring state its last. -/
theorem State.advance_eq : s.advance =
    if s.cellEnd.counted.timing.masterAbsence = 0 then s.cellEnd.counted.redetermine else s.cellEnd.counted := rfl

theorem State.cellEnd_onlyIn : OnlyIn [.service, .counters] s s.cellEnd := by
  unfold State.cellEnd
  split <;> simp

theorem State.counted_onlyIn : OnlyIn [.timing, .preamp, .present, .checker] s s.counted := by simp [State.counted]

/-- Beside its counting a boundary moves the ring state, and what follows it. -/
theorem State.advance_onlyIn : OnlyIn [.ring, .present, .lines, .notices, .counters] s.cellEnd.counted s.advance := by
  rw [State.advance_eq]
  split <;> simp

theorem State.advance_timing : s.advance.timing = s.timing.advance := by
  have e : s.cellEnd.timing = s.timing := State.cellEnd_onlyIn.at .timing (by decide)
  have k : s.advance.timing = s.cellEnd.counted.timing := State.advance_onlyIn.at .timing (by decide)
  rw [k, ← e]
  rfl

theorem State.advance_preamp : s.advance.preamp = s.preamp.frame := by
  have e : s.cellEnd.preamp = s.preamp := State.cellEnd_onlyIn.at .preamp (by decide)
  have k : s.advance.preamp = s.cellEnd.counted.preamp := State.advance_onlyIn.at .preamp (by decide)
  rw [k, ← e]
  rfl

theorem State.advance_span : s.advance.span p = s.span p := by
  have e : s.cellEnd.counted.span p = s.span p :=
    (State.counted_onlyIn.span_eq (by decide)).trans (State.cellEnd_onlyIn.span_eq (by decide))
  rw [State.advance_eq]
  split
  · rw [State.redetermine_span, e]
  · exact e

theorem LinesDriven.advance : LinesDriven s s.advance := by
  have e : LinesDriven s s.cellEnd.counted :=
    LinesDriven.trans (.of_onlyIn State.cellEnd_onlyIn (by decide)) (.of_onlyIn State.counted_onlyIn (by decide))
  rw [State.advance_eq]
  split
  · exact e.trans .redetermine
  · exact e

/-! ### The counting as an event -/

/-- The counting of a frame boundary is one event (assumption log, entry 47). -/
def State.advanced (s : State) : State := s.event State.advance

theorem State.advanced_timing : s.advanced.timing = s.timing.advance := by
  rw [State.advanced, State.event_timing, State.advance_timing]
  rfl

theorem State.advanced_elsewhere :
    OnlyIn [.timing, .service, .preamp, .present, .checker, .ring, .lines, .notices, .counters] s s.advanced := by
  simp [State.advanced]

theorem State.advanced_entry : s.advanced.entry i = s.entry i := by
  rw [State.entry, State.advanced, State.event_preamp, State.advance_preamp]
  rfl

theorem State.advanced_span : s.advanced.span p = s.span p := by
  rw [State.advanced, State.event_span, State.advance_span, State.setRaised_span]

theorem State.advanced_line (hn : n < 8) : s.advanced.line n = { s.line n with output := (s.advanced.line n).output } := by
  have e : s.advanced.line n = ((s.setRaised []).advance).line n := by
    simp only [State.line, State.advanced, State.event_lines]
  rw [e]
  exact LinesDriven.advance n hn

/-! ### What a superframe boundary counts (R33, R48, R50, R111, R119, R160, R165) -/

theorem State.pulseStrobe_onlyIn : OnlyIn [.preamp] s s.pulseStrobe := by simp

theorem State.superframe_members (levels : Tab Bool 8) : (s.superframe levels).members =
    { s.members with isolation := s.isolationCount, isolationOwed := s.isolationReached, grants := .fill 6 none } := by
  unfold State.superframe
  exact State.pulseStrobe_onlyIn.at .members (by decide)

theorem State.superframe_timing (levels : Tab Bool 8) : (s.superframe levels).timing = s.timing := by
  unfold State.superframe
  exact State.pulseStrobe_onlyIn.at .timing (by decide)

theorem State.superframe_line (levels : Tab Bool 8) (hn : n < 8) :
    (s.superframe levels).line n = (s.line n).sample (levels.get n) := by
  have e : (s.superframe levels).lines =
      { records := s.lines.records.mapIdx fun i l => l.sample (levels.get i), levels := levels } := by
    unfold State.superframe
    exact State.pulseStrobe_onlyIn.at .lines (by decide)
  rw [State.line, e, Tab.get_mapIdx _ _ hn]
  rfl

theorem State.superframe_talkRow (levels : Tab Bool 8) {r : Nat} (hr : r < 4) :
    (s.superframe levels).talkRow r = (s.talkRow r).boundary := by
  have e : (s.superframe levels).talk = { s.talk with register := s.talk.register.map TalkRow.boundary } := by
    unfold State.superframe
    exact State.pulseStrobe_onlyIn.at .talk (by decide)
  rw [State.talkRow, e, Tab.get_map _ _ hr]
  rfl

theorem State.superframe_entry (levels : Tab Bool 8) (hi : i < 64) :
    (s.superframe levels).entry i = (s.entry i).countDown := by
  have pulse (u : State) : u.pulseStrobe.entry i = u.entry i := by
    unfold State.pulseStrobe
    split <;> rfl
  unfold State.superframe
  rw [pulse]
  exact Tab.get_map _ _ hi

theorem State.superframe_span (levels : Tab Bool 8) : (s.superframe levels).span p = (s.span p).boundary := by
  cases p <;> simp only [State.span, State.superframe_ring]

theorem State.superframe_strobe (levels : Tab Bool 8) (hs : s.isStage = true) :
    (s.superframe levels).preamp.strobe = some (s.timing.superframe % 16) := by
  have pulse (u : State) (hu : u.isStage = true) : u.pulseStrobe.preamp.strobe = some (u.timing.superframe % 16) := by
    rw [State.pulseStrobe, if_pos hu]
    rfl
  unfold State.superframe
  exact pulse _ hs

/-! ### The wrap from frame 47 (R24) -/

/-- From frame 47 the boundary takes what stands due, steps into frame 0 and counts the superframe (assumption log, entry 5). -/
theorem State.superframeBoundary_eq (levels : Tab Bool 8) (hrun : s.timing.running = true) (howed : s.timing.frameOwed = false)
    (hf : s.timing.frame = 47) : s.superframeBoundary levels = s.settle.advanced.superframe levels := by
  have due : (s.timing.running && !s.timing.frameOwed && s.timing.frame == 47) = true := by simp [hrun, howed, hf]
  have wrap (u : State) (hu : u.timing.frame = 47) :
      (if u.advanced.timing.frame = 0 then u.advanced.superframe levels else u.advanced) = u.advanced.superframe levels := by
    refine if_pos ?_
    rw [State.advanced_timing]
    simp [Timing.advance, hu]
  rw [State.superframeBoundary, if_pos due, State.begin]
  exact wrap _ (State.settle_same.frame.trans hf)

/-! ### What a boundary makes of the records it counts down -/

theorem Line.sample_function (x : Line) (b : Bool) : (x.sample b).function = x.function := by
  unfold Line.sample
  split <;> rfl

/-- One sample of a TALK_BUTTON line (R165). -/
theorem Line.sample_talk {x : Line} {k : Fin 8} (h : x.function = .talkButton k) (b : Bool) :
    (x.sample b).sampled = some b ∧ (x.sample b).pressed = x.pressed
      ∧ (x.sample b).changes = if b = x.pressed then 0 else min (x.changes + 1) 4 := by
  simp [Line.sample, h]

theorem Span.running_defect {x : Span} (h : x.state = .defect) (hh : 0 < x.holdoff) : x.running := by
  refine ⟨fun k => by omega, fun k => ?_, ?_⟩
  · rw [h] at k; exact absurd k.1 nofun
  · rw [h]; exact nofun

theorem Span.running_restoring {x : Span} (h : x.state = .restoring) (hh : 0 < x.restore) : x.running := by
  refine ⟨fun k => ?_, fun k => by omega, ?_⟩
  · rw [h] at k; exact absurd k.1 nofun
  · rw [h]; exact nofun

theorem Span.boundary_defect {x : Span} (h : x.state = .defect) : x.boundary = { x with holdoff := x.holdoff - 1 } := by
  simp [Span.boundary, h]

theorem Span.boundary_restoring {x : Span} (h : x.state = .restoring) (hr : x.ready = false) :
    x.boundary = { x with restore := x.restore - 1 } := by
  simp [Span.boundary, h, hr]

/-- What the wrap makes of a state in frame 47 whose due expiries have been taken: its counts and timers. -/
structure Wrapped (s t : State) (levels : Tab Bool 8) : Prop where
  timing : t.timing = s.timing.advance
  isolation : t.members.isolation = if t.ring.state = .isolated then min (s.members.isolation + 1) 8 else 0
  owed : t.members.isolationOwed = true ↔ s.members.isolation < 8 ∧ t.members.isolation = 8
  grants : ∀ k, k < 6 → t.members.grants.get k = none
  line : ∀ n, n < 8 → ∃ b, t.line n = { s.line n with output := b }.sample (levels.get n)
  span : ∀ p, t.span p = (s.span p).boundary
  entry : ∀ n, n < 64 → t.entry n = (s.entry n).countDown
  talkRow : ∀ r, r < 4 → t.talkRow r = (s.talkRow r).boundary
  strobe : s.isStage = true → t.preamp.strobe = some (t.timing.superframe % 16)

theorem wrapped_superframe (levels : Tab Bool 8) : Wrapped s (s.advanced.superframe levels) levels := by
  have members := State.superframe_members (s := s.advanced) levels
  have before : s.advanced.members = s.members := State.advanced_elsewhere.at .members (by decide)
  have ring : (s.advanced.superframe levels).ring.state = s.advanced.ring.state := by rw [State.superframe_ring]
  have count : (s.advanced.superframe levels).members.isolation =
      if (s.advanced.superframe levels).ring.state = .isolated then min (s.members.isolation + 1) 8 else 0 := by
    rw [members, ring, ← before]
    rfl
  refine ⟨?_, count, ?_, fun k hk => ?_, fun n hn => ?_, fun p => ?_, fun n hn => ?_, fun r hr => ?_, fun hs => ?_⟩
  · rw [State.superframe_timing, State.advanced_timing]
  · rw [members]
    simp only [State.isolationReached, before, Bool.and_eq_true, decide_eq_true_eq, beq_iff_eq]
  · rw [members]
    exact Tab.get_fill _ hk
  · exact ⟨_, by rw [State.superframe_line levels hn, State.advanced_line hn]⟩
  · rw [State.superframe_span, State.advanced_span]
  · rw [State.superframe_entry levels hn, State.advanced_entry]
  · have talk : s.advanced.talk = s.talk := State.advanced_elsewhere.at .talk (by decide)
    rw [State.superframe_talkRow levels hr, State.talkRow, talk]
    rfl
  · have straps : s.advanced.straps = s.straps := State.advanced_elsewhere.at .straps (by decide)
    rw [State.superframe_strobe levels (by rw [State.isStage, straps]; exact hs), State.superframe_timing]

/-- Settles O14: what stands due leaves each of these timers as it was, and the boundary's counting then moves it. -/
theorem superframeBoundaryCounts : Obligations.SuperframeBoundaryCounts := by
  intro levels s
  refine ⟨fun hrun howed hf => ⟨s.superframeBoundary levels, rfl, ?_⟩, fun hf => ?_⟩
  · have same := State.settle_same (s := s)
    have stage : s.settle.isStage = s.isStage := by
      have e : s.settle.straps = s.straps := OnlyIn.at (l := [.ring, .present, .lines, .notices, .counters, .timing, .members,
        .service, .preamp, .talk, .image, .plan, .tracking]) (by simp) .straps (by decide)
      rw [State.isStage, State.isStage, e]
    have lines (n : Nat) (hn : n < 8) (hc : (s.line n).changes ≠ 4) :
        s.settle.line n = { s.line n with output := (s.settle.line n).output } := (settleKeeps_line hn hc).settle rfl
    have spans (p : Side) (hp : (s.span p).running) : s.settle.span p = s.span p := (settleKeeps_span hp).settle rfl
    have owners (n : Nat) (hn : n < 64) (hs : (s.entry n).ownerState = .grace) (hg : (s.entry n).grace ≠ 0) :
        s.settle.ownership n = s.ownership n := (settleKeeps_ownership (o := s.ownership n) hn hs hg).settle rfl
    have talk (ho : s.members.isolationOwed = false) (hl : ∀ n, n < 8 → (s.line n).changes ≠ 4)
        (ht : ∀ r, r < 4 → (s.talkRow r).timer ≠ some 0) : s.settle.talk = s.talk :=
      ((settleKeeps_talk (x := s.talk) ht).settle ⟨rfl, ho, hl⟩).1
    have wrapped := wrapped_superframe (s := s.settle) levels
    rw [State.superframeBoundary_eq levels hrun howed hf]
    generalize s.settle.advanced.superframe levels = t at wrapped ⊢
    generalize s.settle = u at same stage lines spans owners talk wrapped
    refine ⟨?_, ?_, ?_, ?_, fun n k hn hfun => ?_, ?_, fun n k hn hfun hc => ?_, fun p hd hh => ?_, fun p hr hready hh => ?_,
      fun n hn ho hg hpos => ?_, fun howed hlines htimers r hr => ?_, fun hs => wrapped.strobe (stage.trans hs),
      fun _ => wrapped.grants⟩
    · rw [wrapped.timing]
      simp [Timing.advance, same.frame, hf]
    · rw [wrapped.timing]
      simp [Timing.advance, same.frame, same.superframe, hf, sfAdd]
    · rw [wrapped.timing]
      rfl
    · rw [wrapped.isolation, same.isolation]
    · obtain ⟨b, e⟩ := wrapped.line n hn
      rw [e, Line.sample_function] at hfun
      rw [e]
      exact (Line.sample_talk hfun _).1
    · rw [wrapped.owed, same.isolation]
    · obtain ⟨b, e⟩ := wrapped.line n hn
      rw [lines n hn hc] at e
      obtain ⟨-, hp, hch⟩ := Line.sample_talk (x := { s.line n with output := b }) hfun (levels.get n)
      rw [e]
      exact ⟨hp, hch⟩
    · rw [wrapped.span, spans p (Span.running_defect hd hh), Span.boundary_defect hd]
    · rw [wrapped.span, spans p (Span.running_restoring hr hh), Span.boundary_restoring hr hready]
    · have kept := owners n hn hg (by omega)
      have owner : (u.entry n).owner = (s.entry n).owner := congrArg Ownership.owner kept
      have state : (u.entry n).ownerState = (s.entry n).ownerState := congrArg Ownership.state kept
      have grace : (u.entry n).grace = (s.entry n).grace := congrArg Ownership.grace kept
      rw [wrapped.entry n hn, PreampEntry.countDown, owner, state, if_pos ⟨ho, hg⟩]
      exact ⟨hg, by rw [← grace]⟩
    · have row : u.talkRow r = s.talkRow r := by rw [State.talkRow, talk howed hlines htimers, State.talkRow]
      rw [wrapped.talkRow r hr, row]
      rfl
  · show Host.Outcome.next (s.superframeBoundary levels) = .next s
    rw [State.superframeBoundary, if_neg]
    simp [hf]

end Sys2Proof.Machine
end

section
/-! The lane arbiter: whom it awards, and how many entries each node gets (R41). -/

namespace Sys2Proof.Machine

variable {a : Arbiter} {w : NodeId} {n k : Nat}

/-! ### Whom it awards -/

/-- A node with a level left, of the highest rank among those of a list. -/
def Arbiter.Leads (a : Arbiter) (l : List NodeId) (w : NodeId) : Prop :=
  0 < a.levels.get w.val ∧ ∀ n ∈ l, 0 < a.levels.get n.val → a.ranks.get n.val ≤ a.ranks.get w.val

/-- What the arbiter knows once it has looked at the nodes of a list: none has a level left, or one of them leads. -/
def Arbiter.Best (a : Arbiter) (l : List NodeId) (best : Option NodeId) : Prop :=
  (best = none ∧ ∀ n ∈ l, a.levels.get n.val = 0) ∨ ∃ w, best = some w ∧ a.Leads l w

/-- One more node looked at. -/
def Arbiter.contend (a : Arbiter) (best : Option NodeId) (n : NodeId) : Option NodeId :=
  if a.levels.get n.val = 0 then best
  else if best.all fun b => decide (a.ranks.get b.val < a.ranks.get n.val) then some n else best

theorem Arbiter.winner_eq (a : Arbiter) : a.winner = (List.finRange 4).foldl a.contend none := by
  unfold Arbiter.winner
  congr 1
  funext best n
  cases best <;> simp [Arbiter.contend]

theorem Arbiter.Best.contend {l : List NodeId} {best : Option NodeId} (h : a.Best l best) (n : NodeId) :
    a.Best (l ++ [n]) (a.contend best n) := by
  unfold Arbiter.contend
  by_cases h0 : a.levels.get n.val = 0
  · rw [if_pos h0]
    rcases h with ⟨e, hl⟩ | ⟨w, e, hw, hl⟩
    · refine .inl ⟨e, fun m hm => ?_⟩
      rcases List.mem_append.mp hm with hm | hm
      · exact hl m hm
      · rwa [List.mem_singleton.mp hm]
    · refine .inr ⟨w, e, hw, fun m hm hp => ?_⟩
      rcases List.mem_append.mp hm with hm | hm
      · exact hl m hm hp
      · rw [List.mem_singleton.mp hm] at hp
        omega
  · rw [if_neg h0]
    rcases h with ⟨rfl, hl⟩ | ⟨w, rfl, hw, hl⟩
    · refine .inr ⟨n, rfl, by omega, fun m hm hp => ?_⟩
      rcases List.mem_append.mp hm with hm | hm
      · have := hl m hm
        omega
      · rw [List.mem_singleton.mp hm]
    · by_cases hlt : a.ranks.get w.val < a.ranks.get n.val
      · rw [if_pos (by simpa using hlt)]
        refine .inr ⟨n, rfl, by omega, fun m hm hp => ?_⟩
        rcases List.mem_append.mp hm with hm | hm
        · exact (hl m hm hp).trans hlt.le
        · rw [List.mem_singleton.mp hm]
      · rw [if_neg (by simpa using hlt)]
        refine .inr ⟨w, rfl, hw, fun m hm hp => ?_⟩
        rcases List.mem_append.mp hm with hm | hm
        · exact hl m hm hp
        · rw [List.mem_singleton.mp hm]
          omega

theorem Arbiter.Best.foldl (r : List NodeId) {l : List NodeId} {best : Option NodeId} (h : a.Best l best) :
    a.Best (l ++ r) (r.foldl a.contend best) := by
  induction r generalizing l best with
  | nil => simpa using h
  | cons n r ih => simpa using ih (h.contend n)

theorem Arbiter.winner_best (a : Arbiter) : a.Best (List.finRange 4) a.winner := by
  rw [Arbiter.winner_eq]
  exact (show a.Best [] none from .inl ⟨rfl, by simp⟩).foldl _

/-- Without a level left nobody is awarded (R41). -/
theorem Arbiter.winner_none : a.winner = none ↔ ∀ n, n < 4 → a.levels.get n = 0 := by
  rcases a.winner_best with ⟨e, h⟩ | ⟨w, e, h, _⟩
  · exact iff_of_true e fun n hn => h ⟨n, hn⟩ (List.mem_finRange _)
  · refine iff_of_false (by simp [e]) fun h0 => ?_
    have := h0 w.val w.isLt
    omega

theorem Arbiter.winner_leads (h : a.winner = some w) : a.Leads (List.finRange 4) w := by
  rcases a.winner_best with ⟨e, _⟩ | ⟨x, e, hx⟩
  · simp [e] at h
  · rw [e, Option.some.injEq] at h
    exact h ▸ hx

/-- No two nodes hold one rank, so the node of highest rank among those with a level left is the one awarded (R41). -/
theorem Arbiter.winner_of_leads (hp : a.ranks.toList.Perm [0, 1, 2, 3]) (h : a.Leads (List.finRange 4) w) :
    a.winner = some w := by
  obtain ⟨_, inj⟩ := (ranksPerm_iff a.ranks).mp hp
  rcases a.winner_best with ⟨_, h0⟩ | ⟨x, e, hx⟩
  · have := h0 w (List.mem_finRange _)
    have := h.1
    omega
  · have le₁ := h.2 x (List.mem_finRange _) hx.1
    have le₂ := hx.2 w (List.mem_finRange _) h.1
    rw [e, Fin.ext (inj x.val w.val x.isLt w.isLt (by omega))]

theorem Arbiter.fill_some (h : a.winner = some w) (k : Nat) :
    Arbiter.fill (k + 1) a = (some w :: (Arbiter.fill k (a.award w)).1, (Arbiter.fill k (a.award w)).2) := by
  rw [Arbiter.fill, h]

theorem Arbiter.fill_none (h : a.winner = none) (k : Nat) :
    Arbiter.fill (k + 1) a = (none :: (Arbiter.fill k a).1, (Arbiter.fill k a).2) := by
  rw [Arbiter.fill, h]

/-! ### How many entries each node gets -/

theorem Tab.sum_four (t : Tab Nat 4) : t.toList.sum = t.get 0 + t.get 1 + t.get 2 + t.get 3 := by
  obtain ⟨l, hl⟩ := t
  rcases l with _ | ⟨a, _ | ⟨b, _ | ⟨c, _ | ⟨d, _ | _⟩⟩⟩⟩ <;> simp at hl
  simp [Tab.get]
  omega

theorem Arbiter.award_level (a : Arbiter) (w n : NodeId) :
    (a.award w).levels.get n.val = if n = w then a.levels.get n.val - 1 else a.levels.get n.val := by
  rw [Arbiter.award_eq a.levels a.ranks w, Tab.get_ofFn _ n.isLt]
  simp [Fin.ext_iff]

/-- An award takes one off the levels left. -/
theorem Arbiter.award_sum (h : 0 < a.levels.get w.val) : (a.award w).levels.toList.sum + 1 = a.levels.toList.sum := by
  have e (n : NodeId) := a.award_level w n
  have e0 := e 0
  have e1 := e 1
  have e2 := e 2
  have e3 := e 3
  simp only [Fin.val_zero, Fin.val_one, Fin.val_two, show ((3 : Fin 4) : Nat) = 3 from rfl] at e0 e1 e2 e3
  rw [Tab.sum_four, Tab.sum_four, e0, e1, e2, e3]
  have k : ∀ w : NodeId, w = 0 ∨ w = 1 ∨ w = 2 ∨ w = 3 := by decide
  rcases k w with rfl | rfl | rfl | rfl <;> simp at h ⊢ <;> omega

theorem Arbiter.fill_length (k : Nat) (a : Arbiter) : (Arbiter.fill k a).1.length = k := by
  induction k generalizing a with
  | zero => rfl
  | succ k ih =>
    cases h : a.winner with
    | none => rw [Arbiter.fill_none h, List.length_cons, ih]
    | some w => rw [Arbiter.fill_some h, List.length_cons, ih]

/-- Each node is granted at most as many entries as its level. -/
theorem Arbiter.fill_count (k : Nat) (a : Arbiter) (n : NodeId) :
    (Arbiter.fill k a).1.count (some n) ≤ a.levels.get n.val := by
  induction k generalizing a with
  | zero => simp [Arbiter.fill]
  | succ k ih =>
    cases h : a.winner with
    | none => simpa [Arbiter.fill_none h] using ih a
    | some w =>
      have step := ih (a.award w)
      have pos := (Arbiter.winner_leads h).1
      rw [Arbiter.award_level] at step
      rw [Arbiter.fill_some h, List.count_cons]
      by_cases e : n = w
      · subst e
        simp only [if_true] at step
        simp only [beq_self_eq_true, if_true]
        omega
      · simpa [e, Ne.symm e] using step

/-- Entries stay empty only for want of levels. -/
theorem Arbiter.fill_count_none (k : Nat) (a : Arbiter) :
    (Arbiter.fill k a).1.count none = k - a.levels.toList.sum := by
  induction k generalizing a with
  | zero => simp [Arbiter.fill]
  | succ k ih =>
    cases h : a.winner with
    | none =>
      have z := Arbiter.winner_none.mp h
      have sum : a.levels.toList.sum = 0 := by
        rw [Tab.sum_four, z 0 (by decide), z 1 (by decide), z 2 (by decide), z 3 (by decide)]
      rw [Arbiter.fill_none h, List.count_cons_self, ih, sum]
      rfl
    | some w =>
      have sum := Arbiter.award_sum (Arbiter.winner_leads h).1
      rw [Arbiter.fill_some h, List.count_cons_of_ne (by simp), ih]
      omega

/-- The first entry is the leader's. -/
theorem Arbiter.fill_head (h : (Arbiter.fill (k + 1) a).1.head? = some (some w)) : a.Leads (List.finRange 4) w := by
  cases e : a.winner with
  | none => simp [Arbiter.fill_none e] at h
  | some x =>
    rw [Arbiter.fill_some e, List.head?_cons, Option.some.injEq, Option.some.injEq] at h
    exact h ▸ Arbiter.winner_leads e

end Sys2Proof.Machine
end

section
/-! What a good primary frame finds at a side whose span is GOOD and without defect: the state its traffic is taken in (R8, R45 to
R48). -/

namespace Sys2Proof.Machine

variable {l : List Group} {s t u v : State} {p q : Side}

/-! ### What stays until the traffic is taken -/

/-- What an event may touch before a frame's traffic is taken. -/
def steadyGroups : List Group := [.portE, .portW, .timing, .ring, .present, .lines, .notices, .counters]

/-- What the traffic of a frame turns on is as it was: clock and ring state may have moved. -/
structure Steady (s u : State) : Prop where
  only : OnlyIn steadyGroups s u
  counters : CountersOutside [.noticesLost] s u
  timing : u.timing = { s.timing with clock := u.timing.clock }
  slots : u.present.slots = s.present.slots
  delay : u.present.delay = s.present.delay
  spans : ∀ q, u.span q = s.span q
  sends : ∀ q, (u.port q).tx = (s.port q).tx
  locks : ∀ q, (u.port q).lock = (s.port q).lock
  loops : ∀ q, (u.port q).loop = (s.port q).loop

theorem Steady.trans (h : Steady s u) (k : Steady u v) : Steady s v where
  only := h.only.trans k.only
  counters c hc := (k.counters c hc).trans (h.counters c hc)
  timing := by rw [k.timing, h.timing]
  slots := k.slots.trans h.slots
  delay := k.delay.trans h.delay
  spans q := (k.spans q).trans (h.spans q)
  sends q := (k.sends q).trans (h.sends q)
  locks q := (k.locks q).trans (h.locks q)
  loops q := (k.loops q).trans (h.loops q)

/-- What leaves these groups alone but notices keeps all of it. -/
theorem Steady.quiet (h : OnlyIn [.notices, .lines, .counters] s u) (hc : CountersOutside [.noticesLost] s u) : Steady s u := by
  have port (q : Side) : u.port q = s.port q := h.port_eq (by cases q <;> decide)
  have timing : u.timing = s.timing := h.at .timing (by decide)
  have present : u.present = s.present := h.at .present (by decide)
  exact
    { only := h.mono (by decide), counters := hc, timing := by rw [timing], slots := by rw [present], delay := by rw [present]
      spans := fun q => h.span_eq (by decide), sends := fun q => by rw [port], locks := fun q => by rw [port]
      loops := fun q => by rw [port] }

theorem Steady.refl : Steady s s := .quiet .refl fun _ _ => rfl

/-- A port whose frame, lock state and loop mode stay. -/
theorem Steady.setPort {x : Port} (ht : x.tx = (s.port p).tx) (hl : x.lock = (s.port p).lock) (ho : x.loop = (s.port p).loop) :
    Steady s (s.setPort p x) := by
  have port (q : Side) : (s.setPort p x).port q = if q = p then x else s.port q := by
    split
    · next e => rw [e, State.setPort_port_same]
    · next e => rw [State.setPort_port_ne _ e]
  have o : OnlyIn [portGroup p] s (s.setPort p x) := by simp
  have timing : (s.setPort p x).timing = s.timing := o.at .timing (by cases p <;> decide)
  refine { only := o.mono (by cases p <;> decide), counters := fun c _ => State.counter_setPort x c, timing := by rw [timing],
           slots := by simp, delay := by simp, spans := fun q => by simp, sends := ?_, locks := ?_, loops := ?_ }
  all_goals
    intro q
    rw [port]
    split
    · next e => rw [e]; assumption
    · rfl

theorem Steady.setFlags (x : PortFlags) : Steady s (s.setFlags p x) := by
  unfold State.setFlags
  dsimp only
  split
  · refine .trans (.setPort ?_ ?_ ?_) (.quiet (by simp) fun _ _ => rfl) <;> rfl
  · exact .refl

theorem State.startDelay_present : s.startDelay.present =
    { s.present with delayNext := s.startDelay.present.delayNext, delayStarted := s.startDelay.present.delayStarted } := by
  unfold State.startDelay
  (repeat' split) <;> rfl

theorem Steady.setRingState (x : RingState) : Steady s (s.setRingState x) := by
  have o : OnlyIn [.ring, .present, .lines, .notices] s (s.setRingState x) := by simp [State.setRingState]
  have port (q : Side) : (s.setRingState x).port q = s.port q := o.port_eq (by cases q <;> decide)
  have present : (s.setRingState x).present = (s.setRing { s.ring with state := x }).startDelay.present := by
    have k (u : State) (a b c) : OnlyIn [.lines, .notices] u ((u.raise a b c).driveLines) := by simp
    unfold State.setRingState
    exact (k _ _ _ _).at .present (by decide)
  have ring := State.setRingState_ring (s := s) x
  exact
    { only := o.mono (by decide), counters := fun c _ => o.counter_eq (by decide) c
      timing := by rw [show (s.setRingState x).timing = s.timing from o.at .timing (by decide)]
      slots := by rw [present, State.startDelay_present]; rfl
      delay := by rw [present, State.startDelay_present]; rfl
      spans := fun q => by cases q <;> simp [State.span, ring]
      sends := fun q => by rw [port], locks := fun q => by rw [port], loops := fun q => by rw [port] }

theorem Steady.redetermine : Steady s s.redetermine := by
  unfold State.redetermine
  split
  · exact .refl
  · exact .setRingState _

theorem Steady.unlocked : Steady s s.unlocked := by
  unfold State.unlocked
  split
  · have o : OnlyIn [.timing, .notices] s (s.setClock .holdover) := by
      unfold State.setClock
      split <;> simp
    have port (q : Side) : (s.setClock .holdover).port q = s.port q := o.port_eq (by cases q <;> decide)
    have present : (s.setClock .holdover).present = s.present := o.at .present (by decide)
    exact
      { only := o.mono (by decide), counters := fun c _ => o.counter_eq (by decide) c
        timing := by rw [State.setClock_timing], slots := by rw [present], delay := by rw [present]
        spans := fun q => o.span_eq (by decide), sends := fun q => by rw [port], locks := fun q => by rw [port]
        loops := fun q => by rw [port] }
  · exact .refl

/-- The expiry of the master-absence count moves clock and ring state alone (R35, R62). -/
theorem Steady.absenceExpiry : Steady s s.absenceExpiry := by
  unfold State.absenceExpiry
  split
  · exact Steady.trans (u := s.unlocked) .unlocked .redetermine
  · exact .refl

theorem Steady.setRaised (x : List Raised) : Steady s (s.setRaised x) := .quiet (by simp) fun _ _ => rfl

theorem Steady.event {f : State → State} (hf : ∀ u, Steady u (f u)) : Steady s (s.event f) := by
  have e := State.event_ended (s := s) f
  exact (Steady.trans (.setRaised []) (hf _)).trans (.quiet (e.only.mono (by decide)) e.counters)

theorem Steady.keepReceived (period : List Byte) : Steady s (s.keepReceived p period) := by
  unfold State.keepReceived
  split
  · exact .setPort rfl rfl rfl
  · exact .refl

/-! ### A side without a defect (R45 to R49) -/

theorem State.setSpan_self (p : Side) : s.setSpan p (s.span p) = s := by cases p <;> rfl

/-- A locked, unlooped port that hears neither its own node nor of a fault beyond (R46). -/
theorem State.no_defect (hlock : (s.port p).lock = .locked) (hloop : (s.port p).loop = .off)
    (hecho : (s.span p).partner ≠ some s.id) (hready : (s.span p).partnerReady = false)
    (hfar : (s.port p).flags.farFault = false) : s.defect p = false := by
  simp [State.defect, State.localDefect, State.remoteDefect, State.echo, Port.looped, hlock, hloop, hecho, hready, hfar]

/-- The ring controller's share of a primary frame on a GOOD span without a defect: the ring state alone (R45, R46, R48). -/
theorem State.control_good (hg : (s.span p).state = .good) (hr : (s.span p).partnerReady = false) (hd : s.defect p = false)
    (h : Header) (slots : Tab Sample 128) (lane : Lane) : Steady s (s.control p (.primary h slots lane)) := by
  have partner : s.updatePartner p (.primary h slots lane) = s := by
    unfold State.updatePartner
    dsimp only
    split
    · rw [show { s.span p with partnerReady := false } = s.span p by rw [← hr], State.setSpan_self]
    · rfl
  have react : s.react p = s := by
    rw [State.react, hd]
    simp only [Span.react, hg]
    exact s.setSpan_self p
  have evaluate : Steady s (s.evaluate p) := by
    unfold State.evaluate State.examine
    rw [react, react]
    split
    · exact .refl
    · exact .redetermine
  have naming : (s.evaluate p).nameUnwrap p = s.evaluate p := by
    unfold State.nameUnwrap
    dsimp only
    rw [evaluate.spans p, hg]
    split <;> simp
  unfold State.control
  rwa [partner, naming]

/-- The state in which a primary frame's traffic is taken, where nothing is wrong with its side (R8, R45, R46). -/
theorem State.delivered_steady {h : Header} {slots : Tab Sample 128} {lane : Lane}
    (hlock : (s.port p).lock = .locked) (hloop : (s.port p).loop = .off) (hgood : (s.span p).state = .good)
    (hecho : (s.span p).partner ≠ some s.id) (hready : (s.span p).partnerReady = false) (hfar : h.farFault = false) :
    Steady s (s.delivered p (.primary h slots lane)) := by
  have port : Steady s (s.setPort p { s.port p with lock := .locked, reference := none, badRun := 0 }) :=
    .setPort rfl hlock.symm rfl
  have flags : Steady s ((s.setPort p { s.port p with lock := .locked, reference := none, badRun := 0 }).setFlags p
      ⟨(s.port p).flags.light, true, h.farFault, h.turned⟩) := port.trans (.setFlags _)
  have id : ((s.setPort p { s.port p with lock := .locked, reference := none, badRun := 0 }).setFlags p
      ⟨(s.port p).flags.light, true, h.farFault, h.turned⟩).id = s.id := by
    rw [State.id, show _ = s.straps from flags.only.at .straps (by decide)]
    rfl
  refine flags.trans (State.control_good (by rw [flags.spans, hgood]) (by rw [flags.spans, hready])
    (State.no_defect (by rw [flags.locks, hlock]) (by rw [flags.loops, hloop]) (by rw [flags.spans, id]; exact hecho)
      (by rw [flags.spans, hready]) (by rw [State.setFlags_port]; exact hfar)) h slots lane)

/-- A good primary frame at a locked, unlooped port whose span is GOOD and without a defect is taken as traffic in a state that
agrees with the one before on all that the traffic turns on (R8, R46, R57). -/
theorem receiveFrame_taken {h : Header} {slots : Tab Sample 128} {lane : Lane} {period : List Byte}
    (hlisten : (s.port p).listens) (hlock : (s.port p).lock = .locked) (hloop : (s.port p).loop = .off)
    (hgood : (s.span p).state = .good) (hecho : (s.span p).partner ≠ some s.id) (hready : (s.span p).partnerReady = false)
    (hj : judgeFrame ((s.port p).hears period) = some (.primary h slots lane)) (hfar : h.farFault = false) :
    ∃ u t, exec (.receiveFrame p period) s = .next t ∧ Steady s u ∧ Ended (u.takeFrame p (.primary h slots lane)) t := by
  have steady : Steady s (((s.event State.absenceExpiry).keepReceived p period).setRaised []) :=
    ((Steady.event fun _ => .absenceExpiry).trans (.keepReceived period)).trans (.setRaised [])
  have judged := (Judging.absence p s).received_kept period
  obtain ⟨v, hv, hstate⟩ : ∃ v, (s.event State.absenceExpiry).keepReceived p period = v ∧ v.port p =
      { s.port p with received := (v.port p).received } := ⟨_, rfl, judged.port⟩
  rw [hv] at steady
  have flags : (v.port p).flags = (s.port p).flags := by rw [hstate]
  have bytes : (v.port p).receiverBytes (period.take 407) = (s.port p).hears period := by rw [hstate]; rfl
  have enabled : (s.port p).enabled = true := hlisten.1
  have light : (v.port p).flags.light = true := by rw [flags]; exact hlisten.2
  have run : s.receivePeriod p period = v.event (·.receive p ((s.port p).hears period)) := by
    unfold State.receivePeriod
    simp only [hv, enabled, light, bytes, Bool.not_true, Bool.false_eq_true, if_false, if_true]
  generalize hw : v.setRaised [] = w at steady
  have lock : (w.port p).lock = .locked := (steady.locks p).trans hlock
  have loop : (w.port p).loop = .off := (steady.loops p).trans hloop
  have deliver : w.receive p ((s.port p).hears period) = (w.delivered p (.primary h slots lane)).takeFrame p
      (.primary h slots lane) := by
    rw [State.receive_delivers hj (.inl lock), State.deliver_eq, if_neg (by simp [Port.looped, loop])]
  have ended := State.event_ended (s := v) (·.receive p ((s.port p).hears period))
  rw [hw, deliver] at ended
  rw [← run] at ended
  exact ⟨_, _, rfl, steady.trans (State.delivered_steady lock loop (by rw [steady.spans, hgood])
    (by rw [steady.spans, State.id, show w.straps = s.straps from steady.only.at .straps (by decide)]; exact hecho)
    (by rw [steady.spans, hready]) hfar), ended⟩

end Sys2Proof.Machine
end

section
/-! The late-frame counter is moved by the filing of a ring frame alone (R77): what else happens as a frame is taken leaves it. -/

namespace Sys2Proof.Machine

variable {s t u : State} {p : Side} {k : CounterId}

/-- The late-frame counter. -/
def State.late (s : State) : Nat := s.counter .lateFrames

/-- What leaves the counters leaves this one. -/
theorem OnlyIn.late_eq {l : List Group} (h : OnlyIn l s t) (hc : .counters ∉ l) : t.late = s.late := h.counter_eq hc _

theorem forEach_late {f : Nat → State → State} (hf : ∀ i u, (f i u).late = u.late) (n : Nat) : (forEach n f s).late = s.late :=
  forEach_keeps (p := fun u => u.late = s.late) (f := f) (fun i u h => (hf i u).trans h) n rfl

theorem foldl_late {α : Type} {f : State → α → State} (hf : ∀ u a, (f u a).late = u.late) (q : List α) :
    (q.foldl f s).late = s.late := by
  induction q generalizing s with
  | nil => rfl
  | cons a q ih => exact ih.trans (hf s a)

/-! ### State operations -/

@[simp] theorem State.setService_late (x : Service) : (s.setService x).late = s.late := rfl
@[simp] theorem State.setMembers_late (x : Members) : (s.setMembers x).late = s.late := rfl
@[simp] theorem State.setPreamp_late (x : Preamp) : (s.setPreamp x).late = s.late := rfl
@[simp] theorem State.setTracking_late (x : Tracking) : (s.setTracking x).late = s.late := rfl
@[simp] theorem State.setPlan_late (x : Plan) : (s.setPlan x).late = s.late := rfl
@[simp] theorem State.setPresent_late (x : Present) : (s.setPresent x).late = s.late := rfl
@[simp] theorem State.setTiming_late (x : Timing) : (s.setTiming x).late = s.late := rfl
@[simp] theorem State.setImage_late (x : Image) : (s.setImage x).late = s.late := rfl
@[simp] theorem State.setRaised_late (x : List Raised) : (s.setRaised x).late = s.late := rfl
@[simp] theorem State.setRing_late (x : Ring) : (s.setRing x).late = s.late := rfl
@[simp] theorem State.raise_late (a b c) : (s.raise a b c).late = s.late := rfl
@[simp] theorem State.driveLines_late : (s.driveLines).late = s.late := rfl
@[simp] theorem State.setEntry_late (n e) : (s.setEntry n e).late = s.late := rfl
@[simp] theorem State.setStepQueue_late (q) : (s.setStepQueue q).late = s.late := rfl
@[simp] theorem State.pushWork_late (c) : (s.pushWork c).late = s.late := rfl
@[simp] theorem State.pushOutbound_late (c) : (s.pushOutbound c).late = s.late := rfl
@[simp] theorem State.pushConsole_late (c) : (s.pushConsole c).late = s.late := rfl
@[simp] theorem State.setRow_late (c r) : (s.setRow c r).late = s.late := rfl

theorem State.bump_late (h : CounterId.lateFrames ≠ k) : (s.bump k).late = s.late := State.counter_bump_ne h

@[simp] theorem State.bump_cellErrors_late : (s.bump .cellErrors).late = s.late := State.bump_late (by decide)
@[simp] theorem State.bump_cellDiscards_late : (s.bump .cellDiscards).late = s.late := State.bump_late (by decide)
@[simp] theorem State.bump_consoleDiscards_late : (s.bump .consoleDiscards).late = s.late := State.bump_late (by decide)
@[simp] theorem State.bump_converterFaults_late : (s.bump .converterFaults).late = s.late := State.bump_late (by decide)

/-! ### The lanes (R37 to R39, R89 to R92) -/

@[simp] theorem State.answerHost_late (c r) : (s.answerHost c r).late = s.late := by
  unfold State.answerHost
  (repeat' split) <;> simp

@[simp] theorem State.workIntake_late (c) : (s.workIntake c).late = s.late := by
  unfold State.workIntake
  (repeat' split) <;> simp

@[simp] theorem State.consoleIntake_late (c) : (s.consoleIntake c).late = s.late := by
  unfold State.consoleIntake
  (repeat' split) <;> simp

@[simp] theorem State.routeRing_late (c) : (s.routeRing c).late = s.late := by
  unfold State.routeRing
  (repeat' split) <;> simp

@[simp] theorem State.relayTake_late (w c) : (s.relayTake w c).late = s.late := by
  unfold State.relayTake
  (repeat' split) <;> simp

@[simp] theorem State.takeRingCell_late (w b) : (s.takeRingCell w b).late = s.late := by
  unfold State.takeRingCell
  dsimp only
  (repeat' split) <;> simp

@[simp] theorem State.judgeParts_late (w q) : (s.judgeParts w q).late = s.late := by
  unfold State.judgeParts
  (repeat' split) <;> simp

@[simp] theorem State.judgeLane_late : (s.judgeLane).late = s.late := by
  simp [State.judgeLane]

@[simp] theorem State.judgeLate_late : (s.judgeLate).late = s.late := by
  unfold State.judgeLate
  (repeat' split) <;> simp

@[simp] theorem State.joinLane_late (n x) : (s.joinLane n x).late = s.late := by
  unfold State.joinLane
  (repeat' split) <;> simp

@[simp] theorem State.joinReturn_late (m n x) : (s.joinReturn m n x).late = s.late := by
  unfold State.joinReturn
  (repeat' split) <;> simp

@[simp] theorem State.takeLane_late (m n x) : (s.takeLane m n x).late = s.late := by
  unfold State.takeLane
  (repeat' split) <;> simp

@[simp] theorem State.refuseHost_late (c) : (s.refuseHost c).late = s.late := by
  simp [State.refuseHost]

@[simp] theorem State.hostAll_late (c) : (s.hostAll c).late = s.late := by
  unfold State.hostAll
  (repeat' split) <;> simp

@[simp] theorem State.hostOther_late (c d) : (s.hostOther c d).late = s.late := by
  unfold State.hostOther
  (repeat' split) <;> simp

@[simp] theorem State.takeHostCell_late (c) : (s.takeHostCell c).late = s.late := by
  unfold State.takeHostCell
  (repeat' split) <;> simp

@[simp] theorem State.judgeConsole_late (b) : (s.judgeConsole b).late = s.late := by
  unfold State.judgeConsole
  (repeat' split) <;> simp

@[simp] theorem State.consoleCell_late : (s.consoleCell).late = s.late := by
  unfold State.consoleCell
  dsimp only
  (repeat' split) <;> simp

@[simp] theorem State.laneJump_late (m n) : (s.laneJump m n).late = s.late := by
  unfold State.laneJump
  dsimp only
  (repeat' split) <;> simp

/-! ### Preamplifiers (R110 to R118) -/

@[simp] theorem State.raiseOwner_late (n c) : (s.raiseOwner n c).late = s.late := by
  rfl

@[simp] theorem State.setOwner_late (n o x g c) : (s.setOwner n o x g c).late = s.late := by
  rfl

@[simp] theorem State.createChange_late (n g r) : (s.createChange n g r).late = s.late := by
  rfl

@[simp] theorem State.promoteOne_late (n) : (State.promoteOne n s).late = s.late := by
  unfold State.promoteOne
  dsimp only
  (repeat' split) <;> simp

@[simp] theorem State.promote_late : (s.promote).late = s.late := by
  unfold State.promote
  split
  · exact forEach_late (fun i u => u.promoteOne_late i) _
  · rfl

@[simp] theorem State.trimCompensate_late (n c) : (s.trimCompensate n c).late = s.late := by
  unfold State.trimCompensate
  dsimp only
  (repeat' split) <;> simp

@[simp] theorem State.applyChange_late (n) : (s.applyChange n).late = s.late := by
  unfold State.applyChange
  (repeat' split) <;> simp

@[simp] theorem State.changeNow_late (n) : (s.changeNow n).late = s.late := by
  unfold State.changeNow
  (repeat' split) <;> simp

@[simp] theorem State.converterFault_late (c n) : (s.converterFault c n).late = s.late := by
  simp [State.converterFault, State.setConfirmed]

@[simp] theorem State.jumpChange_late (n) : (State.jumpChange n s).late = s.late := by
  unfold State.jumpChange
  dsimp only
  (repeat' split) <;> simp

@[simp] theorem State.preampJump_late : (s.preampJump).late = s.late := by
  have e : (forEach 64 State.jumpChange s).late = s.late := forEach_late (fun i u => u.jumpChange_late i) _
  unfold State.preampJump
  dsimp only
  (repeat' split) <;> simp [e]

/-! ### A node lost, back or demoted (R34) -/

@[simp] theorem State.ownerLost_late (n) : (s.ownerLost n).late = s.late := by
  unfold State.ownerLost
  refine forEach_late (fun i u => ?_) _
  dsimp only
  (repeat' split) <;> simp

@[simp] theorem State.ownerBack_late (n) : (s.ownerBack n).late = s.late := by
  unfold State.ownerBack
  refine forEach_late (fun i u => ?_) _
  dsimp only
  (repeat' split) <;> simp

@[simp] theorem State.ownerDemoted_late (n) : (s.ownerDemoted n).late = s.late := by
  unfold State.ownerDemoted
  refine forEach_late (fun i u => ?_) _
  (repeat' split) <;> simp

@[simp] theorem State.discardSteps_late (n) : (s.discardSteps n).late = s.late := by
  unfold State.discardSteps
  dsimp only
  (repeat' split) <;> simp

@[simp] theorem State.removedCell_late (c) : (s.removedCell c).late = s.late := by
  unfold State.removedCell
  (repeat' split) <;> simp

@[simp] theorem State.purgeOutbound_late (n) : (s.purgeOutbound n).late = s.late := by
  unfold State.purgeOutbound
  exact foldl_late (fun u c => u.removedCell_late c) _

@[simp] theorem State.abandonReport_late (n) : (s.abandonReport n).late = s.late := by
  unfold State.abandonReport
  (repeat' split) <;> simp

@[simp] theorem State.releaseTalk_late (i r) : (s.releaseTalk i r).late = s.late := by
  unfold State.releaseTalk
  dsimp only
  (repeat' split) <;> simp

@[simp] theorem State.releaseOfNode_late (n) : (s.releaseOfNode n).late = s.late := by
  unfold State.releaseOfNode forEachSource
  refine foldl_late (fun u i => ?_) _
  dsimp only
  (repeat' split) <;> simp

@[simp] theorem State.nodeLost_late (n) : (s.nodeLost n).late = s.late := by
  unfold State.nodeLost
  dsimp only
  (repeat' split) <;> simp

@[simp] theorem State.setReach_late (n r) : (s.setReach n r).late = s.late := by
  unfold State.setReach
  dsimp only
  (repeat' split) <;> simp

@[simp] theorem State.takeRoster_late (r) : (s.takeRoster r).late = s.late := by
  unfold State.takeRoster State.forOthers
  exact foldl_late (fun u n => u.setReach_late n _) _

@[simp] theorem State.takeLists_late (h : Header) : (s.takeLists h).late = s.late := by
  unfold State.takeLists
  (repeat' split) <;> simp

/-! ### The load of the counters (R35) -/

@[simp] theorem State.redetermine_late : (s.redetermine).late = s.late := by
  exact OnlyIn.late_eq (l := [.ring, .present, .lines, .notices]) (by simp) (by decide)

@[simp] theorem State.unwrapNow_late (q : Side) : (s.unwrapNow q).late = s.late := by
  refine OnlyIn.late_eq (l := [.ring, .present, .lines, .notices]) ?_ (by decide)
  unfold State.unwrapNow
  split <;> simp

@[simp] theorem State.swapNow_late : (s.swapNow).late = s.late := by
  unfold State.swapNow
  unfold State.raiseBank
  (repeat' split) <;> simp

@[simp] theorem State.swapJump_late (n) : (s.swapJump n).late = s.late := by
  unfold State.swapJump
  unfold State.raiseBank
  (repeat' split) <;> simp

@[simp] theorem State.reloadTimeout_late : (s.reloadTimeout).late = s.late := by
  exact OnlyIn.late_eq (l := [.preamp]) (by simp) (by decide)

@[simp] theorem State.startupReload_late (n) : (s.startupReload n).late = s.late := by
  exact OnlyIn.late_eq (l := [.preamp]) (by simp) (by decide)

@[simp] theorem State.pulseStrobe_late : (s.pulseStrobe).late = s.late := by
  exact OnlyIn.late_eq (l := [.preamp]) (by simp) (by decide)

@[simp] theorem State.trackJump_late : (s.trackJump).late = s.late := by
  exact OnlyIn.late_eq (l := [.tracking]) (by simp) (by decide)

@[simp] theorem State.presentJump_late : (s.presentJump).late = s.late := by
  rfl

@[simp] theorem State.setNumbers_late (m n) : (s.setNumbers m n).late = s.late := by
  exact OnlyIn.late_eq (l := [.timing, .members]) (by simp) (by decide)

@[simp] theorem State.reached_late : (s.reached).late = s.late := by
  unfold State.reached State.forSides
  rw [State.reloadTimeout_late, forEach_late fun i u => u.changeNow_late i]
  simp

@[simp] theorem State.jump_late (m n) : (s.jump m n).late = s.late := by
  unfold State.jump
  dsimp only
  (repeat' split) <;> simp

@[simp] theorem State.loadCounters_late (h : Header) : (s.loadCounters h).late = s.late := by
  unfold State.loadCounters
  (repeat' split) <;> simp

@[simp] theorem State.setClock_late (c) : (s.setClock c).late = s.late := by
  unfold State.setClock
  (repeat' split) <;> simp

@[simp] theorem State.clockLock_late (h : Header) : (s.clockLock h).late = s.late := by
  unfold State.clockLock
  dsimp only
  (repeat' split) <;> simp

@[simp] theorem State.masterSeen_late : (s.masterSeen).late = s.late := by
  simp [State.masterSeen]

@[simp] theorem State.takeReturn_late (h : Header) (x) : (s.takeReturn h x).late = s.late := by
  exact OnlyIn.late_eq (l := [.members]) (by simp) (by decide)

/-! ### Taking a cell (R36) -/

@[simp] theorem State.takeOutbound_late (n) : (s.takeOutbound n).late = s.late := by
  unfold State.takeOutbound
  unfold State.setLaneOut
  (repeat' split) <;> simp

@[simp] theorem State.takeWhole_late (n) : (s.takeWhole n).late = s.late := by
  unfold State.takeWhole
  unfold State.setLaneOut
  (repeat' split) <;> simp

@[simp] theorem State.takeCell_late (n) : (s.takeCell n).late = s.late := by
  unfold State.takeCell
  unfold State.setLaneOut
  (repeat' split) <;> simp

@[simp] theorem State.laneTurn_late (n) : (s.laneTurn n).late = s.late := by
  unfold State.laneTurn
  (repeat' split) <;> simp

end Sys2Proof.Machine
end

section
/-! How the filing of a ring frame follows from the state, whatever else the frame brings (R76, R77). -/

namespace Sys2Proof.Machine

variable {l : List Group} {s t u a : State} {p q : Side} {n : Nat} {x : Tab Sample 128}

/-- The filing of a slot turns on straps, members, plan, local count and D alone (R76, R77). -/
theorem State.filing_congr (hs : t.straps = s.straps) (hm : t.members = s.members) (hp : t.plan = s.plan)
    (ht : t.timing = s.timing) (hd : t.present.delay = s.present.delay) (i : Nat) : t.filing n i = s.filing n i := by
  have at_ (c slot : Nat) : t.inserterAt c slot = s.inserterAt c slot := by
    simp only [State.inserterAt, State.planAt, State.activeSlots, hp]
  have id : t.id = s.id := by rw [State.id, State.id, hs]
  have second (c : Nat) : State.ringCapture.second t i c = State.ringCapture.second s i c := by
    simp only [State.ringCapture.second, at_, hm, id]
  have capture : t.ringCapture n i = s.ringCapture n i := by
    simp only [State.ringCapture, at_, second, hm, id]
  have gone (c : Nat) : t.inserterGone c i = s.inserterGone c i := by
    simp only [State.inserterGone, at_, State.isUnreachable, State.reachOf, hm]
  simp only [State.filing, capture, gone, State.count, ht, hd]

/-- Whether a frame with these samples counts as late (R77). -/
def State.filesLate (s : State) (n : Nat) : Bool := (List.range 128).any fun i => (s.filing n i).any fun y => !y.2

theorem State.fileRing_late : (s.fileRing n x).late = if s.filesLate n = true then min (s.late + 1) 65535 else s.late := by
  unfold State.fileRing State.filesLate
  dsimp only
  split
  · exact State.counter_bump_same _
  · rfl

/-- Equal stored samples are filed equally where the filing of each slot is the same. -/
theorem State.fileRing_congr (hf : ∀ i, t.filing n i = s.filing n i) (hs : t.present.slots = s.present.slots) :
    (t.fileRing n x).present.slots = (s.fileRing n x).present.slots := by
  unfold State.fileRing
  simp only [hf, hs]
  split <;> rfl

/-- A frame is filed the same way in a later state, told by what was stored and counted before it. -/
theorem State.fileRing_as {stored : Tab SlotPres 128} {c : Tab Nat 14}
    (o : OnlyIn [.portE, .portW, .service, .preamp, .notices, .counters] (a.fileRing n x) t)
    (hlate : t.late = (a.fileRing n x).late) (hslots : a.present.slots = stored)
    (hc : a.counter .lateFrames = c.get CounterId.lateFrames.index) :
    t.present.slots = (((t.setPresent { t.present with slots := stored }).setCounters c).fileRing n x).present.slots
    ∧ t.counter .lateFrames =
      (((t.setPresent { t.present with slots := stored }).setCounters c).fileRing n x).counter .lateFrames := by
  have filed : OnlyIn [.present, .counters] a (a.fileRing n x) := by simp
  have both : OnlyIn [.portE, .portW, .service, .preamp, .notices, .counters, .present] a t :=
    (filed.mono (by decide)).trans (o.mono (by decide))
  have present : t.present = (a.fileRing n x).present := o.at .present (by decide)
  have delay : t.present.delay = a.present.delay := by
    rw [present]
    unfold State.fileRing
    dsimp only
    split <;> rfl
  have filing (i : Nat) :
      ((t.setPresent { t.present with slots := stored }).setCounters c).filing n i = a.filing n i :=
    State.filing_congr (both.at .straps (by decide)) (both.at .members (by decide)) (both.at .plan (by decide))
      (both.at .timing (by decide)) delay i
  refine ⟨?_, ?_⟩
  · rw [State.fileRing_congr filing hslots.symm, present]
  · have late : State.filesLate ((t.setPresent { t.present with slots := stored }).setCounters c) n = a.filesLate n := by
      simp only [State.filesLate, filing]
    have counted : ((t.setPresent { t.present with slots := stored }).setCounters c).late = a.late := hc.symm
    refine hlate.trans ?_
    show _ = (State.fileRing _ n x).late
    rw [State.fileRing_late, State.fileRing_late, late, counted]

end Sys2Proof.Machine
end

section
/-! A frame back at node 0, settled for O20 (R26, R30, R40, R41, R76, R77). -/

namespace Sys2Proof.Machine

variable {l : List Group} {s t u : State} {p q : Side} {h : Header} {slots : Tab Sample 128} {lane : Lane}

/-! ### The return store, the ring map and the arbiter (R26, R30, R40) -/

/-- What node 0's member tables take of any returned frame (R26). -/
def Members.returned (m : Members) (h : Header) (slots : Tab Sample 128) : Members :=
  { m with returnStore := some ⟨globalCount h.superframe h.frame, slots⟩, returnedMarks := some h.presence }

/-- What they take of a returned frame 0, whose levels the arbiter takes (R40, R41). -/
def Members.arbitrated (m : Members) (h : Header) : Members :=
  { m with ringMap := h.trail, ranks := (Arbiter.fill 6 ⟨requestLevels h.request, m.ranks⟩).2.ranks
           nextGrants := some ⟨sfAdd h.superframe 1, .ofList 6 none (Arbiter.fill 6 ⟨requestLevels h.request, m.ranks⟩).1⟩ }

theorem State.takeReturn_members : (s.takeReturn h slots).members =
    if h.frame = 0 then
      if s.beforeNext h = true then (s.members.returned h slots).arbitrated h
      else { s.members.returned h slots with ringMap := h.trail }
    else s.members.returned h slots := by
  unfold State.takeReturn
  dsimp only
  by_cases h0 : h.frame = 0
  · rw [if_pos h0, if_pos h0]
    have e : State.beforeNext ((s.setMembers (s.members.returned h slots)).setMembers
      { s.members.returned h slots with ringMap := h.trail }) h = s.beforeNext h := rfl
    by_cases hb : s.beforeNext h = true
    · rw [if_pos hb]
      exact congrArg State.members (if_pos (e.trans hb))
    · rw [if_neg hb]
      exact congrArg State.members (if_neg (e.symm ▸ hb))
  · rw [if_neg h0, if_neg h0]
    rfl

theorem State.beforeNext_now (h : Header) (e : h.superframe = s.timing.superframe) : s.beforeNext h = true := by
  simp [State.beforeNext, e]

theorem State.beforeNext_past (h : Header) (e : h.superframe ≠ s.timing.superframe) (ho : s.timing.frameOwed = false) :
    s.beforeNext h = false := by
  simp [State.beforeNext, e, ho]

theorem takeReturn_spec (s : State) (h : Header) (slots : Tab Sample 128) :
    let t := s.takeReturn h slots
    let r := Arbiter.fill 6 ⟨.ofFn 4 (pairAt h.request), s.members.ranks⟩
    OnlyIn [.members] s t ∧ t.members.reach = s.members.reach ∧ t.members.grants = s.members.grants
    ∧ t.members.returnStore = some ⟨(h.superframe * 48 + h.frame) % 3145728, slots⟩
    ∧ t.members.returnedMarks = some h.presence
    ∧ (h.frame = 0 → t.members.ringMap = h.trail
        ∧ (h.superframe = s.timing.superframe → t.members.ranks = r.2.ranks
            ∧ t.members.nextGrants = some ⟨(h.superframe + 1) % 65536, .ofList 6 none r.1⟩)
        ∧ (h.superframe ≠ s.timing.superframe → s.timing.frameOwed = false →
            t.members.ranks = s.members.ranks ∧ t.members.nextGrants = s.members.nextGrants))
    ∧ (h.frame ≠ 0 → t.members.ringMap = s.members.ringMap ∧ t.members.ranks = s.members.ranks
        ∧ t.members.nextGrants = s.members.nextGrants) := by
  intro t r
  have e : t.members = _ := State.takeReturn_members
  have o : OnlyIn [.members] s t := by simp [t]
  clear_value t
  by_cases h0 : h.frame = 0
  · rw [if_pos h0] at e
    by_cases hb : s.beforeNext h = true
    · rw [if_pos hb] at e
      refine ⟨o, by rw [e]; rfl, by rw [e]; rfl, by rw [e]; rfl, by rw [e]; rfl, fun _ => ⟨by rw [e]; rfl,
        fun _ => ⟨by rw [e]; rfl, by rw [e]; rfl⟩, fun hne ho => ?_⟩, fun k => absurd h0 k⟩
      exact absurd hb (by rw [State.beforeNext_past h hne ho]; decide)
    · rw [if_neg hb] at e
      exact ⟨o, by rw [e]; rfl, by rw [e]; rfl, by rw [e]; rfl, by rw [e]; rfl, fun _ => ⟨by rw [e],
        fun k => absurd (State.beforeNext_now h k) hb, fun _ _ => ⟨by rw [e]; rfl, by rw [e]; rfl⟩⟩, fun k => absurd h0 k⟩
  · rw [if_neg h0] at e
    exact ⟨o, by rw [e]; rfl, by rw [e]; rfl, by rw [e]; rfl, by rw [e]; rfl, fun k => absurd k h0,
      fun _ => ⟨by rw [e]; rfl, by rw [e]; rfl, by rw [e]; rfl⟩⟩

/-- The member tables after a return turn on those before and on the local timer's numbers alone. -/
theorem State.takeReturn_members_congr (hm : t.members = s.members) (hs : t.timing.superframe = s.timing.superframe)
    (hf : t.timing.frame = s.timing.frame) (ho : t.timing.frameOwed = s.timing.frameOwed) :
    (t.takeReturn h slots).members = (s.takeReturn h slots).members := by
  have e : t.beforeNext h = s.beforeNext h := by simp only [State.beforeNext, hs, hf, ho]
  rw [State.takeReturn_members, State.takeReturn_members, hm, e]

/-! ### A frame at the primary input -/

/-- A GOOD span is in service (R57). -/
theorem State.inService_good (h : (s.span p).state = .good) : s.inService p = true := by
  simp [State.inService, h, SpanState.inService]

/-- Where W is a primary input, and where E is, the frame passes to the ring traffic (R57, R59). -/
theorem State.takeFrame_traffic (hgood : (s.span p).state = .good) (hp : p = .w ∨ s.inService .w = false)
    (hturned : h.turned = (p == .e)) : s.takeFrame p (.primary h slots lane) = s.ringTraffic h slots lane := by
  have good := State.inService_good hgood
  have still : s.passTurned p (.primary h slots lane) = s := by
    unfold State.passTurned
    rw [if_neg]
    rintro ⟨rfl, _, _, _, hw⟩
    rcases hp with hp | hp
    · cases hp
    · rw [hp] at hw
      cases hw
  have input : s.primaryInput = some p := by
    unfold State.primaryInput
    rcases hp with rfl | hp
    · rw [good]
      cases s.inService .e <;> rfl
    · cases p with
      | w => rw [hp] at good; cases good
      | e => rw [good, hp]
  have e : s.takeFrame p (.primary h slots lane) =
      if (s.passTurned p (.primary h slots lane)).primaryInput = some p ∧ accepts p h = true then
        (s.passTurned p (.primary h slots lane)).ringTraffic h slots lane
      else s.passTurned p (.primary h slots lane) := rfl
  rw [e, still, if_pos ⟨input, by simp [accepts, hturned]⟩]

theorem State.masterSeen_slots : s.masterSeen.present.slots = s.present.slots := by
  unfold State.masterSeen
  rw [State.redetermine_slots]
  rfl

/-- The traffic of a frame back at node 0: the member tables, the filing, the lane (R26, R37, R76). -/
theorem ringTraffic_returned (h0 : s.id = 0) : ∃ a : State, (s.ringTraffic h slots lane) =
      (a.fileRing (globalCount h.superframe h.frame) slots).takeLane h.superframe h.frame lane
    ∧ a.members = (s.takeReturn h slots).members ∧ a.present.slots = s.present.slots ∧ a.late = s.late := by
  have o : OnlyIn [.members] s (s.takeReturn h slots) := by simp
  have present : (s.takeReturn h slots).present = s.present := o.at .present (by decide)
  refine ⟨if h.masterOrigin = true then (s.takeReturn h slots).masterSeen else s.takeReturn h slots, ?_, ?_, ?_, ?_⟩
  · unfold State.ringTraffic
    dsimp only
    rw [if_pos h0]
  · split
    · exact (show OnlyIn [.timing, .ring, .present, .lines, .notices, .counters] (s.takeReturn h slots)
        (s.takeReturn h slots).masterSeen by simp).at .members (by decide)
    · rfl
  · split
    · rw [State.masterSeen_slots, present]
    · rw [present]
  · split <;> simp

theorem returnedFrame_spec {period : List Byte} (h0 : s.id = 0) (hlisten : (s.port p).listens)
    (hlock : (s.port p).lock = .locked) (hloop : (s.port p).loop = .off) (hgood : (s.span p).state = .good)
    (hecho : (s.span p).partner ≠ some s.id) (hready : (s.span p).partnerReady = false)
    (hp : p = .w ∨ (s.ring.spanW.state ≠ .good ∧ s.ring.spanW.state ≠ .defect))
    (hj : judgeFrame ((s.port p).hears period) = some (.primary h slots lane)) (hturned : h.turned = (p == .e))
    (hfar : h.farFault = false) :
    ∃ t, exec (.receiveFrame p period) s = .next t ∧ t.members = (s.takeReturn h slots).members
      ∧ (let u := ((t.setPresent { t.present with slots := s.present.slots }).setCounters s.counters).fileRing
          ((h.superframe * 48 + h.frame) % 3145728) slots
        t.present.slots = u.present.slots ∧ t.counter .lateFrames = u.counter .lateFrames) := by
  obtain ⟨u, t, hx, hu, he⟩ := receiveFrame_taken hlisten hlock hloop hgood hecho hready hj hfar
  have id : u.id = 0 := by rw [State.id, show u.straps = s.straps from hu.only.at .straps (by decide)]; exact h0
  have service : p = .w ∨ u.inService .w = false := hp.imp_right fun ⟨hg, hd⟩ => by
    rw [State.inService, hu.spans]
    cases k : (s.span .w).state <;> simp_all [SpanState.inService, State.span]
  rw [State.takeFrame_traffic (by rw [hu.spans, hgood]) service hturned] at he
  obtain ⟨a, ha, members, stored, late⟩ := ringTraffic_returned (h := h) (slots := slots) (lane := lane) id
  rw [ha] at he
  have lateU : u.late = s.late := hu.counters _ (by decide)
  have after : OnlyIn [.service, .counters, .notices] (a.fileRing (globalCount h.superframe h.frame) slots) t :=
    OnlyIn.trans (t := (a.fileRing (globalCount h.superframe h.frame) slots).takeLane h.superframe h.frame lane) (by simp)
      (he.only.mono (by decide))
  have filing : OnlyIn [.present, .counters] a (a.fileRing (globalCount h.superframe h.frame) slots) := by simp
  refine ⟨t, hx, ?_, State.fileRing_as (a := a) (after.mono (by decide)) ?_ (stored.trans hu.slots) (late.trans lateU)⟩
  · rw [show t.members = _ from after.at .members (by decide), show _ = a.members from filing.at .members (by decide), members]
    exact State.takeReturn_members_congr (hu.only.at .members (by decide)) (by rw [hu.timing]) (by rw [hu.timing])
      (by rw [hu.timing])
  · exact (he.counters _ (by decide)).trans (State.takeLane_late _ _ _)

/-- Settles O20, from the return, the arbiter's awards and its counts. -/
theorem arbiterGrants : Obligations.ArbiterGrants := by
  refine ⟨takeReturn_spec, fun p period s h slots lane h0 hlisten hlock hloop hgood hecho hready hp hj hturned hfar =>
    returnedFrame_spec h0 hlisten hlock hloop hgood hecho hready hp hj hturned hfar,
    fun k levels ranks hperm => ⟨fun w hw hlead => ?_, fun hnone => ?_⟩, fun levels ranks hperm => ?_⟩
  · have leads : (⟨levels, ranks⟩ : Arbiter).Leads (List.finRange 4) w := ⟨hw, fun n _ hn => hlead n hn⟩
    rw [Arbiter.fill_some (Arbiter.winner_of_leads hperm leads), Arbiter.award_eq]
  · exact Arbiter.fill_none (Arbiter.winner_none.mpr hnone) k
  · refine ⟨Arbiter.fill_length _ _, Arbiter.fill_perm _ _ hperm, Arbiter.fill_count _ _, Arbiter.fill_count_none _ _,
      fun w hw => ?_⟩
    obtain ⟨pos, lead⟩ := Arbiter.fill_head hw
    exact ⟨pos, fun n hn => lead n (List.mem_finRange _) hn⟩

end Sys2Proof.Machine
end

section
/-! What a node writes into a primary frame: its pair of the presence and request fields, its samples, its lane bytes (R20, R29, R36,
R74, R184). -/

namespace Sys2Proof.Machine

variable {s t u : State} {i j : Nat}

/-! ### Pairs of bits (R184) -/

/-- A pair written into a byte reads as written, and the others as they were. -/
theorem pairAt_setPair (b : Byte) {v : Nat} (hi : i < 4) (hj : j < 4) (hv : v < 4) :
    pairAt (setPair b i v) j = if j = i then v else pairAt b j := by
  have hb := b.isLt
  simp only [pairAt, setPair, byte, BitVec.toNat_ofNat]
  interval_cases i <;> interval_cases j <;> simp only [if_true, Nat.reduceEqDiff, if_false] <;> omega

theorem roleMark_lt (r : Role) : roleMark r < 4 := by cases r <;> decide

theorem State.requestLevel_lt (s : State) : s.requestLevel < 4 := by
  unfold State.requestLevel
  omega

/-! ### The samples a node inserts (R20, R74) -/

theorem patternValue_toInt (n : Nat) : (patternValue n).toInt = (n * 5 % 16777216 : Nat) - 8388608 := by
  have h := Nat.mod_lt (n * 5) (by decide : 0 < 16777216)
  rw [patternValue, BitVec.toInt_ofInt]
  exact Int.bmod_eq_of_le (by omega) (by omega)

/-- The sample that the source of a slot entry gives in this local frame (R74). -/
def State.sourceSample (s : State) : SlotSource → Sample
  | .localIn n => s.localSample n.val
  | .bus b => s.busSample b.val
  | .pattern => patternValue s.count
  | .silent => 0

theorem State.inserted_own (h : (s.activeSlots.get i).inserter = some s.id) :
    s.inserted i = some (s.sourceSample (s.activeSlots.get i).source) := by
  unfold State.inserted
  rw [if_pos h]
  cases (s.activeSlots.get i).source <;> rfl

theorem State.inserted_other (h : (s.activeSlots.get i).inserter ≠ some s.id) : s.inserted i = none := by
  unfold State.inserted
  rw [if_neg h]

theorem State.insertInto_own (slots : Tab Sample 128) (hi : i < 128) (h : (s.activeSlots.get i).inserter = some s.id) :
    (s.insertInto slots).get i = s.sourceSample (s.activeSlots.get i).source := by
  rw [State.insertInto, Tab.get_mapIdx _ _ hi, State.inserted_own h]
  rfl

theorem State.insertInto_other (slots : Tab Sample 128) (hi : i < 128) (h : (s.activeSlots.get i).inserter ≠ some s.id) :
    (s.insertInto slots).get i = slots.get i := by
  rw [State.insertInto, Tab.get_mapIdx _ _ hi, State.inserted_other h]
  rfl

theorem State.localSample_eq (s : State) (n : Nat) :
    s.localSample n = if s.isDesk = true ∧ n = 15 then 0 else s.audio.localIn.get n := by
  simp [State.localSample]

theorem State.busSample_eq (s : State) (n : Nat) :
    s.busSample n = if s.isDesk = true then 0 else s.audio.busOut.get n := by
  unfold State.busSample State.isStage State.isDesk
  cases s.straps.role <;> rfl

/-! ### The lane bytes (R36, R184) -/

theorem laneSlice_get (bytes : Tab Byte 24) (hj : j < 3) : (laneSlice bytes i).get j = bytes.get (3 * i + j) := by
  rw [laneSlice, Tab.ofList, Tab.get_ofFn _ hj, Tab.get, List.getD_eq_getElem?_getD, List.getD_eq_getElem?_getD,
    List.getElem?_drop]
  rfl

theorem State.laneBytes_none (h : s.service.laneOut = none) (n : Nat) : s.laneBytes n = none := by
  simp [State.laneBytes, h]

theorem State.laneBytes_own {o : LaneOut} (h : s.service.laneOut = some o) {n : Nat} (hn : o.cellTime = n / 8) :
    s.laneBytes n = some (laneSlice o.bytes (n % 8)) := by
  simp [State.laneBytes, h, hn]

theorem State.laneBytes_other {o : LaneOut} (h : s.service.laneOut = some o) {n : Nat} (hn : o.cellTime ≠ n / 8) :
    s.laneBytes n = none := by
  simp [State.laneBytes, h, hn]

/-- A frame whose number opens no cell time takes no cell. -/
theorem State.laneTurn_within {n : Nat} (h : n % 8 ≠ 0) : s.laneTurn n = s := by simp [State.laneTurn, h]

theorem State.laneTurn_granted {n : Nat} (h : n % 8 = 0) (hg : s.members.grants.get (n / 8) = some s.id) :
    s.laneTurn n = s.takeCell (n / 8) := by simp [State.laneTurn, h, hg]

theorem State.laneTurn_ungranted {n : Nat} (h : n % 8 = 0) (hg : s.members.grants.get (n / 8) ≠ some s.id) :
    s.laneTurn n = s.setService { s.service with laneOut := none } := by simp [State.laneTurn, h, hg]

end Sys2Proof.Machine
end

section
/-! What the load of the counters and the lists of a frame leave of the queues to the ring, of the waiting next targets and of the
cell being written (R36, R81, R90, R95, R116). -/

namespace Sys2Proof.Machine

variable {l : List Group} {s t u : State} {p q : Side} {i n : Nat} {c : Cell} {h : Header}

/-! ### The queues to the ring only grow -/

/-- Step cell queue and outbound queue hold what they held, in front of what came. -/
structure QueuesGrow (s t : State) : Prop where
  steps : s.service.stepQueue <+: t.service.stepQueue
  outbound : s.service.outbound <+: t.service.outbound

theorem QueuesGrow.of_service (h : t.service = s.service) : QueuesGrow s t := by
  constructor <;> rw [h]

theorem QueuesGrow.refl : QueuesGrow s s := .of_service rfl

theorem QueuesGrow.trans (h : QueuesGrow s t) (k : QueuesGrow t u) : QueuesGrow s u :=
  ⟨h.steps.trans k.steps, h.outbound.trans k.outbound⟩

theorem QueuesGrow.of_onlyIn (o : OnlyIn l s t) (hs : .service ∉ l) : QueuesGrow s t := .of_service (o.at .service hs)

theorem QueuesGrow.forEach {f : Nat → State → State} (hf : ∀ i u, QueuesGrow u (f i u)) (n : Nat) :
    QueuesGrow s (forEach n f s) :=
  forEach_keeps (p := QueuesGrow s) (f := f) (fun i u h => h.trans (hf i u)) n .refl

theorem QueuesGrow.promote : QueuesGrow s s.promote := by
  obtain ⟨added, e, _⟩ := s.promote_queue
  exact ⟨by rw [e]; exact List.prefix_append _ _, by rw [e]⟩

theorem QueuesGrow.changeNow (n : Nat) : QueuesGrow s (s.changeNow n) := by
  unfold State.changeNow
  split
  · exact .trans (.of_onlyIn (l := [.tracking, .preamp]) (t := s.applyChange n) (by simp) (by decide)) .promote
  · exact .refl

theorem QueuesGrow.pushOutbound : QueuesGrow s (s.pushOutbound c) := ⟨List.prefix_rfl, List.prefix_append _ _⟩

theorem QueuesGrow.pushWork : QueuesGrow s (s.pushWork c) := ⟨List.prefix_rfl, List.prefix_rfl⟩

theorem QueuesGrow.pushConsole : QueuesGrow s (s.pushConsole c) := ⟨List.prefix_rfl, List.prefix_rfl⟩

theorem QueuesGrow.bump (k : CounterId) : QueuesGrow s (s.bump k) := .of_service rfl

theorem QueuesGrow.answerHost (r : Reply) : QueuesGrow s (s.answerHost c r) := by
  unfold State.answerHost
  split
  · exact .pushConsole
  · exact .bump _

theorem QueuesGrow.workIntake : QueuesGrow s (s.workIntake c) := by
  unfold State.workIntake
  split
  · exact .pushWork
  · split
    · exact .trans (.bump _) .pushOutbound
    · exact .bump _

theorem QueuesGrow.consoleIntake : QueuesGrow s (s.consoleIntake c) := by
  unfold State.consoleIntake
  (repeat' split)
  · exact .pushConsole
  · exact .bump _
  · exact .bump _

theorem QueuesGrow.routeRing : QueuesGrow s (s.routeRing c) := by
  unfold State.routeRing
  (repeat' split) <;> first | exact .workIntake | exact .consoleIntake | exact .bump _ | exact .refl

theorem QueuesGrow.relayTake (w : NodeId) : QueuesGrow s (s.relayTake w c) := by
  unfold State.relayTake
  (repeat' split)
  · exact ⟨List.prefix_rfl, List.prefix_rfl⟩
  · exact .bump _
  · exact .refl

theorem QueuesGrow.relayed (w : NodeId) (bytes : List Byte) : QueuesGrow s (s.relayed w bytes) := by
  unfold State.relayed
  split
  · exact .relayTake w
  · exact .refl

theorem QueuesGrow.takeRingCell (w : NodeId) (bytes : List Byte) : QueuesGrow s (s.takeRingCell w bytes) := by
  rw [State.takeRingCell_eq]
  (repeat' split)
  · exact .relayed w bytes
  · exact .trans (.relayed w bytes) .routeRing
  · exact .trans (.relayed w bytes) (.bump _)

theorem QueuesGrow.judgeLane : QueuesGrow s s.judgeLane := by
  unfold State.judgeLane State.judgeParts
  (repeat' split)
  · exact .refl
  · exact .bump _
  · exact .refl
  · exact .takeRingCell _ _
  · exact .refl

theorem QueuesGrow.refuseHost : QueuesGrow s (s.refuseHost c) := .trans (.bump _) (.answerHost _)

theorem QueuesGrow.hostAll : QueuesGrow s (s.hostAll c) := by
  unfold State.hostAll
  (repeat' split)
  · exact .trans .pushWork (.answerHost _)
  · exact .refuseHost
  · exact .trans .pushWork .pushOutbound
  · exact .refuseHost

theorem QueuesGrow.hostOther (d : NodeId) : QueuesGrow s (s.hostOther c d) := by
  unfold State.hostOther
  (repeat' split)
  · exact .answerHost _
  · exact .pushOutbound
  · exact .refuseHost
  · exact .answerHost _

theorem QueuesGrow.takeHostCell : QueuesGrow s (s.takeHostCell c) := by
  unfold State.takeHostCell
  (repeat' split)
  · exact .bump _
  · exact .hostAll
  · exact .answerHost _
  · exact .pushWork
  · exact .refuseHost
  · exact .hostOther _

theorem QueuesGrow.consoleCell : QueuesGrow s s.consoleCell := by
  unfold State.consoleCell State.judgeConsole
  dsimp only
  split
  · refine .trans (t := if s.ring.state = .dark then s else if s.consoleJoin.all (· == 0) then s
      else if cellCrcOk s.consoleJoin then s.takeHostCell (s.fromHost (cellFields s.consoleJoin)) else s.bump .cellErrors)
      ?_ ⟨List.prefix_rfl, List.prefix_rfl⟩
    (repeat' split)
    · exact .refl
    · exact .refl
    · exact .takeHostCell
    · exact .bump _
  · exact .refl

theorem QueuesGrow.laneJump (m n : Nat) : QueuesGrow s (s.laneJump m n) := by
  unfold State.laneJump
  dsimp only
  split
  · exact .refl
  · refine .trans (t := (if s.service.laneIn.judged then s else s.judgeLane).consoleCell) ?_ ⟨List.prefix_rfl, List.prefix_rfl⟩
    refine .trans ?_ .consoleCell
    split
    · exact .refl
    · exact .judgeLane

theorem QueuesGrow.preampJump : QueuesGrow s s.preampJump := by
  have changes : QueuesGrow s (Machine.forEach 64 State.jumpChange s) :=
    .forEach (fun i u => .of_onlyIn (l := [.preamp, .tracking, .notices, .counters]) (by simp) (by decide)) 64
  unfold State.preampJump
  dsimp only
  (repeat' split)
  · exact .trans changes .promote
  · exact changes
  · exact .refl

theorem QueuesGrow.reached : QueuesGrow s s.reached := by
  have before : QueuesGrow s (s.forSides fun p s => s.unwrapNow p).swapNow :=
    .of_onlyIn (l := [.ring, .present, .lines, .notices, .counters, .plan])
      (by rw [OnlyIn.swapNow (by simp), OnlyIn.forSides _ (by intro p t; simp)]; exact .refl) (by decide)
  have after (u : State) : QueuesGrow u u.reloadTimeout := .of_onlyIn (l := [.preamp]) (by simp) (by decide)
  exact (before.trans (.forEach (fun i u => .changeNow i) 64)).trans (after _)

theorem QueuesGrow.jump (m n : Nat) : QueuesGrow s (s.jump m n) := by
  have numbers (u : State) : QueuesGrow u (u.setNumbers m n).presentJump :=
    .of_onlyIn (l := [.timing, .members, .present, .plan]) (by simp) (by decide)
  have swap (u : State) (old : Nat) : QueuesGrow u (u.swapJump old) :=
    .of_onlyIn (l := [.plan, .notices, .counters]) (by simp) (by decide)
  have rest (u : State) : QueuesGrow u u.trackJump := .of_onlyIn (l := [.tracking]) (by simp) (by decide)
  have strobe (u : State) : QueuesGrow u u.pulseStrobe := .of_onlyIn (l := [.preamp]) (by simp) (by decide)
  have all := ((((QueuesGrow.reached (s := s) |>.trans (.laneJump m n)).trans (numbers _)).trans
    (swap _ s.reached.timing.superframe)).trans .preampJump).trans (rest _)
  unfold State.jump
  dsimp only
  split
  · exact all.trans (strobe _)
  · exact all

theorem QueuesGrow.clockLock : QueuesGrow s (s.clockLock h) := by
  have load : QueuesGrow s (s.loadCounters h) := by
    unfold State.loadCounters
    split
    · exact .of_onlyIn (l := [.preamp]) (by simp) (by decide)
    · exact .jump _ _
  unfold State.clockLock
  dsimp only
  split
  · exact load
  · exact load.trans (.of_onlyIn (l := [.timing, .notices, .counters, .preamp]) (by simp) (by decide))

/-! ### No next target comes to wait -/

/-- No next target waits (R116). -/
def NoNext (s : State) : Prop := ∀ n, n < 64 → (s.entry n).next = none

theorem NoNext.of_preamp (h : NoNext s) (e : t.preamp.entries = s.preamp.entries) : NoNext t := fun n hn => by
  rw [State.entry, e]
  exact h n hn

theorem NoNext.of_onlyIn (h : NoNext s) (o : OnlyIn l s t) (hp : .preamp ∉ l) : NoNext t :=
  h.of_preamp (by rw [show t.preamp = s.preamp from o.at .preamp hp])

theorem NoNext.setEntry (h : NoNext s) {e : PreampEntry} (he : n < 64 → e.next = none) : NoNext (s.setEntry n e) := fun i hi => by
  rw [State.entry, State.setEntry, State.setPreamp_preamp]
  by_cases hin : n = i
  · subst hin
    rw [Tab.get_put_same _ _ hi]
    exact he hi
  · rw [Tab.get_put_ne _ _ hin]
    exact h i hi

theorem NoNext.promote (h : NoNext s) : s.promote = s := by
  unfold State.promote
  split
  · refine forEach_keeps_lt (P := fun u => u = s) (f := State.promoteOne) (fun i u hi hu => ?_) rfl
    subst hu
    simp [State.promoteOne, h i hi]
  · rfl

theorem NoNext.applyChange (h : NoNext s) (n : Nat) : NoNext (s.applyChange n) := by
  have trim (u : State) (hu : NoNext u) (c : PendingChange) : NoNext (u.trimCompensate n c) := by
    unfold State.trimCompensate
    dsimp only
    (repeat' split)
    · exact hu
    · exact NoNext.setEntry (hu.of_onlyIn (l := [.tracking]) (by simp) (by decide)) fun hn => hu n hn
    · exact hu.of_onlyIn (l := [.tracking]) (by simp) (by decide)
  unfold State.applyChange
  split
  · next c _ => exact trim _ (h.setEntry (e := { s.entry n with gain := c.target, pending := none }) fun hn => h n hn) c
  · exact h

theorem NoNext.changeNow (h : NoNext s) (n : Nat) : NoNext (s.changeNow n) := by
  unfold State.changeNow
  split
  · rw [(h.applyChange n).promote]
    exact h.applyChange n
  · exact h

theorem NoNext.converterFault (h : NoNext s) (c : ConvCommand) (k : Nat) : NoNext (s.converterFault c k) := by
  have confirmed : NoNext (s.setConfirmed (c.address * 16 + c.channel) false) := h.setEntry fun hn => h _ hn
  exact confirmed.of_onlyIn (l := [.notices, .counters]) (by simp [State.converterFault]) (by decide)

theorem NoNext.jumpChange (h : NoNext s) (n : Nat) : NoNext (State.jumpChange n s) := by
  unfold State.jumpChange
  dsimp only
  (repeat' split)
  · exact h
  · exact h.applyChange n
  · exact (h.applyChange n).converterFault _ _
  · exact h

theorem NoNext.preampJump (h : NoNext s) : NoNext s.preampJump := by
  have changes : NoNext (Machine.forEach 64 State.jumpChange s) :=
    forEach_keeps (p := NoNext) (f := State.jumpChange) (fun i u hu => hu.jumpChange i) 64 h
  unfold State.preampJump
  dsimp only
  (repeat' split)
  · rwa [changes.promote]
  · exact changes
  · exact h

theorem State.startupReload_entries (n : Nat) : (s.startupReload n).preamp.entries = s.preamp.entries := by
  unfold State.startupReload
  split <;> rfl

theorem State.reloadTimeout_entries : s.reloadTimeout.preamp.entries = s.preamp.entries := by
  unfold State.reloadTimeout
  split
  · exact State.startupReload_entries _
  · rfl

theorem NoNext.reached (h : NoNext s) : NoNext s.reached := by
  have before : NoNext (s.forSides fun p s => s.unwrapNow p).swapNow :=
    h.of_onlyIn (l := [.ring, .present, .lines, .notices, .counters, .plan])
      (by rw [OnlyIn.swapNow (by simp), OnlyIn.forSides _ (by intro p t; simp)]; exact .refl) (by decide)
  have changes := forEach_keeps (p := NoNext) (f := fun n s => s.changeNow n) (fun i u hu => hu.changeNow i) 64 before
  have after (u : State) (hu : NoNext u) : NoNext u.reloadTimeout := hu.of_preamp State.reloadTimeout_entries
  exact after _ changes

theorem NoNext.jump (h : NoNext s) (m n : Nat) : NoNext (s.jump m n) := by
  have before : NoNext ((((s.reached.laneJump m n).setNumbers m n).presentJump).swapJump s.reached.timing.superframe) :=
    h.reached.of_onlyIn (l := [.service, .counters, .timing, .members, .present, .plan, .notices]) (by simp) (by decide)
  have track (u : State) (hu : NoNext u) : NoNext u.trackJump := hu.of_onlyIn (l := [.tracking]) (by simp) (by decide)
  have strobe (u : State) (hu : NoNext u) : NoNext u.pulseStrobe := hu.of_preamp (by unfold State.pulseStrobe; split <;> rfl)
  have after := track _ before.preampJump
  unfold State.jump
  dsimp only
  split
  · exact strobe _ after
  · exact after

theorem NoNext.clockLock (hn : NoNext s) : NoNext (s.clockLock h) := by
  have load : NoNext (s.loadCounters h) := by
    unfold State.loadCounters
    split
    · exact hn.of_preamp State.reloadTimeout_entries
    · exact hn.jump _ _
  unfold State.clockLock
  dsimp only
  split
  · exact load
  · exact NoNext.of_preamp (load.of_onlyIn (t := (s.loadCounters h).setClock .locked) (l := [.timing, .notices, .counters])
      (by simp) (by decide)) (State.startupReload_entries _)

/-! ### The cell being written and the console lane -/

/-- The cell being written and the console lane's two cells. -/
def Service.lanes (x : Service) : Option LaneOut × ConsoleIn × Tab Byte 24 := (x.laneOut, x.consoleIn, x.consoleOut)

/-- The lanes' cells stay as they are. -/
def LanesKept (s t : State) : Prop := t.service.lanes = s.service.lanes

theorem LanesKept.laneOut (h : LanesKept s t) : t.service.laneOut = s.service.laneOut := congrArg Prod.fst h

theorem LanesKept.console (h : LanesKept s t) : t.service.consoleIn = s.service.consoleIn
    ∧ t.service.consoleOut = s.service.consoleOut :=
  ⟨congrArg (fun x => x.2.1) h, congrArg (fun x => x.2.2) h⟩

theorem LanesKept.of_onlyIn (o : OnlyIn l s t) (hs : .service ∉ l) : LanesKept s t :=
  congrArg Service.lanes (o.at .service hs)

theorem LanesKept.trans (h : LanesKept s t) (k : LanesKept t u) : LanesKept s u := Eq.trans k h

theorem LanesKept.foldl {α : Type} {f : State → α → State} (hf : ∀ u a, LanesKept u (f u a)) (q : List α) :
    LanesKept s (q.foldl f s) := by
  induction q generalizing s with
  | nil => exact rfl
  | cons a q ih => exact (hf s a).trans ih

theorem LanesKept.promote : LanesKept s s.promote := by
  obtain ⟨added, e, _⟩ := s.promote_queue
  rw [LanesKept, e]
  rfl

theorem LanesKept.discardSteps (d : NodeId) : LanesKept s (s.discardSteps d) := by
  unfold State.discardSteps
  dsimp only
  split
  · exact rfl
  · exact LanesKept.trans (t := s.setStepQueue (s.service.stepQueue.filter fun r => r.dest != d)) rfl .promote

theorem LanesKept.removedCell : LanesKept s (s.removedCell c) := by
  unfold State.removedCell State.answerHost
  (repeat' split) <;> rfl

theorem LanesKept.purgeOutbound (d : NodeId) : LanesKept s (s.purgeOutbound d) := by
  unfold State.purgeOutbound
  exact LanesKept.foldl (s := s.setService _) (fun u a => .removedCell) _

theorem LanesKept.nodeLost (d : NodeId) : LanesKept s (s.nodeLost d) := by
  have owner : LanesKept s (if s.isStage then s.ownerLost d else s) := by
    split
    · exact .of_onlyIn (l := [.preamp, .notices, .counters]) (by simp) (by decide)
    · exact rfl
  have talk (u : State) : LanesKept u (if u.isStage then u.releaseOfNode d else u) := by
    split
    · exact .of_onlyIn (l := [.talk, .lines, .notices, .counters]) (by simp) (by decide)
    · exact rfl
  have report (u : State) : LanesKept u (u.abandonReport d) := .of_onlyIn (l := [.image]) (by simp) (by decide)
  exact (((owner.trans (.discardSteps d)).trans (talk _)).trans (.purgeOutbound d)).trans (report _)

theorem LanesKept.setReach (d : NodeId) (r : Reach) : LanesKept s (s.setReach d r) := by
  have members (m : Members) : LanesKept s (s.setMembers m) := rfl
  have raised (m : Members) (a b c) : LanesKept s ((s.setMembers m).raise a b c) := rfl
  have back (u : State) : LanesKept u (u.ownerBack d) :=
    .of_onlyIn (l := [.preamp, .notices, .counters]) (by simp) (by decide)
  have demoted (u : State) : LanesKept u (u.ownerDemoted d) :=
    .of_onlyIn (l := [.preamp, .notices, .counters]) (by simp) (by decide)
  unfold State.setReach
  dsimp only
  split
  · exact members _
  · split
    · split
      · exact (raised _ _ _ _).trans (.nodeLost d)
      · split
        · exact (raised _ _ _ _).trans (back _)
        · exact raised _ _ _ _
      · exact raised _ _ _ _
    · split
      · exact (raised _ _ _ _).trans (demoted _)
      · exact raised _ _ _ _

theorem LanesKept.takeLists : LanesKept s (s.takeLists h) := by
  unfold State.takeLists State.takeRoster State.forOthers
  (repeat' split)
  · exact rfl
  · exact .foldl (fun u d => .setReach d _) _
  · exact rfl

end Sys2Proof.Machine
end

section
/-! A primary frame through a node other than node 0, up to its forwarding (R27, R30, R35, R37, R57, R76). -/

namespace Sys2Proof.Machine

variable {l : List Group} {s t u : State} {p q out : Side} {h : Header} {slots : Tab Sample 128} {lane : Lane}

/-! ### What a master frame does first (R35) -/

/-- The counters are loaded and the clock is LOCKED where the frame is of master origin. -/
def State.mastered (s : State) (h : Header) : State := if h.masterOrigin then (s.clockLock h).masterSeen else s

/-- The frame's load of the counters is a jump (R81). -/
def Header.jumps (h : Header) (s : State) : Prop :=
  h.masterOrigin = true ∧ (h.superframe ≠ s.timing.superframe ∨ h.frame ≠ s.timing.frame)

/-- What a load of the counters may touch. -/
def masterGroups : List Group := [.ring, .lines, .service, .counters, .timing, .members, .present, .plan, .notices, .preamp, .tracking]

theorem State.mastered_only (s : State) (h : Header) : OnlyIn masterGroups s (s.mastered h) := by
  unfold State.mastered
  split
  · simp [masterGroups]
  · exact .refl

theorem State.masterSeen_only (s : State) : OnlyIn [.timing, .ring, .present, .lines, .notices, .counters] s s.masterSeen := by
  simp

/-- Without an unwrap pending on either side a load moves no span. -/
theorem State.mastered_span (hp : ∀ q, (s.span q).state ≠ .unwrapPending) : (s.mastered h).span q = s.span q := by
  have idle (q : Side) : s.unwrapNow q = s := by simp [State.unwrapNow, State.unwrapDue, hp q]
  have reached : s.reached.span q = s.span q := by
    rw [State.reached_span, State.forSides, idle, idle]
  unfold State.mastered
  split
  · rw [State.masterSeen_span, State.clockLock_span]
    rcases s.loadCounters_span h with e | e
    · exact e q
    · exact (e q).trans reached
  · rfl

theorem State.mastered_late : (s.mastered h).late = s.late := by
  unfold State.mastered
  split <;> simp

/-- A jump clears what was stored (R81). -/
theorem State.mastered_slots_jump (hj : h.jumps s) :
    (s.mastered h).present.slots = s.present.slots.map fun x => { x with filed := [] } := by
  unfold State.mastered
  rw [if_pos hj.1, State.masterSeen_slots, State.clockLock_slots (hj.2.imp Ne.symm Ne.symm)]

/-- A frame that is no jump loads nothing: the counters stand at its numbers, or it is not of master origin. -/
theorem State.mastered_still (hj : ¬ h.jumps s) : (s.mastered h).present.slots = s.present.slots
    ∧ (s.mastered h).service = s.service := by
  unfold State.mastered
  split
  · next hm =>
    obtain ⟨hs, hf⟩ : h.superframe = s.timing.superframe ∧ h.frame = s.timing.frame := by
      by_contra k
      exact hj ⟨hm, by tauto⟩
    have load : s.loadCounters h = s.reloadTimeout := by
      unfold State.loadCounters
      rw [if_pos ⟨hs.symm, hf.symm⟩]
    have quiet : OnlyIn [.preamp, .timing, .notices, .counters] s (s.clockLock h) := by
      unfold State.clockLock
      dsimp only
      rw [load]
      split <;> simp
    refine ⟨?_, ?_⟩
    · rw [State.masterSeen_slots, show (s.clockLock h).present = s.present from quiet.at .present (by decide)]
    · exact ((s.clockLock h).masterSeen_only.at .service (by decide)).trans (quiet.at .service (by decide))
  · exact ⟨rfl, rfl⟩

theorem QueuesGrow.mastered : QueuesGrow s (s.mastered h) := by
  unfold State.mastered
  split
  · exact QueuesGrow.trans .clockLock (.of_onlyIn (State.masterSeen_only _) (by decide))
  · exact .refl

theorem NoNext.mastered (hn : NoNext s) : NoNext (s.mastered h) := by
  unfold State.mastered
  split
  · exact hn.clockLock.of_onlyIn (State.masterSeen_only _) (by decide)
  · exact hn

/-! ### The frame's lists, samples and lane bytes (R30, R37, R76) -/

/-- The state in which a frame is forwarded: its numbers, lists, samples and lane bytes are taken. -/
def State.carried (s : State) (h : Header) (slots : Tab Sample 128) (lane : Lane) : State :=
  (((s.mastered h).takeLists h).fileRing (globalCount h.superframe h.frame) slots).takeLane h.superframe h.frame lane

theorem State.ringTraffic_carried (hid : s.id ≠ 0) :
    s.ringTraffic h slots lane = (s.carried h slots lane).forward h slots lane := by
  unfold State.ringTraffic
  dsimp only
  rw [if_neg hid]
  rfl

/-- What the lists may touch. -/
def listGroups : List Group := [.members, .preamp, .service, .talk, .lines, .image, .notices, .counters]

theorem State.takeLists_only (s : State) (h : Header) : OnlyIn listGroups s (s.takeLists h) := by simp [listGroups]

/-- What is touched before the forwarding: neither ports nor straps nor audio. -/
theorem State.carried_only : OnlyIn (masterGroups ++ listGroups) s (s.carried h slots lane) := by
  have lists := ((s.mastered_only h).mono (m := masterGroups ++ listGroups) (by decide)).trans
    (((s.mastered h).takeLists_only h).mono (by decide))
  exact lists.trans (by simp [State.carried, masterGroups, listGroups])

theorem State.carried_span (hp : ∀ q, (s.span q).state ≠ .unwrapPending) : (s.carried h slots lane).span q = s.span q := by
  have after : OnlyIn (.present :: listGroups) (s.mastered h) (s.carried h slots lane) :=
    (((s.mastered h).takeLists_only h).mono (by decide)).trans (by simp [State.carried, listGroups])
  rw [after.span_eq (by decide), State.mastered_span hp]

/-- A frame 0 brings the grants and the map (R30, R42). -/
theorem State.carried_lists (h0 : h.frame = 0) : (s.carried h slots lane).members.grants = h.grants
    ∧ (s.carried h slots lane).members.ringMap = h.publishedMap := by
  have after : OnlyIn [.present, .counters, .service] ((s.mastered h).takeLists h) (s.carried h slots lane) := by
    simp [State.carried]
  rw [show _ = ((s.mastered h).takeLists h).members from after.at .members (by decide), State.takeLists, if_pos h0]
  exact ⟨rfl, rfl⟩

/-- Apart from frame 1 the lists leave the queues and the preamps. -/
theorem State.takeLists_members (h1 : h.frame ≠ 1) : OnlyIn [.members] s (s.takeLists h) := by
  unfold State.takeLists
  split
  · simp
  · exact .refl

/-- The lane bytes of a node other than node 0 join its lane receiver, and leave its queues. -/
theorem State.takeLane_service (hid : s.id ≠ 0) (m n : Nat) :
    (s.takeLane m n lane).service = { s.service with laneIn := (s.takeLane m n lane).service.laneIn } := by
  unfold State.takeLane State.joinLane
  rw [if_neg hid]
  split <;> rfl

/-- The service queues before the forwarding are those after the lists, but for the lane receiver's bytes. -/
theorem State.carried_service (hid : s.id ≠ 0) : (s.carried h slots lane).service =
    { ((s.mastered h).takeLists h).service with laneIn := (s.carried h slots lane).service.laneIn } := by
  have filed : OnlyIn [.present, .counters] ((s.mastered h).takeLists h)
      (((s.mastered h).takeLists h).fileRing (globalCount h.superframe h.frame) slots) := by simp
  have id : (((s.mastered h).takeLists h).fileRing (globalCount h.superframe h.frame) slots).id ≠ 0 := by
    have straps := (((s.mastered_only h).mono (m := masterGroups ++ listGroups) (by decide)).trans
      (((s.mastered h).takeLists_only h).mono (by decide))).trans (filed.mono (by decide))
    rw [State.id, show _ = s.straps from straps.at .straps (by decide)]
    exact hid
  have e := State.takeLane_service (lane := lane) id h.superframe h.frame
  rw [show (((s.mastered h).takeLists h).fileRing (globalCount h.superframe h.frame) slots).service = _ from
    filed.at .service (by decide)] at e
  exact e

/-- Apart from frame 1 the queues to the ring hold what they held, in front of what came. -/
theorem State.carried_grows (hid : s.id ≠ 0) (h1 : h.frame ≠ 1) : QueuesGrow s (s.carried h slots lane) := by
  have lists : QueuesGrow s ((s.mastered h).takeLists h) :=
    QueuesGrow.trans .mastered (.of_onlyIn (State.takeLists_members h1) (by decide))
  have e := s.carried_service (h := h) (slots := slots) (lane := lane) hid
  exact lists.trans ⟨by rw [e], by rw [e]⟩

/-- Where the frame is neither a jump nor a frame 1 they are as they were. -/
theorem State.carried_queues (hid : s.id ≠ 0) (h1 : h.frame ≠ 1) (hj : ¬ h.jumps s) :
    (s.carried h slots lane).service.stepQueue = s.service.stepQueue
    ∧ (s.carried h slots lane).service.outbound = s.service.outbound := by
  have lists : ((s.mastered h).takeLists h).service = s.service :=
    ((State.takeLists_members h1).at .service (by decide)).trans (State.mastered_still hj).2
  rw [s.carried_service hid, lists]
  exact ⟨rfl, rfl⟩

/-- The cell being written stays through a frame that is no jump. -/
theorem State.carried_laneOut (hid : s.id ≠ 0) (hj : ¬ h.jumps s) :
    (s.carried h slots lane).service.laneOut = s.service.laneOut := by
  rw [s.carried_service hid]
  exact (LanesKept.takeLists (s := s.mastered h)).laneOut.trans (congrArg Service.laneOut (State.mastered_still hj).2)

theorem State.carried_noNext (h1 : h.frame ≠ 1) (hn : NoNext s) : NoNext (s.carried h slots lane) := by
  have lists : NoNext ((s.mastered h).takeLists h) := hn.mastered.of_onlyIn (State.takeLists_members h1) (by decide)
  exact lists.of_onlyIn (l := [.present, .counters, .service]) (by simp [State.carried]) (by decide)

/-! ### Forwarding (R27, R29, R36, R58) -/

/-- The header a frame leaves by. -/
theorem State.forwardHeader_fields : (s.forwardHeader out h).frame = h.frame
    ∧ (s.forwardHeader out h).superframe = h.superframe ∧ (s.forwardHeader out h).masterOrigin = h.masterOrigin
    ∧ (s.forwardHeader out h).turned = (out == .w) ∧ (s.forwardHeader out h).farFault = s.localDefect out
    ∧ (s.forwardHeader out h).restoreReady = s.sendsReady out
    ∧ (s.forwardHeader out h).rest = (if h.frame = 0 then appendTrail h.rest s.id else h.rest)
    ∧ (s.forwardHeader out h).presence = (s.ownMarks h).presence
    ∧ (s.forwardHeader out h).request = (s.ownMarks h).request := by
  unfold State.forwardHeader
  dsimp only
  have e : (s.ownMarks h).frame = h.frame := rfl
  by_cases h0 : h.frame = 0
  · rw [if_pos (e.trans h0), if_pos h0]
    exact ⟨rfl, rfl, rfl, rfl, rfl, rfl, rfl, rfl, rfl⟩
  · rw [if_neg (e.symm ▸ h0), if_neg h0]
    exact ⟨rfl, rfl, rfl, rfl, rfl, rfl, rfl, rfl, rfl⟩

/-- The node's own mark and level are written, those of the others stay (R29). -/
theorem State.ownMarks_pairs (s : State) (h : Header) : pairAt (s.ownMarks h).presence s.id.val = roleMark s.straps.role
    ∧ pairAt (s.ownMarks h).request s.id.val = s.requestLevel
    ∧ ∀ n : NodeId, n ≠ s.id → pairAt (s.ownMarks h).presence n.val = pairAt h.presence n.val
        ∧ pairAt (s.ownMarks h).request n.val = pairAt h.request n.val := by
  have mark (j : Nat) (hj : j < 4) := pairAt_setPair h.presence s.id.isLt hj (roleMark_lt s.straps.role)
  have level (j : Nat) (hj : j < 4) := pairAt_setPair h.request s.id.isLt hj s.requestLevel_lt
  refine ⟨?_, ?_, fun n hn => ⟨?_, ?_⟩⟩
  · exact (mark _ s.id.isLt).trans (if_pos rfl)
  · exact (level _ s.id.isLt).trans (if_pos rfl)
  · exact (mark _ n.isLt).trans (if_neg fun e => hn (Fin.ext e))
  · exact (level _ n.isLt).trans (if_neg fun e => hn (Fin.ext e))

/-- The frame forwarded by a side, its cell taken (R27, R36). -/
def State.forwarded (s : State) (out : Side) (h : Header) (slots : Tab Sample 128) (lane : Lane) : Frame :=
  .primary (s.forwardHeader out h) ((s.laneTurn h.frame).insertInto slots) (((s.laneTurn h.frame).laneBytes h.frame).getD lane)

theorem State.forward_eq (ho : s.primaryOutput = some out) :
    s.forward h slots lane = (s.laneTurn h.frame).transmit out (s.forwarded out h slots lane) := by
  unfold State.forward
  rw [ho]
  rfl

theorem State.laneTurn_only (n : Nat) : OnlyIn [.service, .preamp, .notices, .counters] s (s.laneTurn n) := by simp

theorem State.transmit_port (f : Frame) : ((s.transmit p f).port p).tx = some f
    ∧ ∀ q, q ≠ p → (s.transmit p f).port q = s.port q :=
  ⟨by rw [State.transmit, State.setPort_port_same], fun _ hq => State.setPort_port_ne _ hq⟩

end Sys2Proof.Machine
end

section
/-! A good primary frame at a node: forwarded and taken, or passed and not taken, settled for O12 (R27, R29, R36, R47, R57 to R59,
R74). -/

namespace Sys2Proof.Machine

variable {s t u b : State} {p q out : Side} {h : Header} {slots : Tab Sample 128} {lane : Lane}

/-! ### What the frame sent says of the state after it -/

/-- The state after a frame agrees with the one its samples and lane bytes were written in, but for the frames sent. -/
def sentGroups : List Group := [.portE, .portW, .notices, .counters]

/-- The slots of the frame sent, read off the state after it (R20, R74, R85). -/
theorem inserted_slots (o : OnlyIn sentGroups b t) (haudio : b.audio = s.audio) (hstraps : b.straps = s.straps) :
    (∀ i, i < 128 → (t.activeSlots.get i).inserter ≠ some s.id → (b.insertInto slots).get i = slots.get i)
    ∧ (∀ i, i < 128 → t.activeSlots.get i = ⟨some s.id, .silent⟩ → (b.insertInto slots).get i = 0)
    ∧ (∀ i n, i < 128 → t.activeSlots.get i = ⟨some s.id, .localIn n⟩ →
        (b.insertInto slots).get i = if s.isDesk = true ∧ n = 15 then 0 else s.audio.localIn.get n.val)
    ∧ (∀ i c, i < 128 → t.activeSlots.get i = ⟨some s.id, .bus c⟩ →
        (b.insertInto slots).get i = if s.isDesk = true then 0 else s.audio.busOut.get c.val)
    ∧ (∀ i, i < 128 → t.activeSlots.get i = ⟨some s.id, .pattern⟩ →
        ((b.insertInto slots).get i).toInt
          = ((t.timing.superframe * 48 + t.timing.frame) % 3145728 * 5 % 16777216 : Nat) - 8388608) := by
  have plan : t.activeSlots = b.activeSlots := by
    rw [State.activeSlots, State.activeSlots, show t.plan = b.plan from o.at .plan (by decide)]
  have id : b.id = s.id := by rw [State.id, State.id, hstraps]
  have desk : b.isDesk = s.isDesk := by rw [State.isDesk, State.isDesk, hstraps]
  have timing : t.timing = b.timing := o.at .timing (by decide)
  have own (i : Nat) (x : SlotSource) (hi : i < 128) (e : t.activeSlots.get i = ⟨some s.id, x⟩) :
      (b.insertInto slots).get i = b.sourceSample x := by
    rw [plan] at e
    rw [State.insertInto_own slots hi (by rw [e, id]), e]
  rw [plan] at own ⊢
  refine ⟨fun i hi hn => ?_, fun i hi e => own i _ hi e, fun i n hi e => ?_, fun i c hi e => ?_, fun i hi e => ?_⟩
  · exact State.insertInto_other slots hi (by rw [id]; exact hn)
  · rw [own i _ hi e, State.sourceSample, State.localSample_eq, desk, haudio]
    simp only [Fin.ext_iff]
    rfl
  · rw [own i _ hi e, State.sourceSample, State.busSample_eq, desk, haudio]
  · rw [own i _ hi e, State.sourceSample, patternValue_toInt, timing]
    rfl

/-- The lane bytes of the frame sent, read off the state after it (R36, R184). -/
theorem written_lane (hs : t.service.laneOut = b.service.laneOut) (n : Nat) :
    (t.service.laneOut = none → (b.laneBytes n).getD lane = lane)
    ∧ ∀ o, t.service.laneOut = some o →
        (o.cellTime = n / 8 → ∀ j, j < 3 → ((b.laneBytes n).getD lane).get j = o.bytes.get (3 * (n % 8) + j))
        ∧ (o.cellTime ≠ n / 8 → (b.laneBytes n).getD lane = lane) := by
  rw [hs]
  refine ⟨fun h => ?_, fun o h => ⟨fun hn j hj => ?_, fun hn => ?_⟩⟩
  · rw [State.laneBytes_none h]
    rfl
  · rw [State.laneBytes_own h hn]
    exact laneSlice_get _ hj
  · rw [State.laneBytes_other h hn]
    rfl

/-- The taking of a cell is told of a later state with the same queues, and by an earlier one's next targets. -/
theorem CellTaken.told {v : State} {k : Nat} {steps : List StepRecord} {relay outbound : List Cell}
    (h : CellTaken s b k steps relay outbound) (hn : NoNext v → NoNext s) (hs : t.service = b.service) (hid : t.id = b.id) :
    CellTaken v t k steps relay outbound := by
  obtain ⟨step, rest⟩ := h
  unfold CellTaken
  rw [hs, hid]
  refine ⟨fun r l e => ?_, rest⟩
  obtain ⟨hout, hrelay, hcells, left, added, hqueue, hsub, hmine, hothers, hnone⟩ := step r l e
  exact ⟨hout, hrelay, hcells, left, added, hqueue, hsub, hmine, hothers, fun k => hnone (hn k)⟩

/-- What the taking of a cell leaves in the queues, at a node other than node 0 (R36). -/
theorem turned_queues (hid : s.id ≠ 0) {n : Nat} (o : OnlyIn sentGroups (s.laneTurn n) t) (hn : n % 8 = 0 → NoNext u → NoNext s) :
    (n % 8 = 0 → t.members.grants.get (n / 8) = some s.id →
      CellTaken u t (n / 8) s.service.stepQueue [] s.service.outbound)
    ∧ (n % 8 ≠ 0 ∨ t.members.grants.get (n / 8) ≠ some s.id →
        t.service.stepQueue = s.service.stepQueue ∧ t.service.outbound = s.service.outbound
        ∧ (n % 8 = 0 → t.service.laneOut = none))
    ∧ (n % 8 ≠ 0 → t.service.laneOut = s.service.laneOut) := by
  have service : t.service = (s.laneTurn n).service := o.at .service (by decide)
  have members : t.members = s.members := (o.at .members (by decide)).trans ((s.laneTurn_only n).at .members (by decide))
  have id : t.id = (s.laneTurn n).id := by
    rw [State.id, State.id, show t.straps = (s.laneTurn n).straps from o.at .straps (by decide)]
  rw [members]
  refine ⟨fun h8 hg => ?_, fun h => ?_, fun h8 => ?_⟩
  · have taken := s.takeCell_spec (n / 8)
    rw [if_neg hid] at taken
    rw [State.laneTurn_granted h8 hg] at service id
    exact taken.told (hn h8) service id
  · rw [service]
    by_cases h8 : n % 8 = 0
    · rw [State.laneTurn_ungranted h8 (h.resolve_left (not_not.mpr h8))]
      exact ⟨rfl, rfl, fun _ => rfl⟩
    · rw [State.laneTurn_within h8]
      exact ⟨rfl, rfl, fun k => absurd k h8⟩
  · rw [service, State.laneTurn_within h8]

/-! ### Sides in service (R57 to R59) -/

theorem State.inService_iff : s.inService p = true ↔ (s.span p).state = .good ∨ (s.span p).state = .defect := by
  unfold State.inService SpanState.inService
  cases (s.span p).state <;> simp

/-- A side in service is sent no restore-ready flag (R47). -/
theorem State.sendsReady_inService (hs : s.inService p = true) : s.sendsReady p = false := by
  rcases State.inService_iff.mp hs with e | e <;> simp [State.sendsReady, e]

/-- The defects of a side are those of its port, its partner and the node's id (R46). -/
theorem Steady.localDefect (hu : Steady s u) (q : Side) : u.localDefect q = s.localDefect q := by
  have id : u.id = s.id := by rw [State.id, State.id, show u.straps = s.straps from hu.only.at .straps (by decide)]
  simp only [State.localDefect, State.echo, Port.looped, hu.locks, hu.loops, hu.spans, id]

theorem Steady.inService (hu : Steady s u) (q : Side) : u.inService q = s.inService q := by
  simp only [State.inService, hu.spans]

/-! ### Forwarded and taken (R27, R57, R58) -/

/-- The ways through a node: out by E from W, or back by the side it came by (R58). -/
def Route (s : State) (p out : Side) : Prop :=
  (p = .w ∧ out = .e ∧ ((s.span (oppositeSide p)).state = .good ∨ (s.span (oppositeSide p)).state = .defect))
  ∨ (out = p ∧ ((s.span (oppositeSide p)).state = .failed ∨ (s.span (oppositeSide p)).state = .restoring))

theorem Route.output (r : Route s p out) (hgood : (s.span p).state = .good) : s.primaryOutput = some out := by
  have here := State.inService_good hgood
  unfold State.primaryOutput
  rcases r with ⟨rfl, rfl, hb⟩ | ⟨rfl, hb⟩
  · rw [show s.inService .e = true from State.inService_iff.mpr hb, here]
  · have beyond : s.inService (oppositeSide out) = false := by
      rcases hb with e | e <;> simp [State.inService, e, SpanState.inService]
    cases out with
    | e => rw [here, show s.inService .w = false from beyond]
    | w => rw [here, show s.inService .e = false from beyond]

theorem Route.taken (r : Route s p out) : p = .w ∨ s.inService .w = false := by
  rcases r with ⟨rfl, _, _⟩ | ⟨_, hb⟩
  · exact .inl rfl
  · cases p with
    | w => exact .inl rfl
    | e =>
      right
      rcases hb with e | e <;> simp [State.inService, show (s.span .w).state = _ from e, SpanState.inService]

theorem Route.serves (r : Route s p out) (hgood : (s.span p).state = .good) : s.inService out = true := by
  rcases r with ⟨rfl, rfl, hb⟩ | ⟨rfl, _⟩
  · exact State.inService_iff.mpr hb
  · exact State.inService_good hgood

theorem Route.settled (r : Route s p out) (hgood : (s.span p).state = .good) (q : Side) : (s.span q).state ≠ .unwrapPending := by
  have beyond : (s.span (oppositeSide p)).state ≠ .unwrapPending := by
    rcases r with ⟨_, _, e | e⟩ | ⟨_, e | e⟩ <;> rw [e] <;> decide
  by_cases hq : q = p
  · rw [hq, hgood]
    decide
  · have : q = oppositeSide p := by revert hq; cases p <;> cases q <;> decide
    rwa [this]

/-- The frame as it leaves, and what is taken of it, for the statement's first part. -/
theorem frame_forwarded {period : List Byte} (hid : s.id ≠ 0) (hlisten : (s.port p).listens)
    (hlock : (s.port p).lock = .locked) (hloop : (s.port p).loop = .off) (hgood : (s.span p).state = .good)
    (hecho : (s.span p).partner ≠ some s.id) (hready : (s.span p).partnerReady = false) (hroute : Route s p out)
    (hj : judgeFrame ((s.port p).hears period) = some (.primary h slots lane)) (hturned : h.turned = (p == .e))
    (hfar : h.farFault = false) :
    ∃ u c t, exec (.receiveFrame p period) s = .next t ∧ Steady s u ∧ c = u.carried h slots lane
      ∧ c.primaryOutput = some out ∧ (∀ q, c.span q = s.span q) ∧ c.id = s.id
      ∧ Ended ((c.laneTurn h.frame).transmit out (c.forwarded out h slots lane)) t := by
  obtain ⟨u, t, hx, hu, he⟩ := receiveFrame_taken hlisten hlock hloop hgood hecho hready hj hfar
  have id : u.id = s.id := by rw [State.id, State.id, show u.straps = s.straps from hu.only.at .straps (by decide)]
  have passes : p = .w ∨ u.inService .w = false := by
    rw [hu.inService]
    exact hroute.taken
  have spans (q : Side) : (u.carried h slots lane).span q = s.span q := by
    rw [State.carried_span fun q => by rw [hu.spans]; exact hroute.settled hgood q, hu.spans]
  have route : Route (u.carried h slots lane) p out := by
    unfold Route
    rwa [spans]
  have output := route.output (by rw [spans, hgood])
  rw [State.takeFrame_traffic (by rw [hu.spans, hgood]) passes hturned, State.ringTraffic_carried (by rwa [id]),
    State.forward_eq output] at he
  refine ⟨u, _, t, hx, hu, rfl, output, spans, ?_, he⟩
  rw [State.id, show _ = u.straps from State.carried_only.at .straps (by decide)]
  exact id

/-! ### Not taken (R57, R59) -/

theorem State.takeFrame_untaken (hr : h.turned ≠ (p == .e) ∨ s.primaryInput ≠ some p) :
    s.takeFrame p (.primary h slots lane) = s.passTurned p (.primary h slots lane) := by
  have input : (s.passTurned p (.primary h slots lane)).primaryInput = s.primaryInput := by
    have o : OnlyIn [.portE, .portW] s (s.passTurned p (.primary h slots lane)) := by simp
    simp only [State.primaryInput, State.inService, o.span_eq (by decide : Group.ring ∉ _)]
  have e : s.takeFrame p (.primary h slots lane) =
      if (s.passTurned p (.primary h slots lane)).primaryInput = some p ∧ accepts p h = true then
        (s.passTurned p (.primary h slots lane)).ringTraffic h slots lane
      else s.passTurned p (.primary h slots lane) := rfl
  rw [e, if_neg]
  rintro ⟨hi, ha⟩
  rcases hr with hr | hr
  · exact hr (by simpa [accepts] using ha)
  · exact hr (input ▸ hi)

end Sys2Proof.Machine
end

section
/-! The frames forwarded and passed, put together for O12. -/

namespace Sys2Proof.Machine

variable {s t u : State} {p q out : Side} {h : Header} {slots : Tab Sample 128} {lane : Lane}

/-- The through traffic of a node whose spans are both in service: a turned frame at E leaves by W (R59). -/
theorem State.passTurned_through (hp : p = .e) (ht : h.turned = true) (he : s.inService .e = true) (hw : s.inService .w = true) :
    s.passTurned p (.primary h slots lane) =
      s.transmit .w (.primary { h with farFault := s.localDefect .w, restoreReady := false } slots lane) := by
  unfold State.passTurned
  rw [if_pos ⟨hp, rfl, ht, he, hw⟩]
  simp only [Frame.withHeader, Frame.header, State.sideFlags, State.sendsReady_inService hw]

theorem State.passTurned_none (hn : p ≠ .e ∨ h.turned = false ∨ s.inService .w = false) :
    s.passTurned p (.primary h slots lane) = s := by
  unfold State.passTurned
  rw [if_neg]
  rintro ⟨hp, _, ht, _, hw⟩
  rcases hn with hn | hn | hn
  · exact hn hp
  · exact absurd (hn.symm.trans ht) (by decide)
  · exact absurd (hn.symm.trans hw) (by decide)

/-- A frame that the node does not take changes ports, ring state and clock alone, and passes where both spans are in service
(R57, R59). -/
theorem frame_passed {period : List Byte} (hlisten : (s.port p).listens)
    (hlock : (s.port p).lock = .locked) (hloop : (s.port p).loop = .off) (hgood : (s.span p).state = .good)
    (hecho : (s.span p).partner ≠ some s.id) (hready : (s.span p).partnerReady = false)
    (hr : (p = .e ∧ (s.ring.spanW.state = .good ∨ s.ring.spanW.state = .defect)) ∨ h.turned ≠ (p == .e))
    (hj : judgeFrame ((s.port p).hears period) = some (.primary h slots lane)) (hfar : h.farFault = false) :
    ∃ t, exec (.receiveFrame p period) s = .next t
      ∧ OnlyIn [.portE, .portW, .timing, .ring, .present, .lines, .notices, .counters] s t
      ∧ t.timing = { s.timing with clock := t.timing.clock } ∧ t.present.slots = s.present.slots
      ∧ CountersOutside [.noticesLost] s t
      ∧ (p = .e ∧ (s.ring.spanW.state = .good ∨ s.ring.spanW.state = .defect) → h.turned = true → t.portE.tx = s.portE.tx
          ∧ t.portW.tx = some (.primary { h with farFault := s.localDefect .w, restoreReady := false } slots lane))
      ∧ (¬ (p = .e ∧ (s.ring.spanW.state = .good ∨ s.ring.spanW.state = .defect)) ∨ h.turned = false →
          ∀ q, (t.port q).tx = (s.port q).tx) := by
  obtain ⟨u, t, hx, hu, he⟩ := receiveFrame_taken hlisten hlock hloop hgood hecho hready hj hfar
  have west : u.inService .w = true ↔ s.ring.spanW.state = .good ∨ s.ring.spanW.state = .defect := by
    rw [hu.inService]
    exact State.inService_iff
  have here : u.inService p = true := by
    rw [hu.inService]
    exact State.inService_good hgood
  have untaken : h.turned ≠ (p == .e) ∨ u.primaryInput ≠ some p := by
    rcases hr with ⟨rfl, hw⟩ | hr
    · right
      simp [State.primaryInput, here, west.mpr hw]
    · exact .inl hr
  rw [State.takeFrame_untaken untaken] at he
  have passed : OnlyIn [.portE, .portW] u (u.passTurned p (.primary h slots lane)) := by simp
  have all : OnlyIn [.portE, .portW, .notices, .counters] u t := (passed.mono (by decide)).trans (he.only.mono (by decide))
  have timing : t.timing = u.timing := all.at .timing (by decide)
  refine ⟨t, hx, hu.only.trans (all.mono (by decide)), ?_, ?_, ?_, fun ⟨hp, hw⟩ ht => ?_, fun hn q => ?_⟩
  · rw [timing]
    exact hu.timing
  · rw [show t.present = u.present from all.at .present (by decide), hu.slots]
  · intro k hk
    exact (he.counters k hk).trans ((passed.counter_eq (by decide) k).trans (hu.counters k hk))
  · rw [State.passTurned_through hp ht (hp ▸ here) (west.mpr hw)] at he
    obtain ⟨sent, others⟩ := u.transmit_port (p := .w)
      (.primary { h with farFault := u.localDefect .w, restoreReady := false } slots lane)
    rw [← hu.localDefect]
    refine ⟨?_, ?_⟩
    · exact congrArg Port.tx ((he.port (q := .e)).trans (others .e (by decide))) |>.trans (hu.sends .e)
    · exact (congrArg Port.tx (he.port (q := .w))).trans sent
  · have none : p ≠ .e ∨ h.turned = false ∨ u.inService .w = false := by
      rcases hn with hn | hn
      · by_cases hp : p = .e
        · exact .inr (.inr (Bool.eq_false_iff.mpr fun k => hn ⟨hp, west.mp k⟩))
        · exact .inl hp
      · exact .inr (.inl hn)
    rw [State.passTurned_none none] at he
    exact (congrArg Port.tx he.port).trans (hu.sends q)

/-- Settles O12: what is forwarded is written after the frame is taken, and what is not taken passes or stays. -/
theorem framesForwarded : Obligations.FramesForwarded := by
  refine ⟨fun p out period s h slots lane => ?_, fun p period s h slots lane => ?_⟩
  · intro beyond hid hlisten hlock hloop hgood hecho hready hroute hj hturned hfar jumped
    obtain ⟨u, c, t, hx, hu, hc, output, spans, id, he⟩ :=
      frame_forwarded hid hlisten hlock hloop hgood hecho hready hroute hj hturned hfar
    have uid : u.id = s.id := by rw [State.id, State.id, show u.straps = s.straps from hu.only.at .straps (by decide)]
    have uid0 : u.id ≠ 0 := by rwa [uid]
    have service : u.service = s.service := hu.only.at .service (by decide)
    have jumps : h.jumps u ↔ jumped := by
      unfold Header.jumps
      rw [hu.timing]
    have carried : OnlyIn (masterGroups ++ listGroups) u c := hc ▸ State.carried_only
    have turn := c.laneTurn_only h.frame
    obtain ⟨sent, others⟩ := (c.laneTurn h.frame).transmit_port (p := out) (c.forwarded out h slots lane)
    have after : OnlyIn sentGroups (c.laneTurn h.frame) t :=
      OnlyIn.trans (t := (c.laneTurn h.frame).transmit out (c.forwarded out h slots lane)) (by simp [sentGroups])
        (he.only.mono (by decide))
    have fromC : OnlyIn [.portE, .portW, .service, .preamp, .notices, .counters] c t :=
      (turn.mono (by decide)).trans (after.mono (by decide))
    have straps : c.straps = s.straps := (carried.at .straps (by decide)).trans (hu.only.at .straps (by decide))
    have audio : c.audio = s.audio := (carried.at .audio (by decide)).trans (hu.only.at .audio (by decide))
    have ports (q : Side) : c.port q = u.port q := carried.port_eq (by cases q <;> decide)
    have defect : c.localDefect out = s.localDefect out := by
      rw [← hu.localDefect]
      simp only [State.localDefect, State.echo, ports, spans, hu.spans, id, uid]
    obtain ⟨hframe, hsuper, horigin, hturn, hfault, hrestore, hrest, hpres, hreq⟩ := State.forwardHeader_fields (s := c) (out := out) (h := h)
    obtain ⟨mark, level, pairs⟩ := c.ownMarks_pairs h
    have serves : c.inService out = true := by
      rw [State.inService, spans]
      exact Route.serves hroute hgood
    obtain ⟨cell, nocell, within⟩ := turned_queues (u := s) (by rwa [id]) after fun h8 hn => by
      have hnu : NoNext u := hn.of_onlyIn hu.only (by decide)
      exact hc ▸ State.carried_noNext (by omega) hnu
    obtain ⟨other, silent, localIn, bus, pattern⟩ := inserted_slots (s := s) (slots := slots) after
      ((turn.at .audio (by decide)).trans audio) ((turn.at .straps (by decide)).trans straps)
    obtain ⟨noLane, someLane⟩ := written_lane (t := t) (lane := lane)
      (congrArg Service.laneOut (after.at .service (by decide))) h.frame
    have members : t.members = c.members := fromC.at .members (by decide)
    refine ⟨t, c.forwardHeader out h, (c.laneTurn h.frame).insertInto slots,
      ((c.laneTurn h.frame).laneBytes h.frame).getD lane, c.service.stepQueue, c.service.outbound, hx, ?_, fun q hq => ?_,
      hframe, hsuper, horigin, hturn, hfault.trans defect, hrestore.trans (State.sendsReady_inService serves),
      by rw [hrest, id], by rw [hpres, ← id, mark, straps], fun n hn => ?_, ?_, fun h1 => ?_, fun h0 => ?_,
      by rw [← id]; exact cell, by rw [← id]; exact nocell, fun h8 hjump => ?_, other, silent, localIn, bus, pattern, noLane,
      someLane, ?_⟩
    · exact (congrArg Port.tx he.port).trans sent
    · rw [he.port, others q hq, turn.port_eq (by cases q <;> decide), ports, hu.sends]
    · rw [hpres, hreq]
      exact pairs n (by rwa [id])
    · rw [hreq, ← id, level, State.requestLevel_eq, if_neg (by rwa [id])]
      rfl
    · have grows := State.carried_grows (slots := slots) (lane := lane) uid0 h1
      rw [← hc] at grows
      refine ⟨service ▸ grows.steps, service ▸ grows.outbound, fun hjump => ?_⟩
      have queues := State.carried_queues (slots := slots) (lane := lane) uid0 h1 (fun k => hjump (jumps.mp k))
      rwa [← hc, service] at queues
    · have lists := State.carried_lists (s := u) (slots := slots) (lane := lane) h0
      rwa [← hc, ← members] at lists
    · rw [within h8, hc, State.carried_laneOut uid0 (fun k => hjump (jumps.mp k)), service]
    · have filed : OnlyIn [.service, .counters] (((u.mastered h).takeLists h).fileRing (globalCount h.superframe h.frame) slots) c := by
        rw [hc]
        simp [State.carried]
      have stored : ((u.mastered h).takeLists h).present = (u.mastered h).present :=
        ((u.mastered h).takeLists_only h).at .present (by decide)
      have lateU : u.late = s.late := hu.counters _ (by decide)
      refine State.fileRing_as (a := (u.mastered h).takeLists h) ((filed.mono (by decide)).trans fromC) ?_ ?_ ?_
      · refine (he.counters _ (by decide)).trans ?_
        have sentLate : ((c.laneTurn h.frame).transmit out (c.forwarded out h slots lane)).late = c.late := by
          rw [OnlyIn.late_eq (s := c.laneTurn h.frame) (l := [.portE, .portW]) (by simp) (by decide), State.laneTurn_late]
        refine sentLate.trans ?_
        rw [hc]
        exact State.takeLane_late _ _ _
      · rw [stored]
        by_cases hjump : jumped
        · rw [if_pos hjump, State.mastered_slots_jump (jumps.mpr hjump), hu.slots]
        · rw [if_neg hjump, (State.mastered_still fun k => hjump (jumps.mp k)).1, hu.slots]
      · exact ((State.takeLists_late _).trans State.mastered_late).trans lateU
  · intro through hlisten hlock hloop hgood hecho hready hr hj hfar
    exact frame_passed hlisten hlock hloop hgood hecho hready hr hj hfar

end Sys2Proof.Machine
end

section
/-! The state in which a local frame boundary does its frame's work: what is taken and counted before it (R24, R33, R35). -/

namespace Sys2Proof.Machine

variable {l : List Group} {s t u : State} {p q : Side} {n : Nat}

/-! ### What stands due leaves of the timer and of the ring's lists -/

/-- Of the timing at most the clock moves before a boundary counts. -/
theorem settleKeeps_timing (x : Timing) : SettleKeeps fun u => u.timing = { x with clock := u.timing.clock } := by
  have away {u v : State} {l : List Group} (h : u.timing = { x with clock := u.timing.clock }) (o : OnlyIn l u v)
      (hl : .timing ∉ l) : v.timing = { x with clock := v.timing.clock } := by
    rw [show v.timing = u.timing from o.at .timing hl]
    exact h
  refine ⟨fun u v h o => away h o (by decide), fun u h => ?_,
    fun u h => away (l := [.members, .preamp, .service, .talk, .lines, .image, .notices, .counters]) h (by simp) (by decide),
    fun p u h => away (l := [.ring, .present, .lines, .notices, .counters]) h (by simp) (by decide),
    fun p u h => away (l := [.ring, .present, .lines, .notices, .counters]) h (by simp) (by decide),
    fun p u h => away (l := [.ring, .present, .lines, .notices, .counters]) h (by simp) (by decide),
    fun u h => away (l := [.plan, .notices, .counters]) h (by simp) (by decide),
    fun n u h => away (l := [.preamp, .service, .tracking, .notices, .counters]) h (by simp) (by decide),
    fun n u h => away (l := [.preamp, .notices, .counters]) h (by simp) (by decide),
    fun u h => away (l := [.preamp]) h (by simp) (by decide),
    fun c u _ h => away (l := [.talk, .lines, .notices, .counters]) h (by simp) (by decide),
    fun n u h => away (l := [.talk, .lines, .notices, .counters]) h (by simp) (by decide),
    fun u h => away (l := [.preamp, .notices, .counters]) h (by simp) (by decide)⟩
  rw [(Steady.absenceExpiry (s := u)).timing, h]

/-- What node 0 keeps of returned frames: the return store, their marks, the map and the list computed from their levels. -/
structure RingLists where
  returnStore : Option ReturnStore
  returnedMarks : Option Byte
  ringMap : List NodeId
  nextGrants : Option GrantPlan

def Members.lists (m : Members) : RingLists := ⟨m.returnStore, m.returnedMarks, m.ringMap, m.nextGrants⟩

theorem forOthers_lists {f : NodeId → State → State} (hf : ∀ n u, (f n u).members.lists = u.members.lists) :
    (s.forOthers f).members.lists = s.members.lists := by
  refine foldl_keeps (p := fun u => u.members.lists = s.members.lists) (f := fun u n => f n u) (fun u n h => ?_) _ rfl
  exact (hf n u).trans h

theorem State.setReach_lists (n : NodeId) (r : Reach) : (s.setReach n r).members.lists = s.members.lists := by
  rw [setReach_members]
  rfl

theorem State.isolationExpiry_lists : s.isolationExpiry.members.lists = s.members.lists := by
  unfold State.isolationExpiry
  split
  · refine (forOthers_lists fun n u => ?_).trans rfl
    split
    · rfl
    · exact State.setReach_lists _ _
  · rfl

theorem settleKeeps_lists (x : RingLists) : SettleKeeps fun u => u.members.lists = x := by
  have away {u v : State} {l : List Group} (h : u.members.lists = x) (o : OnlyIn l u v) (hl : .members ∉ l) :
      v.members.lists = x := by
    rw [show v.members = u.members from o.at .members hl]
    exact h
  exact ⟨fun u v h o => away h o (by decide),
    fun u h => away (l := [.timing, .ring, .present, .lines, .notices]) h (by simp) (by decide),
    fun u h => State.isolationExpiry_lists.trans h,
    fun p u h => away (l := [.ring, .present, .lines, .notices, .counters]) h (by simp) (by decide),
    fun p u h => away (l := [.ring, .present, .lines, .notices, .counters]) h (by simp) (by decide),
    fun p u h => away (l := [.ring, .present, .lines, .notices, .counters]) h (by simp) (by decide),
    fun u h => away (l := [.plan, .notices, .counters]) h (by simp) (by decide),
    fun n u h => away (l := [.preamp, .service, .tracking, .notices, .counters]) h (by simp) (by decide),
    fun n u h => away (l := [.preamp, .notices, .counters]) h (by simp) (by decide),
    fun u h => away (l := [.preamp]) h (by simp) (by decide),
    fun c u _ h => away (l := [.talk, .lines, .notices, .counters]) h (by simp) (by decide),
    fun n u h => away (l := [.talk, .lines, .notices, .counters]) h (by simp) (by decide),
    fun u h => away (l := [.preamp, .notices, .counters]) h (by simp) (by decide)⟩

theorem State.settle_timing : s.settle.timing = { s.timing with clock := s.settle.timing.clock } :=
  (settleKeeps_timing s.timing).settle rfl

theorem State.settle_lists : s.settle.members.lists = s.members.lists := (settleKeeps_lists s.members.lists).settle rfl

theorem State.settle_straps : s.settle.straps = s.straps :=
  OnlyIn.at (l := [.ring, .present, .lines, .notices, .counters, .timing, .members, .service, .preamp, .talk, .image, .plan,
    .tracking]) (by simp) .straps (by decide)

/-! ### The boundary's counting (R24, R35) -/

theorem State.begin_timing (levels : Tab Bool 8) : (s.begin levels).timing = s.settle.timing.advance := by
  unfold State.begin
  dsimp only
  split
  · rw [State.superframe_timing]
    exact State.advanced_timing
  · exact State.advanced_timing

theorem State.superframe_lists {levels : Tab Bool 8} : (s.superframe levels).members.lists = s.members.lists := by
  rw [State.superframe_members]
  rfl

theorem State.begin_lists (levels : Tab Bool 8) : (s.begin levels).members.lists = s.members.lists := by
  have counted : s.settle.advanced.members.lists = s.members.lists := by
    rw [show s.settle.advanced.members = s.settle.members from State.advanced_elsewhere.at .members (by decide),
      State.settle_lists]
  have super : (s.settle.advanced.superframe levels).members.lists = s.members.lists :=
    State.superframe_lists.trans counted
  unfold State.begin
  dsimp only
  split
  · exact super
  · exact counted

theorem State.begin_straps (levels : Tab Bool 8) : (s.begin levels).straps = s.straps := by
  have counted : s.settle.advanced.straps = s.straps :=
    (State.advanced_elsewhere.at .straps (by decide)).trans State.settle_straps
  unfold State.begin
  dsimp only
  split
  · exact (show OnlyIn [.members, .ring, .preamp, .talk, .lines] s.settle.advanced (s.settle.advanced.superframe levels) by
      simp).at .straps (by decide) |>.trans counted
  · exact counted

/-- The state whose boundary has been counted: the counting is done here unless the work is owed (assumption log, entry 5). -/
def State.begun (s : State) : State := if s.timing.frameOwed then s else s.begin s.lines.levels

/-- The state in which the frame's work is done: what stands due then is taken (assumption log, entry 6). -/
def State.due (s : State) : State :=
  if s.timing.frameOwed = true ∨ s.begun.timing.frame = 0 then s.begun.settle else s.begun

theorem State.localBoundary_eq (inputs : Tab Sample 64) (hrun : s.timing.running = true) :
    s.localBoundary inputs = s.due.event (·.frameWork inputs) := by
  unfold State.localBoundary State.due State.begun
  by_cases ho : s.timing.frameOwed = true
  · simp [hrun, ho]
  · simp only [hrun, ho, Bool.not_true, Bool.false_eq_true, if_false, false_or]

/-- What the frame's work finds of the state before the boundary. -/
structure Due (s d : State) : Prop where
  straps : d.straps = s.straps
  running : d.timing.running = s.timing.running
  lists : d.members.lists = s.members.lists
  counted : s.timing.frameOwed = false → d.timing.frame = (s.timing.frame + 1) % 48
    ∧ d.timing.superframe = (if s.timing.frame = 47 then (s.timing.superframe + 1) % 65536 else s.timing.superframe)
    ∧ d.timing.masterAbsence = (if s.timing.masterInPeriod then 0 else min (s.timing.masterAbsence + 1) 8)
  owed : s.timing.frameOwed = true → d.timing.frame = s.timing.frame ∧ d.timing.superframe = s.timing.superframe
    ∧ d.timing.masterAbsence = s.timing.masterAbsence

theorem begun_due (s : State) : Due s s.begun := by
  unfold State.begun
  by_cases ho : s.timing.frameOwed = true
  · rw [if_pos ho]
    exact ⟨rfl, rfl, rfl, fun h => absurd (h.symm.trans ho) (by decide), fun _ => ⟨rfl, rfl, rfl⟩⟩
  · rw [if_neg ho]
    have timing := (s.begin_timing s.lines.levels).trans (congrArg Timing.advance State.settle_timing)
    exact ⟨State.begin_straps _, by rw [timing]; rfl, State.begin_lists _,
      fun _ => ⟨by rw [timing]; rfl, by rw [timing]; rfl, by rw [timing]; rfl⟩, fun h => absurd h ho⟩

theorem Due.settle (h : Due s u) : Due s u.settle := by
  have timing := u.settle_timing
  refine ⟨State.settle_straps.trans h.straps, ?_, State.settle_lists.trans h.lists, fun ho => ?_, fun ho => ?_⟩
  · rw [timing]
    exact h.running
  · rw [timing]
    exact h.counted ho
  · rw [timing]
    exact h.owed ho

theorem due_spec (s : State) : Due s s.due := by
  unfold State.due
  split
  · exact (begun_due s).settle
  · exact begun_due s

end Sys2Proof.Machine
end

section
/-! A node's own part of one local frame: its inputs, its mix, its own samples filed, the console lane and the outputs (R74, R85, R89,
R147). -/

namespace Sys2Proof.Machine

variable {l : List Group} {s t u : State} {p q : Side} {i n : Nat} {c : Cell}

/-! ### Inputs, presentation and mix -/

/-- The state that presents: the inputs sampled, the converter line served (R119). -/
def State.sampled (s : State) (inputs : Tab Sample 64) : State := (s.setAudio { s.audio with localIn := inputs }).converterLine

theorem State.sampled_only (inputs : Tab Sample 64) :
    OnlyIn [.audio, .preamp, .service, .notices, .counters] s (s.sampled inputs) := by simp [State.sampled]

theorem State.sampled_audio (inputs : Tab Sample 64) : (s.sampled inputs).audio = { s.audio with localIn := inputs } :=
  (show OnlyIn [.preamp, .service, .notices, .counters] (s.setAudio { s.audio with localIn := inputs })
    (s.sampled inputs) by simp [State.sampled]).at .audio (by decide)

theorem State.presentFrame_only : OnlyIn [.present, .tracking, .talk, .lines, .notices, .counters] s s.presentFrame := by simp

theorem State.mixBus_audio (n : Nat) : (State.mixBus n s).audio = { s.audio with busOut := (State.mixBus n s).audio.busOut } := by
  unfold State.mixBus
  dsimp only
  split <;> rfl

/-- The mix moves the bus outputs alone of the audio (R147). -/
theorem State.mix_audio : s.mix.audio = { s.audio with busOut := s.mix.audio.busOut } := by
  unfold State.mix
  split
  · exact forEach_keeps (p := fun u => u.audio = { s.audio with busOut := u.audio.busOut }) (f := State.mixBus)
      (fun i u h => by rw [State.mixBus_audio, h]) 16 rfl
  · rfl

theorem State.mix_only : OnlyIn [.buses, .audio, .notices, .counters] s s.mix := by simp

/-- The state with this frame's samples: presented and mixed. -/
def State.mixed (s : State) (inputs : Tab Sample 64) : State := (s.sampled inputs).presentFrame.mix

theorem State.mixed_only (inputs : Tab Sample 64) : OnlyIn [.audio, .preamp, .service, .present, .tracking, .talk, .lines,
    .buses, .notices, .counters] s (s.mixed inputs) :=
  (((State.sampled_only inputs).mono (by decide)).trans (State.presentFrame_only.mono (by decide))).trans
    (State.mix_only.mono (by decide))

theorem State.mixed_localIn (inputs : Tab Sample 64) : (s.mixed inputs).audio.localIn = inputs := by
  rw [State.mixed, State.mix_audio, show _ = (s.sampled inputs).audio from State.presentFrame_only.at .audio (by decide),
    State.sampled_audio]

/-! ### The node's own samples (R74) -/

theorem insertFiled_find (x : Filed) (l : List Filed) :
    (insertFiled x l).find? (fun y => y.capture == x.capture) = some x := by
  induction l with
  | nil => simp [insertFiled]
  | cons y l ih =>
    unfold insertFiled
    split
    · simp
    · split
      · simp
      · next h =>
        have hne : (y.capture == x.capture) = false := beq_eq_false_iff_ne.mpr fun e => h (by rw [e])
        rw [List.find?_cons, hne]
        exact ih

theorem State.fileOwn_own (hi : i < 128) (h : (s.activeSlots.get i).inserter = some s.id) : s.fileOwn.present.slots.get i =
    { s.present.slots.get i with
      filed := insertFiled ⟨s.count, s.sourceSample (s.activeSlots.get i).source⟩ (s.present.slots.get i).filed } := by
  rw [State.fileOwn, State.setPresent_present, Tab.get_mapIdx _ _ hi, State.inserted_own h]

theorem State.fileOwn_other (hi : i < 128) (h : (s.activeSlots.get i).inserter ≠ some s.id) :
    s.fileOwn.present.slots.get i = s.present.slots.get i := by
  rw [State.fileOwn, State.setPresent_present, Tab.get_mapIdx _ _ hi, State.inserted_other h]

/-! ### The console lane (R89) -/

/-- The three bytes of input 15 join the host's cell. -/
def State.hostLane (s : State) : Service := { s.service with
  consoleIn := { s.service.consoleIn with
    parts := s.service.consoleIn.parts.put (s.timing.frame % 8) (some (.ofList 3 0 (sampleBytes (s.audio.localIn.get 15)))) } }

theorem State.consoleFrame_stage (h : s.isDesk = false) : s.consoleFrame = s := by simp [State.consoleFrame, h]

theorem State.consoleFrame_within (h : s.isDesk = true) (hf : s.timing.frame % 8 ≠ 0) :
    s.consoleFrame.service = s.hostLane := by
  simp [State.consoleFrame, State.hostLane, h, hf]

theorem State.consoleFrame_next (h : s.isDesk = true) (hf : s.timing.frame % 8 = 0) {q : List Cell}
    (hc : s.service.console = c :: q) :
    s.consoleFrame.service = { s.hostLane with console := q, consoleOut := c.encode } := by
  simp [State.consoleFrame, State.hostLane, h, hf, hc]

theorem State.consoleFrame_empty (h : s.isDesk = true) (hf : s.timing.frame % 8 = 0) (hc : s.service.console = []) :
    s.consoleFrame.service = { s.hostLane with consoleOut := .fill 24 0 } := by
  simp [State.consoleFrame, State.hostLane, h, hf, hc]

/-- Of the service lane the console lane moves the console queue and its two cells (R89). -/
theorem State.consoleFrame_service : s.consoleFrame.service = { s.service with
    console := s.consoleFrame.service.console, consoleIn := s.consoleFrame.service.consoleIn
    consoleOut := s.consoleFrame.service.consoleOut } := by
  by_cases h : s.isDesk = true
  · by_cases hf : s.timing.frame % 8 = 0
    · cases hc : s.service.console with
      | nil => rw [State.consoleFrame_empty h hf hc]; rfl
      | cons c q => rw [State.consoleFrame_next h hf hc]; rfl
    · rw [State.consoleFrame_within h hf]
      rfl
  · rw [State.consoleFrame_stage (by simpa using h)]

theorem State.consoleFrame_consoleIn (h : s.isDesk = true) : s.consoleFrame.service.consoleIn = s.hostLane.consoleIn := by
  by_cases hf : s.timing.frame % 8 = 0
  · cases hc : s.service.console with
    | nil => rw [State.consoleFrame_empty h hf hc]
    | cons c q => rw [State.consoleFrame_next h hf hc]
  · rw [State.consoleFrame_within h hf]

/-! ### The outputs (R85) -/

theorem sampleBytes_sampleAt (x : Lane) : sampleBytes (sampleAt x.toList 0) = x.toList := by
  obtain ⟨l, hl⟩ := x
  rcases l with _ | ⟨a, _ | ⟨b, _ | ⟨c, _ | _⟩⟩⟩ <;> simp at hl
  have ha := a.isLt
  have hb := b.isLt
  have hc := c.isLt
  simp only [sampleBytes, sampleAt, word24, byteAt, byte, BitVec.toNat_ofNat, List.getD_cons_zero, List.getD_cons_succ,
    List.cons.injEq, and_true]
  refine ⟨BitVec.eq_of_toNat_eq ?_, BitVec.eq_of_toNat_eq ?_, BitVec.eq_of_toNat_eq ?_⟩ <;>
    simp only [BitVec.toNat_ofNat] <;> omega

theorem laneSlice_toList (x : Tab Byte 24) (j : Nat) : (laneSlice x j).toList = (List.range 3).map fun i => x.get (3 * j + i) := by
  have e : ∀ i ∈ List.range 3, (x.toList.drop (3 * j)).getD i 0 = x.get (3 * j + i) := fun i hi => by
    rw [← laneSlice_get x (List.mem_range.mp hi), laneSlice, Tab.ofList, Tab.get_ofFn _ (List.mem_range.mp hi)]
  exact List.map_congr_left e

theorem State.outputs_console (h : s.isDesk = true) : sampleBytes (s.outputs.audio.localOut.get 15) =
    (List.range 3).map fun i => s.service.consoleOut.get (3 * (s.timing.frame % 8) + i) := by
  rw [State.outputs, State.setAudio_audio, Tab.get_ofFn _ (by decide), if_pos (by simp [h]), State.consoleSample,
    sampleBytes_sampleAt, laneSlice_toList]

/-- The state with the frame's outputs, whose frames are then sent. -/
def State.put (s : State) : State := s.fileOwn.consoleFrame.outputs

theorem State.put_only : OnlyIn [.present, .service, .audio] s s.put := by simp [State.put]

theorem State.put_audio : s.put.audio = { s.audio with localOut := s.put.audio.localOut } := by
  have e : s.fileOwn.consoleFrame.audio = s.audio :=
    (show OnlyIn [.present, .service] s s.fileOwn.consoleFrame by simp).at .audio (by decide)
  rw [← e]
  rfl

theorem State.put_present : s.put.present = s.fileOwn.present :=
  (show OnlyIn [.service, .audio] s.fileOwn s.put by simp [State.put]).at .present (by decide)

theorem State.put_service : s.put.service = s.fileOwn.consoleFrame.service := rfl

theorem State.put_console (h : s.isDesk = true) : sampleBytes (s.put.audio.localOut.get 15) =
    (List.range 3).map fun i => s.put.service.consoleOut.get (3 * (s.timing.frame % 8) + i) := by
  have o : OnlyIn [.present, .service] s s.fileOwn.consoleFrame := by simp
  have desk : s.fileOwn.consoleFrame.isDesk = true := by
    rw [State.isDesk, show _ = s.straps from o.at .straps (by decide)]
    exact h
  have timing : s.fileOwn.consoleFrame.timing = s.timing := o.at .timing (by decide)
  rw [← timing]
  exact State.outputs_console desk

/-- What the frame's own part does to the service lane: the console queue and its two cells alone (R89). -/
theorem State.put_lane : s.put.service = { s.service with
    console := s.put.service.console, consoleIn := s.put.service.consoleIn, consoleOut := s.put.service.consoleOut } :=
  State.consoleFrame_service (s := s.fileOwn)

end Sys2Proof.Machine
end

section
/-! The frames of one local frame period: the supervision frames of both sides and the frame node 0 originates (R25, R26, R28, R31, R40,
R60). -/

namespace Sys2Proof.Machine

variable {l : List Group} {s t u b : State} {p q out : Side} {i n : Nat}

/-! ### What a side's frame says of the side -/

/-- The flags of a side are the same after frames have been sent, with the spans as they were (R47). -/
structure SameSides (s t : State) : Prop where
  sends : OnlySends s t
  ring : t.ring = s.ring
  straps : t.straps = s.straps

theorem SameSides.trans (h : SameSides s t) (k : SameSides t u) : SameSides s u :=
  ⟨h.sends.trans k.sends, k.ring.trans h.ring, k.straps.trans h.straps⟩

theorem SameSides.of_onlyIn (o : OnlyIn l s t) (hl : ∀ g ∈ [Group.portE, .portW, .ring, .straps], g ∉ l) : SameSides s t :=
  ⟨fun q => by
    rw [show t.port q = s.port q from o.port_eq (hl _ (by cases q <;> decide))],
    o.at .ring (hl _ (by decide)), o.at .straps (hl _ (by decide))⟩

theorem SameSides.transmit (p : Side) (f : Frame) : SameSides s (s.transmit p f) :=
  ⟨State.transmit_sends p f, (show OnlyIn [.portE, .portW] s (s.transmit p f) by simp).at .ring (by decide),
    (show OnlyIn [.portE, .portW] s (s.transmit p f) by simp).at .straps (by decide)⟩

theorem SameSides.span (h : SameSides s t) (q : Side) : t.span q = s.span q := by
  cases q <;> simp only [State.span, h.ring]

theorem SameSides.id (h : SameSides s t) : t.id = s.id := by rw [State.id, State.id, h.straps]

theorem SameSides.localDefect (h : SameSides s t) (q : Side) : t.localDefect q = s.localDefect q := by
  have port := h.sends q
  have lock : (t.port q).lock = (s.port q).lock := by rw [port]
  have loop : (t.port q).loop = (s.port q).loop := by rw [port]
  simp only [State.localDefect, State.echo, Port.looped, lock, loop, h.span, h.id]

theorem SameSides.sendsReady (h : SameSides s t) (q : Side) : t.sendsReady q = s.sendsReady q := by
  simp only [State.sendsReady, h.span]

theorem SameSides.primaryOutput (h : SameSides s t) : t.primaryOutput = s.primaryOutput := by
  simp only [State.primaryOutput, State.inService, h.span]

theorem SameSides.supervisionFrame (h : SameSides s t) (hf : t.timing.frame = s.timing.frame)
    (hs : t.timing.superframe = s.timing.superframe) (q : Side) : t.supervisionFrame q = s.supervisionFrame q := by
  simp only [State.supervisionFrame, State.sideFlags, State.ownPresence, h.localDefect, h.sendsReady, h.span, h.id, h.straps,
    hf, hs]

/-! ### Supervision frames (R60) -/

theorem SameSides.sendSupervision : SameSides s s.sendSupervision :=
  SameSides.trans (t := s.transmit .e (s.supervisionFrame .e)) (.transmit _ _)
    (SameSides.transmit (s := s.transmit .e (s.supervisionFrame .e)) .w _)

theorem State.sendSupervision_only : OnlyIn [.portE, .portW] s s.sendSupervision := by simp

/-- Each port is given the supervision frame of its side. -/
theorem State.sendSupervision_tx (q : Side) : (s.sendSupervision.port q).tx = some (s.supervisionFrame q) := by
  have first : SameSides s (s.transmit .e (s.supervisionFrame .e)) := .transmit _ _
  have timing : (s.transmit .e (s.supervisionFrame .e)).timing = s.timing := rfl
  have west := first.supervisionFrame (congrArg Timing.frame timing) (congrArg Timing.superframe timing) .w
  unfold State.sendSupervision State.forSides
  cases q with
  | e =>
    rw [((s.transmit .e (s.supervisionFrame .e)).transmit_port _).2 .e (by decide)]
    exact (s.transmit_port _).1
  | w => rw [((s.transmit .e (s.supervisionFrame .e)).transmit_port _).1, west]

/-- The header of a supervision frame: origin and turned clear, its own mark alone, all levels 0, the flags of its side; lists and
unwrap by the frame's number (R60). -/
theorem State.supervisionFrame_fields (s : State) (q : Side) : ∃ h, s.supervisionFrame q = .supervision h
    ∧ h.frame = s.timing.frame ∧ h.superframe = s.timing.superframe ∧ h.masterOrigin = false ∧ h.turned = false
    ∧ h.farFault = s.localDefect q ∧ h.restoreReady = s.sendsReady q ∧ h.presence = s.ownPresence ∧ h.request = 0
    ∧ (s.timing.frame = 0 → h.rest = .ofList 10 0 (List.replicate 7 0xFF#8))
    ∧ (∀ n, s.timing.frame = 2 → (s.span q).state = .unwrapPending → (s.span q).namer = true → (s.span q).unwrap = some n →
        h.rest = .ofList 10 0 ((if q = .e then 1#8 else 2#8) :: word16 n))
    ∧ (s.timing.frame ≠ 0 → s.timing.frame ≠ 2 ∨ (s.span q).state ≠ .unwrapPending ∨ (s.span q).namer = false →
        h.rest = .fill 10 0) := by
  refine ⟨_, rfl, rfl, rfl, rfl, rfl, rfl, rfl, rfl, rfl, fun h0 => ?_, fun n h2 hs hn hu => ?_, fun h0 hr => ?_⟩
  · simp only [State.sideFlags, h0, if_true]
    decide
  · simp only [State.sideFlags, h2, hs, hn, hu, and_self, if_true, Option.map_some]
    cases q <;> rfl
  · by_cases h2 : s.timing.frame = 2
    · have none : ¬ ((s.span q).state = .unwrapPending ∧ (s.span q).namer = true) := by
        rintro ⟨hs, hn⟩
        rcases hr with hr | hr | hr
        · exact hr h2
        · exact hr hs
        · exact absurd (hr.symm.trans hn) (by decide)
      simp only [State.sideFlags, if_neg h0, if_pos h2, if_neg none]
      rfl
    · simp only [State.sideFlags, if_neg h0, if_neg h2]

/-! ### The frame node 0 originates (R25, R26) -/

/-- The state in which node 0 takes a cell for the frame it originates: the lists of the frame are taken (R40, R42). -/
def State.originTurn (s : State) : State := s.originLists.laneTurn s.timing.frame

/-- The frame node 0 originates by a side (R25, R26). -/
def State.originFrame (s : State) (out : Side) : Frame :=
  .primary (s.originLists.originHeader out) (s.originTurn.insertInto s.originTurn.secondLap)
    ((s.originTurn.laneBytes s.timing.frame).getD (.fill 3 0))

theorem State.originLists_only : OnlyIn [.members] s s.originLists := by simp

theorem State.originTurn_only : OnlyIn [.members, .service, .preamp, .notices, .counters] s s.originTurn :=
  (State.originLists_only.mono (by decide)).trans ((State.laneTurn_only _).mono (by decide))

theorem State.originate_elsewhere (h : s.id ≠ 0) : s.originate = s := by
  unfold State.originate
  rw [if_neg h]

/-- The node 0's state once its frame is sent, if it has a primary output. -/
def State.originSent (s : State) : State :=
  match s.primaryOutput with
  | some out => s.originTurn.transmit out (s.originFrame out)
  | none => s.originTurn

theorem State.originSent_some (h : s.primaryOutput = some out) :
    s.originSent = s.originTurn.transmit out (s.originFrame out) := by
  simp only [State.originSent, h]

theorem State.originSent_none (h : s.primaryOutput = none) : s.originSent = s.originTurn := by
  simp only [State.originSent, h]

theorem State.originate_home (h : s.id = 0) : s.originate = s.originSent.originRoster := by
  have sides : SameSides s s.originLists := .of_onlyIn State.originLists_only (by decide)
  have timing : s.originLists.timing = s.timing := State.originLists_only.at .timing (by decide)
  have turned : s.originTurn.timing = s.timing := State.originTurn_only.at .timing (by decide)
  have output := sides.primaryOutput
  unfold State.originate
  dsimp only
  rw [if_pos h, timing, output]
  cases ho : s.primaryOutput with
  | none =>
    rw [State.originSent_none ho]
    rfl
  | some out =>
    rw [State.originSent_some ho]
    have frame : (s.originLists.laneTurn s.timing.frame).timing.frame = s.timing.frame := congrArg Timing.frame turned
    simp only [Option.getD_some, frame]
    rfl

theorem State.originSent_only : OnlyIn [.portE, .portW] s.originTurn s.originSent := by
  unfold State.originSent
  split <;> simp

/-- The roster node 0 takes as it originates frame 1 moves neither the lanes' cells nor what stands in its lists (R31). -/
theorem State.originRoster_off (h : s.timing.frame ≠ 1) : s.originRoster = s := by
  unfold State.originRoster
  rw [if_neg h]

theorem State.originRoster_lanes : LanesKept s s.originRoster := by
  unfold State.originRoster State.takeRoster State.forOthers
  split
  · exact LanesKept.foldl (s := s.setMembers _) (fun u d => .setReach d _) _
  · exact rfl

theorem State.originRoster_grants : s.originRoster.members.grants = s.members.grants
    ∧ s.originRoster.members.nextGrants = s.members.nextGrants := by
  have roster (u : State) (r : Byte) : (u.takeRoster r).members.grants = u.members.grants
      ∧ (u.takeRoster r).members.nextGrants = u.members.nextGrants := by
    refine foldl_keeps (p := fun v => v.members.grants = u.members.grants ∧ v.members.nextGrants = u.members.nextGrants)
      (f := fun v n => v.setReach n ((v.reachOf n).marked (markRole r n.val))) (fun v n h => ?_) _ ⟨rfl, rfl⟩
    rw [setReach_members]
    exact h
  unfold State.originRoster
  split
  · exact roster _ _
  · exact ⟨rfl, rfl⟩

/-- What the roster may touch. -/
theorem State.originRoster_only :
    OnlyIn [.members, .preamp, .service, .talk, .lines, .image, .notices, .counters] s s.originRoster := by simp

end Sys2Proof.Machine
end

section
/-! What a local frame's work leaves of the state that has presented and mixed (R24, R25, R36, R42, R72, R74, R85). -/

namespace Sys2Proof.Machine

variable {l : List Group} {s t u d m : State} {p q out : Side} {i n : Nat} {inputs : Tab Sample 64}

/-! ### From the mix to the end of the frame's work -/

/-- The state whose frames of this period are given to the ports. -/
def State.sent (m : State) : State := m.put.sendSupervision.originate

theorem State.frameWork_eq : d.frameWork inputs = (d.mixed inputs).sent.dropOutgoing.setTiming
    { (d.mixed inputs).sent.dropOutgoing.timing with frameOwed := false } := by
  simp only [State.frameWork, State.sent, State.put, State.mixed, State.sampled]

theorem State.originate_only : OnlyIn [.members, .preamp, .service, .talk, .lines, .image, .notices, .counters, .portE, .portW] s
    s.originate := by simp

theorem SameSides.originate : SameSides s s.originate :=
  ⟨State.originate_sends, State.originate_only.at .ring (by decide), State.originate_only.at .straps (by decide)⟩

theorem SameSides.put : SameSides s s.put := .of_onlyIn State.put_only (by decide)

/-- What the frame's work leaves as the mix and the node's own part make it. -/
structure FrameDone (m t : State) : Prop where
  sides : SameSides m t
  timing : t.timing = { m.timing with frameOwed := false }
  activeSlots : t.activeSlots = m.activeSlots
  audio : t.audio = m.put.audio
  present : t.present = m.put.present
  buses : t.buses = m.buses
  tracking : t.tracking = m.tracking
  service : t.service = m.sent.service
  members : t.members = m.sent.members
  ports : ∀ q, t.port q = m.sent.port q

theorem FrameDone.count (h : FrameDone m t) : t.count = m.count := by
  rw [State.count, h.timing]
  rfl

theorem FrameDone.id (h : FrameDone m t) : t.id = m.id := h.sides.id

theorem State.dropOutgoing_activeSlots : s.dropOutgoing.activeSlots = s.activeSlots := by
  unfold State.dropOutgoing
  (repeat' split) <;> rfl

theorem frameDone (h : Ended (d.frameWork inputs) t) : FrameDone (d.mixed inputs) t := by
  rw [State.frameWork_eq] at h
  generalize d.mixed inputs = m at h ⊢
  have drop : OnlyIn [.plan] m.sent m.sent.dropOutgoing := by simp
  have close : OnlyIn [.plan, .timing] m.sent
      (m.sent.dropOutgoing.setTiming { m.sent.dropOutgoing.timing with frameOwed := false }) := by simp
  have last : OnlyIn [.plan, .timing, .notices, .counters] m.sent t := (close.mono (by decide)).trans (h.only.mono (by decide))
  have before : OnlyIn [.present, .service, .audio, .portE, .portW] m m.put.sendSupervision :=
    (State.put_only.mono (by decide)).trans (State.sendSupervision_only.mono (by decide))
  have frames : OnlyIn [.portE, .portW, .members, .preamp, .service, .talk, .lines, .image, .notices, .counters] m.put m.sent :=
    (State.sendSupervision_only.mono (by decide)).trans (State.originate_only.mono (by decide))
  have whole : OnlyIn [.present, .service, .audio, .portE, .portW, .members, .preamp, .talk, .lines, .image, .notices, .counters]
      m m.sent := (State.put_only.mono (by decide)).trans (frames.mono (by decide))
  have timing : m.sent.timing = m.timing := whole.at .timing (by decide)
  refine
    { sides := ((SameSides.put.trans .sendSupervision).trans .originate).trans (.of_onlyIn last (by decide))
      timing := ?_
      activeSlots := ?_
      audio := (last.at .audio (by decide)).trans (frames.at .audio (by decide))
      present := (last.at .present (by decide)).trans (frames.at .present (by decide))
      buses := (last.at .buses (by decide)).trans (whole.at .buses (by decide))
      tracking := (last.at .tracking (by decide)).trans (whole.at .tracking (by decide))
      service := last.at .service (by decide)
      members := last.at .members (by decide)
      ports := fun q => last.port_eq (by cases q <;> decide) }
  · rw [show t.timing = _ from h.only.at .timing (by decide), State.setTiming_timing,
      show m.sent.dropOutgoing.timing = m.sent.timing from drop.at .timing (by decide), timing]
  · have slots (u v : State) (e : v.plan = u.plan) : v.activeSlots = u.activeSlots := by
      rw [State.activeSlots, State.activeSlots, e]
    rw [slots _ _ (h.only.at .plan (by decide)), slots m m.sent (whole.at .plan (by decide)) |>.symm]
    exact State.dropOutgoing_activeSlots

/-! ### What node 0's frame leaves (R25, R31, R36, R42) -/

/-- The lanes' console cells and the console queue stay as a node takes a cell. -/
theorem State.laneTurn_console (n : Nat) : (s.laneTurn n).service.console = s.service.console
    ∧ (s.laneTurn n).service.consoleIn = s.service.consoleIn ∧ (s.laneTurn n).service.consoleOut = s.service.consoleOut := by
  have whole (u : State) (k : Nat) : (u.takeWhole k).service.console = u.service.console
      ∧ (u.takeWhole k).service.consoleIn = u.service.consoleIn ∧ (u.takeWhole k).service.consoleOut = u.service.consoleOut := by
    unfold State.takeWhole State.takeOutbound
    (repeat' split) <;> exact ⟨rfl, rfl, rfl⟩
  have promote (u : State) : u.promote.service.console = u.service.console
      ∧ u.promote.service.consoleIn = u.service.consoleIn ∧ u.promote.service.consoleOut = u.service.consoleOut := by
    obtain ⟨added, e, _⟩ := u.promote_queue
    rw [e]
    exact ⟨rfl, rfl, rfl⟩
  unfold State.laneTurn State.takeCell
  dsimp only
  (repeat' split)
  · exact promote _
  · exact whole _ _
  · exact ⟨rfl, rfl, rfl⟩
  · exact ⟨rfl, rfl, rfl⟩

/-- The state whose cell node 0 takes for the frame it originates. -/
def State.home (m : State) : State := m.put.sendSupervision.originLists

/-- What node 0's frame leaves, told of the end of the frame's work. -/
structure HomeDone (m t : State) : Prop where
  lanes : LanesKept (m.home.laneTurn m.timing.frame) t
  service : m.timing.frame ≠ 1 → t.service = (m.home.laneTurn m.timing.frame).service
  grants : t.members.grants = m.home.members.grants
  nextGrants : t.members.nextGrants = m.home.members.nextGrants
  sent : ∀ out, t.primaryOutput = some out → (t.port out).tx = some (m.put.sendSupervision.originFrame out)
  others : ∀ q, t.primaryOutput ≠ some q → (t.port q).tx = some (m.put.supervisionFrame q)

theorem homeDone (h : FrameDone m t) (h0 : m.id = 0) : HomeDone m t := by
  have before : OnlyIn [.present, .service, .audio, .portE, .portW] m m.put.sendSupervision :=
    (State.put_only.mono (by decide)).trans (State.sendSupervision_only.mono (by decide))
  have sides : SameSides m m.put.sendSupervision := SameSides.put.trans .sendSupervision
  have timing : m.put.sendSupervision.timing = m.timing := before.at .timing (by decide)
  have turn : m.put.sendSupervision.originTurn = m.home.laneTurn m.timing.frame := by
    rw [State.originTurn, timing]
    rfl
  have home : m.sent = m.put.sendSupervision.originSent.originRoster := State.originate_home (sides.id.trans h0)
  have output : t.primaryOutput = m.put.sendSupervision.primaryOutput := h.sides.primaryOutput.trans sides.primaryOutput.symm
  have given (q : Side) := m.put.sendSupervision_tx q
  generalize hf : m.put.sendSupervision = f at *
  have ports (q : Side) : (t.port q) = f.originSent.port q := by
    rw [h.ports, home]
    exact State.originRoster_only.port_eq (by cases q <;> decide)
  have untouched (q : Side) : f.originTurn.port q = f.port q := State.originTurn_only.port_eq (by cases q <;> decide)
  have service : f.originSent.service = (m.home.laneTurn m.timing.frame).service := by
    rw [← turn]
    exact State.originSent_only.at .service (by decide)
  have members : f.originSent.members = m.home.members := by
    rw [show f.originSent.members = f.originTurn.members from State.originSent_only.at .members (by decide), turn]
    exact (State.laneTurn_only _).at .members (by decide)
  refine ⟨?_, fun h1 => ?_, ?_, ?_, fun out ho => ?_, fun q hq => ?_⟩
  · rw [LanesKept, h.service, home, ← service]
    exact State.originRoster_lanes
  · rw [h.service, home, State.originRoster_off, service]
    rwa [show f.originSent.timing = m.timing from (State.originSent_only.at .timing (by decide)).trans
      ((State.originTurn_only.at .timing (by decide)).trans timing)]
  · rw [h.members, home, State.originRoster_grants.1, members]
  · rw [h.members, home, State.originRoster_grants.2, members]
  · rw [hf, ports, State.originSent_some (output ▸ ho)]
    exact (State.transmit_port _).1
  · rw [ports]
    cases ho : f.primaryOutput with
    | none => rw [State.originSent_none ho, untouched, given]
    | some out =>
      rw [State.originSent_some ho, (State.transmit_port _).2 q fun e => hq (by rw [output, ho, e]), untouched, given]

/-- At any other node each port is given its side's supervision frame, and the queues stand as the console lane left them. -/
theorem State.sent_elsewhere (h : m.id ≠ 0) : m.sent = m.put.sendSupervision :=
  State.originate_elsewhere (by rwa [(SameSides.put.trans SameSides.sendSupervision).id])

end Sys2Proof.Machine
end

section
/-! What each port, queue and slot holds at the end of a local frame's work (R25, R36, R40, R42, R60, R74, R89). -/

namespace Sys2Proof.Machine

variable {l : List Group} {s t u d m : State} {p q out : Side} {i n : Nat} {inputs : Tab Sample 64} {c : Cell}

/-! ### Supervision frames -/

/-- A port that sends no primary frame sends the supervision frame of its side (R60). -/
theorem FrameDone.supervision (h : FrameDone m t) (hq : m.id ≠ 0 ∨ t.primaryOutput ≠ some q) :
    (t.port q).tx = some (t.supervisionFrame q) := by
  have timing : m.put.timing = m.timing := State.put_only.at .timing (by decide)
  have put := (SameSides.put (s := m)).supervisionFrame (congrArg Timing.frame timing) (congrArg Timing.superframe timing) q
  have last := h.sides.supervisionFrame (by rw [h.timing]) (by rw [h.timing]) q
  rw [last, ← put]
  by_cases h0 : m.id = 0
  · exact (homeDone h h0).others q (hq.resolve_left (not_not.mpr h0))
  · rw [h.ports, State.sent_elsewhere h0]
    exact State.sendSupervision_tx q

/-! ### Node 0's state as it takes a cell -/

theorem State.home_only : OnlyIn [.present, .service, .audio, .portE, .portW, .members] m m.home :=
  ((State.put_only.mono (by decide)).trans (State.sendSupervision_only.mono (by decide))).trans
    (State.originLists_only.mono (by decide))

theorem State.home_put : OnlyIn [.portE, .portW, .members] m.put m.home :=
  (State.sendSupervision_only.mono (by decide)).trans (State.originLists_only.mono (by decide))

theorem State.home_sides : SameSides m m.home :=
  (SameSides.put.trans .sendSupervision).trans (.of_onlyIn State.originLists_only (by decide))

theorem State.originLists_members : s.originLists.members =
    if s.timing.frame = 0 then { s.members with grants := s.comingGrants, nextGrants := none } else s.members := by
  unfold State.originLists
  split <;> rfl

/-- The lists node 0 originates with: at frame 0 the grants computed for the superframe (R40, R42). -/
theorem State.home_members : m.home.members =
    if m.timing.frame = 0 then { m.members with grants := m.comingGrants, nextGrants := none } else m.members := by
  have before : OnlyIn [.present, .service, .audio, .portE, .portW] m m.put.sendSupervision :=
    (State.put_only.mono (by decide)).trans (State.sendSupervision_only.mono (by decide))
  have timing : m.put.sendSupervision.timing = m.timing := before.at .timing (by decide)
  have members : m.put.sendSupervision.members = m.members := before.at .members (by decide)
  rw [State.home, State.originLists_members, State.comingGrants, State.comingGrants, timing, members]

theorem State.home_kept : m.home.members.ringMap = m.members.ringMap ∧ m.home.members.returnStore = m.members.returnStore
    ∧ m.home.members.returnedMarks = m.members.returnedMarks := by
  rw [State.home_members]
  split <;> exact ⟨rfl, rfl, rfl⟩

/-- What node 0's frame is written from: the state with its cell taken. -/
theorem State.homeTurn_only (n : Nat) :
    OnlyIn [.present, .service, .audio, .portE, .portW, .members, .preamp, .notices, .counters] m (m.home.laneTurn n) :=
  (State.home_only.mono (by decide)).trans ((State.laneTurn_only n).mono (by decide))

/-! ### The service lane -/

/-- The console lane at the end of the work is as the node's own part left it (R89). -/
theorem FrameDone.console (h : FrameDone m t) : t.service.consoleIn = m.put.service.consoleIn
    ∧ t.service.consoleOut = m.put.service.consoleOut
    ∧ (m.id ≠ 0 ∨ m.timing.frame ≠ 1 → t.service.console = m.put.service.console) := by
  by_cases h0 : m.id = 0
  · have home := homeDone h h0
    have put : m.home.service = m.put.service := State.home_put.at .service (by decide)
    obtain ⟨console, consoleIn, consoleOut⟩ := m.home.laneTurn_console m.timing.frame
    rw [put] at console consoleIn consoleOut
    obtain ⟨lastIn, lastOut⟩ := home.lanes.console
    exact ⟨lastIn.trans consoleIn, lastOut.trans consoleOut,
      fun k => by rw [home.service (k.resolve_left (not_not.mpr h0)), console]⟩
  · have service : t.service = m.put.service := by
      rw [h.service, State.sent_elsewhere h0]
      exact State.sendSupervision_only.at .service (by decide)
    rw [service]
    exact ⟨rfl, rfl, fun _ => rfl⟩

/-- At a node other than node 0 the work takes no cell. -/
theorem FrameDone.queues_elsewhere (h : FrameDone m t) (h0 : m.id ≠ 0) : t.service.laneOut = m.service.laneOut
    ∧ t.service.stepQueue = m.service.stepQueue ∧ t.service.outbound = m.service.outbound := by
  have service : t.service = m.put.service := by
    rw [h.service, State.sent_elsewhere h0]
    exact State.sendSupervision_only.at .service (by decide)
  rw [service, State.put_lane]
  exact ⟨rfl, rfl, rfl⟩

/-- The queues to the ring stand at node 0 before its cell as the mix left them. -/
theorem State.home_queues : m.home.service.laneOut = m.service.laneOut ∧ m.home.service.stepQueue = m.service.stepQueue
    ∧ m.home.service.relay = m.service.relay ∧ m.home.service.outbound = m.service.outbound := by
  rw [show m.home.service = m.put.service from State.home_put.at .service (by decide), State.put_lane]
  exact ⟨rfl, rfl, rfl, rfl⟩

/-- Node 0 takes a cell where its frame opens a cell time granted to it (R36). -/
theorem FrameDone.granted (h : FrameDone m t) (h0 : m.id = 0) (h8 : m.timing.frame % 8 = 0)
    (hg : t.members.grants.get (m.timing.frame / 8) = some 0) :
    CellTaken m t (m.timing.frame / 8) m.service.stepQueue m.service.relay m.service.outbound := by
  have home := homeDone h h0
  obtain ⟨_, steps, relay, outbound⟩ := State.home_queues (m := m)
  have id : m.home.id = 0 := State.home_sides.id.trans h0
  have taken := m.home.takeCell_spec (m.timing.frame / 8)
  rw [if_pos id, steps, relay, outbound] at taken
  have turn : m.home.laneTurn m.timing.frame = m.home.takeCell (m.timing.frame / 8) :=
    State.laneTurn_granted h8 (by rw [← home.grants, hg, id])
  have service := home.service (by omega)
  rw [turn] at service
  refine taken.told (fun hn => hn.of_onlyIn State.home_only (by decide)) service ?_
  have turned : SameSides m.home (m.home.takeCell (m.timing.frame / 8)) :=
    turn ▸ .of_onlyIn (State.laneTurn_only _) (by decide)
  rw [turned.id, id, h.id, h0]

/-- Else it takes none; where its frame opens a cell time it writes none in it (R36). -/
theorem FrameDone.ungranted (h : FrameDone m t) (h0 : m.id = 0)
    (hg : ¬ (m.timing.frame % 8 = 0 ∧ t.members.grants.get (m.timing.frame / 8) = some 0)) :
    t.service.laneOut = (if m.timing.frame % 8 = 0 then none else m.service.laneOut)
    ∧ (m.timing.frame ≠ 1 → t.service.stepQueue = m.service.stepQueue ∧ t.service.relay = m.service.relay
        ∧ t.service.outbound = m.service.outbound) := by
  have home := homeDone h h0
  obtain ⟨lane, steps, relay, outbound⟩ := State.home_queues (m := m)
  have id : m.home.id = 0 := State.home_sides.id.trans h0
  rw [home.lanes.laneOut]
  by_cases h8 : m.timing.frame % 8 = 0
  · have turn : m.home.laneTurn m.timing.frame = m.home.setService { m.home.service with laneOut := none } :=
      State.laneTurn_ungranted h8 fun k => hg ⟨h8, by rw [home.grants, k, id]⟩
    refine ⟨by rw [turn, if_pos h8]; rfl, fun h1 => ?_⟩
    rw [home.service h1, turn]
    exact ⟨steps, relay, outbound⟩
  · have turn : m.home.laneTurn m.timing.frame = m.home := State.laneTurn_within h8
    refine ⟨by rw [turn, if_neg h8, lane], fun h1 => ?_⟩
    rw [home.service h1, turn]
    exact ⟨steps, relay, outbound⟩

/-! ### The frame node 0 originates -/

theorem State.originHeader_fields : (s.originHeader out).frame = s.timing.frame
    ∧ (s.originHeader out).superframe = s.timing.superframe ∧ (s.originHeader out).masterOrigin = true
    ∧ (s.originHeader out).turned = (out == .w) ∧ (s.originHeader out).farFault = s.localDefect out
    ∧ (s.originHeader out).restoreReady = s.sendsReady out ∧ (s.originHeader out).presence = s.ownPresence
    ∧ (s.originHeader out).rest = s.originRest ∧ pairAt (s.originHeader out).request s.id.val = s.requestLevel
    ∧ ∀ n : NodeId, n ≠ s.id → pairAt (s.originHeader out).request n.val = 0 := by
  have empty (n : NodeId) : pairAt 0 n.val = 0 := by simp [pairAt]
  have level (n : NodeId) := pairAt_setPair 0 s.id.isLt n.isLt s.requestLevel_lt
  exact ⟨rfl, rfl, rfl, rfl, rfl, rfl, rfl, rfl, (level s.id).trans (if_pos rfl),
    fun n hn => (level n).trans ((if_neg fun e => hn (Fin.ext e)).trans (empty n))⟩

/-- The frame node 0 sends by its primary output (R25, R26). -/
theorem FrameDone.primary (h : FrameDone m t) (h0 : m.id = 0) (ho : t.primaryOutput = some out) :
    (t.port out).tx = some (.primary (m.home.originHeader out)
      ((m.home.laneTurn m.timing.frame).insertInto (m.home.laneTurn m.timing.frame).secondLap)
      (((m.home.laneTurn m.timing.frame).laneBytes m.timing.frame).getD (.fill 3 0))) := by
  have before : OnlyIn [.present, .service, .audio, .portE, .portW] m m.put.sendSupervision :=
    (State.put_only.mono (by decide)).trans (State.sendSupervision_only.mono (by decide))
  have timing : m.put.sendSupervision.timing = m.timing := before.at .timing (by decide)
  rw [(homeDone h h0).sent out ho, State.originFrame, State.originTurn, timing]
  rfl

/-- The request level node 0 originates with is the one before its cell is taken (R40; assumption log, entry 52). -/
theorem State.home_level (h0 : m.id = 0) : m.home.requestLevel =
    requested m.service.stepQueue (m.service.outbound.length + m.service.relay.length) := by
  obtain ⟨_, steps, relay, outbound⟩ := State.home_queues (m := m)
  rw [State.requestLevel_eq, if_pos (State.home_sides.id.trans h0), steps, relay, outbound]

/-- The source of an entry gives one sample in the mix and in the frame sent. -/
theorem State.sourceSample_congr (hl : t.audio.localIn = s.audio.localIn) (hb : t.audio.busOut = s.audio.busOut)
    (hs : t.straps = s.straps) (ht : t.count = s.count) (x : SlotSource) : t.sourceSample x = s.sourceSample x := by
  have desk : t.isDesk = s.isDesk := by rw [State.isDesk, State.isDesk, hs]
  have stage : t.isStage = s.isStage := by rw [State.isStage, State.isStage, hs]
  cases x <;> simp only [State.sourceSample, State.localSample, State.busSample, hl, hb, desk, stage, ht]

theorem State.homeTurn_sample (n : Nat) (x : SlotSource) : (m.home.laneTurn n).sourceSample x = m.sourceSample x := by
  have o := State.homeTurn_only (m := m) n
  have audio : (m.home.laneTurn n).audio = m.put.audio :=
    ((State.laneTurn_only n).at .audio (by decide)).trans (State.home_put.at .audio (by decide))
  refine State.sourceSample_congr ?_ ?_ (o.at .straps (by decide)) ?_ x
  · rw [audio, State.put_audio]
  · rw [audio, State.put_audio]
  · rw [State.count, State.count, show (m.home.laneTurn n).timing = m.timing from o.at .timing (by decide)]

theorem State.homeTurn_activeSlots (n : Nat) : (m.home.laneTurn n).activeSlots = m.activeSlots := by
  rw [State.activeSlots, State.activeSlots,
    show (m.home.laneTurn n).plan = m.plan from (State.homeTurn_only n).at .plan (by decide)]

/-- A slot node 0 inserts carries the sample of its source (R25, R74). -/
theorem State.homeTurn_own (h0 : m.id = 0) (hi : i < 128) (h : (m.activeSlots.get i).inserter = some 0) (n : Nat)
    (slots : Tab Sample 128) :
    ((m.home.laneTurn n).insertInto slots).get i = m.sourceSample (m.activeSlots.get i).source := by
  have id : (m.home.laneTurn n).id = 0 := by
    rw [State.id, show _ = m.straps from (State.homeTurn_only n).at .straps (by decide)]
    exact h0
  have slot := State.homeTurn_activeSlots (m := m) n
  rw [State.insertInto_own slots hi (by rw [slot, id, h]), slot, State.homeTurn_sample]

/-- Any other slot carries the return store's sample (R26). -/
theorem State.homeTurn_other (h0 : m.id = 0) (hi : i < 128) (h : (m.activeSlots.get i).inserter ≠ some 0) (n : Nat)
    (slots : Tab Sample 128) : ((m.home.laneTurn n).insertInto slots).get i = slots.get i := by
  have id : (m.home.laneTurn n).id = 0 := by
    rw [State.id, show _ = m.straps from (State.homeTurn_only n).at .straps (by decide)]
    exact h0
  exact State.insertInto_other slots hi (by rw [State.homeTurn_activeSlots, id]; exact h)

theorem State.homeTurn_returnStore (n : Nat) : (m.home.laneTurn n).members.returnStore = m.members.returnStore := by
  rw [show (m.home.laneTurn n).members = m.home.members from (State.laneTurn_only n).at .members (by decide)]
  exact State.home_kept.2.1

end Sys2Proof.Machine
end

section
/-! The local frame boundary, put together for O13 (R24 to R26, R30, R31, R36, R40, R42, R60, R74, R85, R89). -/

namespace Sys2Proof.Machine

variable {s t m : State} {p q out : Side} {i n : Nat} {inputs : Tab Sample 64}

/-- The end of a boundary's work told by the state that had presented and mixed, and that by the state before the boundary. -/
structure Boundary (s : State) (inputs : Tab Sample 64) (m t : State) : Prop where
  due : Due s m
  inputs : m.audio.localIn = inputs
  done : FrameDone m t

theorem Due.setRaised {d : State} (h : Due s d) (x : List Raised) : Due s (d.setRaised x) :=
  ⟨h.straps, h.running, h.lists, h.counted, h.owed⟩

/-- Presentation and mix leave what the frame's work finds. -/
theorem Due.mixed {d : State} (h : Due s d) (inputs : Tab Sample 64) : Due s (d.mixed inputs) := by
  have o := State.mixed_only (s := d) inputs
  have timing : (d.mixed inputs).timing = d.timing := o.at .timing (by decide)
  exact ⟨(o.at .straps (by decide)).trans h.straps, (congrArg Timing.running timing).trans h.running,
    (congrArg Members.lists (o.at .members (by decide))).trans h.lists, by rw [timing]; exact h.counted,
    by rw [timing]; exact h.owed⟩

theorem Due.boundary {d : State} (h : Due s d) (inputs : Tab Sample 64) :
    Boundary s inputs ((d.setRaised []).mixed inputs) (d.event (·.frameWork inputs)) :=
  have ended : Ended ((d.setRaised []).frameWork inputs) (d.event (·.frameWork inputs)) :=
    State.event_ended (s := d) (fun u => u.frameWork inputs)
  ⟨(h.setRaised []).mixed inputs, State.mixed_localIn inputs, frameDone ended⟩

variable (b : Boundary s inputs m t)
include b

theorem Boundary.id : m.id = s.id := by rw [State.id, State.id, b.due.straps]

theorem Boundary.desk : m.isDesk = s.isDesk := by rw [State.isDesk, State.isDesk, b.due.straps]

theorem Boundary.ownPresence : t.ownPresence = s.ownPresence := by
  rw [State.ownPresence, State.ownPresence, b.done.id, b.id, b.done.sides.straps, b.due.straps]

theorem Boundary.frame : t.timing.frame = m.timing.frame := by rw [b.done.timing]

/-- The supervision frame of a port that sends no primary frame (R60). -/
theorem Boundary.supervision (hp : s.id ≠ 0 ∨ t.primaryOutput ≠ some p) : (t.port p).tx = some (t.supervisionFrame p) :=
  b.done.supervision (by rwa [b.id])

/-- Both ports carry a frame of the local numbers (R24, R25, R60). -/
theorem Boundary.carried (p : Side) :
    ∃ f, (t.port p).tx = some f ∧ f.header.frame = t.timing.frame ∧ f.header.superframe = t.timing.superframe := by
  by_cases hp : s.id ≠ 0 ∨ t.primaryOutput ≠ some p
  · exact ⟨_, b.supervision hp, rfl, rfl⟩
  · obtain ⟨h0, ho⟩ : s.id = 0 ∧ t.primaryOutput = some p := by simpa using hp
    have timing : m.home.timing = m.timing := State.home_only.at .timing (by decide)
    refine ⟨_, b.done.primary (b.id.trans h0) ho, ?_, ?_⟩
    · rw [b.done.timing]
      exact State.originHeader_fields.1.trans (by rw [timing])
    · rw [b.done.timing]
      exact State.originHeader_fields.2.1.trans (by rw [timing])

/-- At frame 0 node 0 originates with the list computed for the superframe, which then leaves (R40, R42). -/
theorem Boundary.grants (h0 : s.id = 0) (hf : t.timing.frame = 0) :
    t.members.grants = m.comingGrants ∧ t.members.nextGrants = none := by
  have home := homeDone b.done (b.id.trans h0)
  rw [home.grants, home.nextGrants, State.home_members, if_pos (b.frame ▸ hf)]
  exact ⟨rfl, rfl⟩

/-- The console lane of a DESK node (R89). -/
theorem Boundary.console (hd : s.isDesk = true) :
    t.service.consoleIn.parts.get (t.timing.frame % 8) = some (.ofList 3 0 (sampleBytes (inputs.get 15)))
    ∧ sampleBytes (t.audio.localOut.get 15)
      = (List.range 3).map (fun i => t.service.consoleOut.get (3 * (t.timing.frame % 8) + i))
    ∧ (∀ c l, t.timing.frame % 8 = 0 → m.service.console = c :: l →
        t.service.console = l ∧ t.service.consoleOut = c.encode)
    ∧ (t.timing.frame % 8 = 0 → m.service.console = [] →
        t.service.console = [] ∧ t.service.consoleOut = .fill 24 0)
    ∧ (t.timing.frame % 8 ≠ 0 → t.service.consoleOut = m.service.consoleOut
        ∧ (s.id ≠ 0 ∨ t.timing.frame ≠ 1 → t.service.console = m.service.console)) := by
  obtain ⟨hin, hout, hqueue⟩ := b.done.console
  have desk : m.fileOwn.isDesk = true := b.desk.trans hd
  rw [hin, hout, b.frame, b.done.audio, ← b.id]
  refine ⟨?_, State.put_console (b.desk.trans hd), fun c l h8 hc => ?_, fun h8 hc => ?_, fun h8 => ?_⟩
  · have put : m.put.service.consoleIn = m.hostLane.consoleIn := State.consoleFrame_consoleIn (s := m.fileOwn) desk
    rw [put, ← b.inputs]
    exact Tab.get_put_same _ _ (Nat.mod_lt _ (by decide))
  · have put := State.consoleFrame_next (s := m.fileOwn) desk h8 hc
    rw [hqueue (.inr (by omega)), State.put_service, put]
    exact ⟨rfl, rfl⟩
  · have put := State.consoleFrame_empty (s := m.fileOwn) desk h8 hc
    rw [hqueue (.inr (by omega)), State.put_service, put]
    exact ⟨hc, rfl⟩
  · have put := State.consoleFrame_within (s := m.fileOwn) desk h8
    refine ⟨by rw [State.put_service, put]; rfl, fun h1 => ?_⟩
    rw [hqueue h1, State.put_service, put]
    rfl

/-- The lane bytes and the levels of the frame node 0 sends (R36, R40). -/
theorem Boundary.lane {h : Header} {slots : Tab Sample 128} {lane : Lane} (h0 : s.id = 0) (ho : t.primaryOutput = some out)
    (ht : (t.port out).tx = some (.primary h slots lane)) :
    pairAt h.request 0 = requested m.service.stepQueue (m.service.outbound.length + m.service.relay.length)
    ∧ (∀ n : NodeId, n ≠ 0 → pairAt h.request n.val = 0)
    ∧ (t.service.laneOut = none → lane = .fill 3 0)
    ∧ ∀ o, t.service.laneOut = some o →
        (o.cellTime = t.timing.frame / 8 → ∀ j, j < 3 → lane.get j = o.bytes.get (3 * (t.timing.frame % 8) + j))
        ∧ (o.cellTime ≠ t.timing.frame / 8 → lane = .fill 3 0) := by
  have m0 : m.id = 0 := b.id.trans h0
  have home0 : m.home.id = 0 := State.home_sides.id.trans m0
  obtain ⟨rfl, _, rfl⟩ : m.home.originHeader out = h ∧ _ ∧ _ := by
    simpa only [Option.some.injEq, Frame.primary.injEq] using (b.done.primary m0 ho).symm.trans ht
  obtain ⟨-, -, -, -, -, -, -, -, level, others⟩ := State.originHeader_fields (s := m.home) (out := out)
  rw [home0] at level others
  rw [b.frame]
  exact ⟨level.trans (State.home_level m0), others, written_lane (homeDone b.done m0).lanes.laneOut m.timing.frame⟩

/-- A slot the node does not insert is left as the presentation had it (R74). -/
theorem Boundary.slot_other (hi : i < 128) (h : (t.activeSlots.get i).inserter ≠ some s.id) :
    t.present.slots.get i = m.present.slots.get i := by
  rw [b.done.present, State.put_present]
  exact State.fileOwn_other hi (by rw [← b.done.activeSlots, b.id]; exact h)

/-- A slot the node inserts holds the sample of its source under the local count, and node 0's frame carries it (R25, R74). -/
theorem Boundary.slot_own (hi : i < 128) (h : (t.activeSlots.get i).inserter = some s.id) :
    t.present.slots.get i = { m.present.slots.get i with filed := (t.present.slots.get i).filed }
    ∧ ∃ v : Sample,
      (t.present.slots.get i).filed.find? (fun y => y.capture == t.count) = some ⟨t.count, v⟩
      ∧ (∀ n, (t.activeSlots.get i).source = .localIn n →
          v = if s.isDesk = true ∧ n = 15 then 0 else inputs.get n.val)
      ∧ (∀ c, (t.activeSlots.get i).source = .bus c → v = if s.isDesk = true then 0 else t.audio.busOut.get c.val)
      ∧ ((t.activeSlots.get i).source = .pattern → v.toInt = (t.count * 5 % 16777216 : Nat) - 8388608)
      ∧ ((t.activeSlots.get i).source = .silent → v = 0)
      ∧ ∀ out h slots lane, s.id = 0 → t.primaryOutput = some out → (t.port out).tx = some (.primary h slots lane) →
          slots.get i = v := by
  rw [b.done.activeSlots, ← b.id] at h
  have own := State.fileOwn_own hi h
  have busOut : t.audio.busOut = m.audio.busOut := by rw [b.done.audio, State.put_audio]
  rw [b.done.present, State.put_present, b.done.activeSlots, b.done.count, own, busOut]
  refine ⟨rfl, m.sourceSample (m.activeSlots.get i).source, insertFiled_find ⟨m.count, _⟩ _, fun n e => ?_, fun c e => ?_,
    fun e => ?_, fun e => ?_, fun out hd slots lane h0 ho ht => ?_⟩
  · rw [e, State.sourceSample, State.localSample_eq, b.desk, b.inputs]
    simp only [Fin.ext_iff]
    rfl
  · rw [e, State.sourceSample, State.busSample_eq, b.desk]
  · rw [e, State.sourceSample, patternValue_toInt]
  · rw [e, State.sourceSample]
  · have m0 : m.id = 0 := b.id.trans h0
    obtain ⟨_, rfl, _⟩ : _ ∧ _ = slots ∧ _ := by
      simpa only [Option.some.injEq, Frame.primary.injEq] using (b.done.primary m0 ho).symm.trans ht
    exact State.homeTurn_own m0 hi (by rw [h, m0]) _ _

/-- The frame node 0 originates (R25, R26, R30, R31). -/
theorem Boundary.origin (h0 : s.id = 0) (ho : t.primaryOutput = some out) :
    ∃ h slots lane, (t.port out).tx = some (.primary h slots lane) ∧ h.masterOrigin = true ∧ h.turned = (out == .w)
      ∧ h.farFault = t.localDefect out ∧ h.restoreReady = t.sendsReady out ∧ h.presence = s.ownPresence
      ∧ (t.timing.frame = 0 → h.rest = frame0Rest t.members.grants s.members.ringMap [0])
      ∧ (t.timing.frame = 1 → h.rest = .ofList 10 0 [s.members.returnedMarks.getD s.ownPresence])
      ∧ (1 < t.timing.frame → h.rest = .fill 10 0)
      ∧ ∀ i, i < 128 → (t.activeSlots.get i).inserter ≠ some 0 →
          slots.get i = (s.members.returnStore.map fun r => r.slots.get i).getD 0 := by
  have m0 : m.id = 0 := b.id.trans h0
  have sides := State.home_sides (m := m)
  have timing : m.home.timing = m.timing := State.home_only.at .timing (by decide)
  obtain ⟨map, store, marks⟩ := State.home_kept (m := m)
  have lists := b.due.lists
  have mapS : m.members.ringMap = s.members.ringMap := congrArg RingLists.ringMap lists
  have storeS : m.members.returnStore = s.members.returnStore := congrArg RingLists.returnStore lists
  have marksS : m.members.returnedMarks = s.members.returnedMarks := congrArg RingLists.returnedMarks lists
  have presence : m.home.ownPresence = s.ownPresence := by
    rw [State.ownPresence, State.ownPresence, sides.id, b.id, sides.straps, b.due.straps]
  obtain ⟨-, -, origin, turned, fault, ready, mark, rest, -, -⟩ := State.originHeader_fields (s := m.home) (out := out)
  have restOf : (m.home.originHeader out).rest = if t.timing.frame = 0 then
      frame0Rest t.members.grants s.members.ringMap [0]
    else if t.timing.frame = 1 then .ofList 10 0 [s.members.returnedMarks.getD s.ownPresence] else .fill 10 0 := by
    rw [rest, State.originRest, timing, b.frame, (homeDone b.done m0).grants, map, mapS, State.comingRoster, marks, marksS,
      presence]
  refine ⟨_, _, _, b.done.primary m0 ho, origin, turned, ?_, ?_, mark.trans presence, fun hf => ?_, fun hf => ?_,
    fun hf => ?_, fun i hi hs => ?_⟩
  · rw [fault, sides.localDefect, b.done.sides.localDefect]
  · rw [ready, sides.sendsReady, b.done.sides.sendsReady]
  · rw [restOf, if_pos hf]
  · rw [restOf, if_neg (by omega), if_pos hf]
  · rw [restOf, if_neg (by omega), if_neg (by omega)]
  · rw [b.done.activeSlots] at hs
    rw [State.homeTurn_other m0 hi hs, State.secondLap, State.homeTurn_returnStore, storeS]
    cases s.members.returnStore with
    | none => exact Tab.get_fill _ hi
    | some r => rfl

end Sys2Proof.Machine
end

section
/-! The local frame boundary settled for O13. -/

namespace Sys2Proof.Machine

variable {s : State} {inputs : Tab Sample 64}

/-- The mix of a STAGE node, told of the strap before the boundary (R147). -/
theorem Due.mix {d u : State} (h : Due s d) (o : d.straps = u.straps) :
    (if s.isStage then (List.range 16).foldl (fun x n => State.mixBus n x) u else u) = u.mix := by
  have stage : s.isStage = u.isStage := by rw [State.isStage, State.isStage, ← h.straps, o]
  rw [stage]
  rfl

theorem State.sampled_present_straps : (s.sampled inputs).presentFrame.straps = s.straps :=
  (State.presentFrame_only.at .straps (by decide)).trans ((State.sampled_only inputs).at .straps (by decide))

theorem State.mix_present : s.mix.present = s.present := State.mix_only.at .present (by decide)

theorem State.comingGrants_some {g : GrantPlan} (h : s.members.nextGrants = some g) :
    s.comingGrants = if g.superframe = s.timing.superframe then g.list else .fill 6 none := by
  simp only [State.comingGrants, h]

theorem State.comingGrants_none (h : s.members.nextGrants = none) : s.comingGrants = .fill 6 none := by
  simp only [State.comingGrants, h]

/-- Settles O13: the boundary's work is done in the state that the counting leaves, and its frames, queues and slots are those of
the lemmas about its end. -/
theorem localFrameBoundaryCounts : Obligations.LocalFrameBoundaryCounts := by
  intro inputs s
  refine ⟨fun hrun => ?_, fun hstop => ?_⟩
  · have b := (due_spec s).boundary inputs
    have run : exec (.localFrameBoundary inputs) s = .next (s.localBoundary inputs) := rfl
    rw [State.localBoundary_eq inputs hrun] at run
    refine ⟨s.due.event (·.frameWork inputs), run, ?_⟩
    have mix := ((due_spec s).setRaised []).mix (u := ((s.due.setRaised []).sampled inputs).presentFrame)
      State.sampled_present_straps.symm
    generalize s.due.event (·.frameWork inputs) = t at b ⊢
    refine ⟨?_, ?_, ?_, fun ho => ?_, fun ho => ?_, b.carried, fun p hp => ?_, fun h0 hf => ?_, ?_, fun out h0 ho => ?_⟩
    · rw [b.done.timing]
      exact b.due.running.trans hrun
    · rw [b.done.timing]
    · rw [b.done.audio, State.put_audio]
      exact b.inputs
    · rw [b.done.timing]
      exact b.due.counted ho
    · rw [b.done.timing]
      exact b.due.owed ho
    · obtain ⟨h, e, _, _, origin, turned, fault, ready, mark, level, rest⟩ := t.supervisionFrame_fields p
      exact ⟨h, (b.supervision hp).trans (congrArg some e), origin, turned, fault, ready, mark.trans b.ownPresence, level, rest⟩
    · obtain ⟨grants, next⟩ := b.grants h0 hf
      have planned : ((s.due.setRaised []).mixed inputs).members.nextGrants = s.members.nextGrants :=
        congrArg RingLists.nextGrants b.due.lists
      have number : ((s.due.setRaised []).mixed inputs).timing.superframe = t.timing.superframe := by rw [b.done.timing]
      refine ⟨grants.trans ?_, next⟩
      cases e : s.members.nextGrants with
      | none => exact State.comingGrants_none (planned.trans e)
      | some g => exact (State.comingGrants_some (planned.trans e)).trans (by rw [number])
    · intro counted due a p m
      have hm : m = (s.due.setRaised []).mixed inputs := mix
      have hp : p.present = m.present := by
        rw [hm]
        exact State.mix_present.symm
      have tracking : m.tracking = p.tracking := by
        rw [hm]
        exact State.mix_only.at .tracking (by decide)
      clear_value m p
      subst hm
      generalize (s.due.setRaised []).mixed inputs = m at *
      refine ⟨?_, b.done.tracking.trans tracking, b.done.buses, ?_, ?_, b.console, ⟨fun h0 ⟨h8, hg⟩ => ?_, fun h0 hg => ?_,
        fun h0 => b.done.queues_elsewhere (by rwa [b.id]), fun out h slots lane h0 ho ht => b.lane h0 ho ht⟩,
        fun i hi hs => ?_, fun i hi hs => ?_⟩
      · rw [b.done.present, State.put_present, hp]
        rfl
      · rw [b.done.audio, State.put_audio]
      · rw [b.done.audio]
        rfl
      · rw [b.frame] at h8 hg ⊢
        exact b.done.granted (b.id.trans h0) h8 hg
      · rw [b.frame] at hg ⊢
        exact b.done.ungranted (b.id.trans h0) hg
      · rw [hp]
        exact b.slot_other hi hs
      · rw [hp]
        exact b.slot_own hi hs
    · obtain ⟨h, slots, lane, sent, origin, turned, fault, ready, mark, rest0, rest1, rest2, others⟩ := b.origin h0 ho
      refine ⟨h, slots, lane, sent, origin, turned, fault, ready, mark, rest0, rest1, rest2, fun i hi hs => ?_⟩
      rw [others i hi hs]
      cases s.members.returnStore <;> rfl
  · show Host.Outcome.next (s.localBoundary inputs) = .next s
    rw [State.localBoundary, if_pos (by simp [hstop])]

end Sys2Proof.Machine
end

section
/-! The ends of the span holds and the unwrap, settled for O18 and O19 (R48 to R53, R62). -/

namespace Sys2Proof.Machine

variable {s : State} {p q : Side}

/-! ### What a span record replaced leaves -/

@[simp] theorem State.setSpan_timing (x : Span) : (s.setSpan p x).timing = s.timing := by cases p <;> rfl
@[simp] theorem State.setSpan_id (x : Span) : (s.setSpan p x).id = s.id := by cases p <;> rfl
@[simp] theorem State.setSpan_ringState (x : Span) : (s.setSpan p x).ring.state = s.ring.state := by cases p <;> rfl
@[simp] theorem State.setSpan_masterTaken (x : Span) : (s.setSpan p x).ring.masterTaken = s.ring.masterTaken := by
  cases p <;> rfl

theorem State.setSpan_inService (x : Span) : (s.setSpan p x).inService p = x.state.inService := by
  rw [State.inService, State.setSpan_span_same]

theorem State.setSpan_inService_ne (x : Span) (h : q ≠ p) : (s.setSpan p x).inService q = s.inService q := by
  rw [State.inService, State.setSpan_span_ne x h, State.inService]

/-- A local defect hears nothing of the span record but the partner id (R46). -/
theorem State.setSpan_localDefect {x : Span} (h : x.partner = (s.span p).partner) :
    (s.setSpan p x).localDefect p = s.localDefect p := by
  simp [State.localDefect, State.echo, h]

@[simp] theorem State.setRaised_id (x : List Raised) : (s.setRaised x).id = s.id := rfl

@[simp] theorem State.setRaised_localDefect (x : List Raised) : (s.setRaised x).localDefect q = s.localDefect q := by
  simp [State.localDefect, State.echo]

@[simp] theorem State.setRaised_inService (x : List Raised) : (s.setRaised x).inService q = s.inService q := by
  simp [State.inService]

/-! ### The ring state follows (R62) -/

theorem State.determined_dark_iff : s.determined = .dark ↔ s.ring.state = .dark := by
  unfold State.determined
  split
  · next h => simp [h]
  · next h =>
    simp only [h, iff_false]
    split_ifs <;> decide

/-- Without the span of side p the ring is wrapped at that side, and isolated without the other span or a master (R62). -/
theorem State.determined_outOfService (hd : s.ring.state ≠ .dark) (hp : s.inService p = false) :
    s.determined = if s.inService (oppositeSide p) = true ∧ s.timing.masterAbsence ≠ 8 then
      (if p = .e then .wrappedE else .wrappedW) else .isolated := by
  unfold State.determined
  by_cases ha : s.timing.masterAbsence = 8
  · simp [hd, ha]
  · cases p with
    | e => cases ho : s.inService .w <;> simp [hd, ha, hp, ho, oppositeSide]
    | w => cases ho : s.inService .e <;> simp [hd, ha, hp, ho, oppositeSide]

/-- With the span of side p the other span decides, once a master is heard (R62). -/
theorem State.determined_inService (hd : s.ring.state ≠ .dark) (hp : s.inService p = true) :
    s.determined = if s.timing.masterAbsence = 8 then .isolated
      else if s.inService (oppositeSide p) = false then (if p = .e then .wrappedW else .wrappedE)
      else if s.ring.masterTaken = true then .closed else .forming := by
  unfold State.determined
  cases p <;> simp [hd, hp, oppositeSide]

theorem State.redetermine_ring : s.redetermine.ring = { s.ring with state := s.determined } := by
  unfold State.redetermine
  split
  · next e => rw [e]
  · exact State.setRingState_ring _

theorem State.redetermine_dark (hd : s.ring.state = .dark) : s.redetermine = s :=
  if_pos ((State.determined_dark_iff.mpr hd).trans hd.symm)

theorem State.redetermine_port : s.redetermine.port q = s.port q :=
  OnlyIn.port_of_butPorts (by simp [groupsButPorts])

theorem State.redetermine_timing : s.redetermine.timing = s.timing :=
  (show OnlyIn [.ring, .present, .lines, .notices] s s.redetermine by simp).at .timing (by decide)

theorem State.redetermine_id : s.redetermine.id = s.id :=
  congrArg Straps.nodeId <|
    (show OnlyIn [.ring, .present, .lines, .notices] s s.redetermine by simp).at .straps (by decide)

/-- What the ring state is determined from is not changed by setting it. -/
theorem State.redetermine_determined : s.redetermine.determined = s.determined := by
  by_cases hd : s.ring.state = .dark
  · rw [State.redetermine_dark hd]
  · have hr : s.redetermine.ring.state ≠ .dark := by
      rw [State.redetermine_ring]
      exact State.determined_dark_iff.not.mpr hd
    have taken : s.redetermine.ring.masterTaken = s.ring.masterTaken := by rw [State.redetermine_ring]
    have service (q : Side) : s.redetermine.inService q = s.inService q := by
      rw [State.inService, State.redetermine_span, State.inService]
    unfold State.determined
    rw [if_neg hd, if_neg hr, State.redetermine_timing, taken, service .e, service .w]

theorem State.redetermine_redetermine : s.redetermine.redetermine = s.redetermine := by
  rw [State.redetermine, State.redetermine_determined, State.redetermine_ring, if_pos rfl]

/-! ### An evaluation that the span does not answer (R46, R48, R49) -/

/-- A side's defect is that of its port, its span and the node's id (R46). -/
theorem State.redetermine_defect : s.redetermine.defect q = s.defect q := by
  simp only [State.defect, State.localDefect, State.remoteDefect, State.echo, State.inService, State.redetermine_port,
    State.redetermine_span, State.redetermine_id]

/-- Where the span stays as it is, an evaluation determines the ring state and does no more; in DARK it does nothing. -/
theorem State.evaluate_unanswered (h : (s.span p).react (s.defect p) s.sets = s.span p) : s.evaluate p = s.redetermine := by
  have react : s.react p = s := by rw [State.react, h, State.setSpan_self]
  unfold State.evaluate State.examine
  split
  · next hd => rw [State.redetermine_dark hd]
  · rw [react, react]

/-- After the ring state has followed, an evaluation that the span does not answer changes nothing. -/
theorem State.redetermine_evaluate (h : ∀ sets, (s.span p).react (s.defect p) sets = s.span p) :
    s.redetermine.evaluate p = s.redetermine := by
  rw [State.evaluate_unanswered, State.redetermine_redetermine]
  rw [State.redetermine_span, State.redetermine_defect]
  exact h _

/-! ### The end of a wrap hold-off (R48, R49) -/

theorem State.holdoffDue_iff : s.holdoffDue p = true ↔ (s.span p).state = .defect ∧ (s.span p).holdoff = 0 := by
  simp [State.holdoffDue]

/-- A local defect outlasts the failure of its span, which therefore stays FAILED. -/
theorem State.holdoffExpiry_fails (hdue : s.holdoffDue p = true) (hl : s.localDefect p = true) :
    s.holdoffExpiry p = (s.setSpan p (s.span p).failed).redetermine := by
  have defect : (s.setSpan p (s.span p).failed).defect p = true := by
    rw [State.defect, State.setSpan_localDefect (by rfl), hl, Bool.true_or]
  rw [State.holdoffExpiry, if_pos hdue, State.failSpan]
  refine State.redetermine_evaluate fun sets => ?_
  rw [State.setSpan_span_same, defect]
  rfl

theorem State.holdoffExpiry_ringState (hdue : s.holdoffDue p = true) (hl : s.localDefect p = true) (hd : s.ring.state ≠ .dark) :
    (s.holdoffExpiry p).ring.state = if s.inService (oppositeSide p) = true ∧ s.timing.masterAbsence ≠ 8 then
      (if p = .e then .wrappedE else .wrappedW) else .isolated := by
  have out : (s.setSpan p (s.span p).failed).inService p = false := State.setSpan_inService _
  rw [State.holdoffExpiry_fails hdue hl, State.redetermine_ring]
  dsimp only
  rw [State.determined_outOfService (by simpa using hd) out, State.setSpan_inService_ne _ oppositeSide_ne, State.setSpan_timing]

/-- WRAP_HOLDOFF_EXPIRY at a span whose hold-off has run out on a local defect (R48, R62). -/
theorem wrapHoldoffExpiry_spec (hs : (s.span p).state = .defect) (h0 : (s.span p).holdoff = 0) (hl : s.localDefect p = true)
    (hd : s.ring.state ≠ .dark) :
    ∃ t, exec (.wrapHoldoffExpiry p) s = .next t ∧ OnlyIn [.ring, .present, .lines, .notices, .counters] s t
      ∧ t.span p = (s.span p).failed ∧ t.span (oppositeSide p) = s.span (oppositeSide p)
      ∧ t.ring.state = (if s.inService (oppositeSide p) = true ∧ s.timing.masterAbsence ≠ 8 then
          (if p = .e then .wrappedE else .wrappedW) else .isolated) := by
  have hdue : (s.setRaised []).holdoffDue p = true := State.holdoffDue_iff.mpr (by simpa using ⟨hs, h0⟩)
  have hl' : (s.setRaised []).localDefect p = true := by simpa using hl
  refine ⟨s.event (·.holdoffExpiry p), rfl, OnlyIn.event_self (by simp) fun u => OnlyIn.holdoffExpiry p (by simp), ?_, ?_, ?_⟩
  · rw [State.event_span, State.holdoffExpiry_fails hdue hl', State.redetermine_span, State.setSpan_span_same,
      State.setRaised_span]
  · rw [State.event_span, State.holdoffExpiry_span_ne oppositeSide_ne, State.setRaised_span]
  · rw [State.event_ring, State.holdoffExpiry_ringState hdue hl' hd, State.setRaised_inService, State.setRaised_timing]

/-! ### The end of a restore hold and the naming of an unwrap (R50, R51) -/

/-- Side p's partner is known, ready and of higher id, so this node names the unwrap (R51). -/
def State.names (s : State) (p : Side) : Prop :=
  ∃ q, (s.span p).partner = some q ∧ (s.span p).partnerReady = true ∧ s.id < q

theorem State.nameUnwrap_named (hs : (s.span p).state = .restoring) (hr : (s.span p).ready = true) (hn : s.names p) :
    s.nameUnwrap p = s.setSpan p { s.span p with
      state := .unwrapPending, unwrap := some (sfAdd s.timing.superframe 4), namer := true } := by
  obtain ⟨q, partner, ready, lower⟩ := hn
  simp [State.nameUnwrap, partner, hs, hr, ready, lower]

theorem State.nameUnwrap_unnamed (hn : ¬ s.names p) : s.nameUnwrap p = s := by
  unfold State.nameUnwrap
  dsimp only
  split
  · next q partner =>
    rw [if_neg]
    rintro ⟨-, -, ready, lower⟩
    exact hn ⟨q, partner, ready, lower⟩
  · rfl

theorem State.nameUnwrap_ringState : (s.nameUnwrap p).ring.state = s.ring.state := by
  unfold State.nameUnwrap
  dsimp only
  (repeat' split) <;> simp

theorem State.restoreExpiry_due (hs : (s.span p).state = .restoring) (hr : (s.span p).ready = false)
    (h0 : (s.span p).restore = 0) : s.restoreExpiry p = (s.setSpan p { s.span p with ready := true }).nameUnwrap p := by
  simp [State.restoreExpiry, State.restoreDue, hs, hr, h0]

theorem State.restoreExpiry_ringState : (s.restoreExpiry p).ring.state = s.ring.state := by
  unfold State.restoreExpiry
  split
  · rw [State.nameUnwrap_ringState, State.setSpan_ringState]
  · rfl

/-- Ready is none of what the naming asks of the partner. -/
theorem State.setSpan_ready_names : (s.setSpan p { s.span p with ready := true }).names p ↔ s.names p := by
  simp [State.names]

theorem State.restoreExpiry_named (hs : (s.span p).state = .restoring) (hr : (s.span p).ready = false)
    (h0 : (s.span p).restore = 0) (hn : s.names p) : (s.restoreExpiry p).span p = { s.span p with
      ready := true, state := .unwrapPending, unwrap := some (sfAdd s.timing.superframe 4), namer := true } := by
  rw [State.restoreExpiry_due hs hr h0,
    State.nameUnwrap_named (by simpa using hs) (by simp) (State.setSpan_ready_names.mpr hn)]
  simp

theorem State.restoreExpiry_unnamed (hs : (s.span p).state = .restoring) (hr : (s.span p).ready = false)
    (h0 : (s.span p).restore = 0) (hn : ¬ s.names p) : (s.restoreExpiry p).span p = { s.span p with ready := true } := by
  rw [State.restoreExpiry_due hs hr h0, State.nameUnwrap_unnamed (State.setSpan_ready_names.not.mpr hn),
    State.setSpan_span_same]

/-! ### The adoption of an unwrap (R52) -/

/-- A header's frame 2 names an unwrap that a ready span of side p adopts, d superframes ahead (R52). -/
structure Adopts (s : State) (p : Side) (h : Header) (d : Nat) : Prop where
  restoring : (s.span p).state = .restoring
  ready : (s.span p).ready = true
  frame : h.frame = 2
  higher : ∃ q, (s.span p).partner = some q ∧ q < s.id
  named : ∃ n, h.unwrap = some (oppositeSide p, n) ∧ d = sfDistance h.superframe n
  ahead : 1 ≤ d ∧ d ≤ 4

theorem State.adoptUnwrap_adopted {h : Header} {d : Nat} (a : Adopts s p h d) :
    s.adoptUnwrap p h = s.setSpan p { s.span p with
      state := .unwrapPending, unwrap := some (sfAdd s.timing.superframe d), namer := false } := by
  obtain ⟨q, partner, higher⟩ := a.higher
  obtain ⟨n, unwrap, rfl⟩ := a.named
  simp [State.adoptUnwrap, partner, unwrap, a.frame, a.restoring, a.ready, higher, a.ahead]

theorem State.adoptUnwrap_ignored {h : Header} (a : ∀ d, ¬ Adopts s p h d) : s.adoptUnwrap p h = s := by
  unfold State.adoptUnwrap
  dsimp only
  split
  · next q side n partner unwrap =>
    rw [if_neg]
    rintro ⟨frame, restoring, ready, higher, rfl, ahead⟩
    exact a _ ⟨restoring, ready, frame, ⟨q, partner, higher⟩, ⟨n, unwrap, rfl⟩, ahead⟩
  · rfl

/-- Settles O18: the two expiries by their lemmas, the adoption by the one condition under which a header is adopted. -/
theorem spanHoldsExpire : Obligations.SpanHoldsExpire := by
  refine fun p s => ⟨fun hs h0 hl hd => ?_, fun hs hr h0 => ?_, fun h => ⟨fun q n hs hr hq hf hu hlt => ?_, fun hno => ?_⟩⟩
  · obtain ⟨t, step, only, failed, other, ring⟩ := wrapHoldoffExpiry_spec hs h0 hl hd
    exact ⟨t, step, only, by rw [failed]; rfl, by rw [failed]; rfl, by rw [failed]; rfl, other, ring⟩
  · have named := State.restoreExpiry_named hs hr h0
    have unnamed := State.restoreExpiry_unnamed hs hr h0
    refine ⟨s.restoreExpiry p, rfl, by simp, State.restoreExpiry_ringState, State.restoreExpiry_span_ne oppositeSide_ne, ?_,
      fun hn => ?_, fun hn => ?_⟩
    · by_cases hn : s.names p
      · rw [named hn]
      · rw [unnamed hn]
    · rw [named hn]
      exact ⟨rfl, rfl, rfl⟩
    · rw [unnamed hn]
      exact hs
  · refine ⟨fun h1 h4 => State.adoptUnwrap_adopted ⟨hs, hr, hf, ⟨q, hq, hlt⟩, ⟨n, hu, rfl⟩, h1, h4⟩, fun far => ?_⟩
    refine State.adoptUnwrap_ignored fun d a => ?_
    obtain ⟨m, hm, rfl⟩ := a.named
    obtain rfl : n = m := by simpa [hu] using hm
    have ahead := a.ahead
    rw [sfDistance] at ahead
    omega
  · refine State.adoptUnwrap_ignored fun d a => ?_
    obtain ⟨q, hq, hlt⟩ := a.higher
    obtain ⟨n, hn, -⟩ := a.named
    rcases hno with e | e | e | e | e
    · exact e a.restoring
    · exact Bool.eq_false_iff.mp e a.ready
    · exact e a.frame
    · exact e n hn
    · exact absurd hlt (not_lt.mpr (e q hq))

/-! ### The unwrap (R53) -/

/-- A span record as the unwrap leaves it (R53). -/
def Span.unwrapped (x : Span) : Span :=
  { x with state := .good, holdoff := 0, restore := 0, ready := false, unwrap := none, namer := false, partnerReady := false }

theorem State.unwrapDue_iff : s.unwrapDue p = true ↔
    (s.span p).state = .unwrapPending ∧ (s.span p).unwrap = some s.timing.superframe ∧ s.timing.frame = 0 := by
  simp [State.unwrapDue, and_assoc]

/-- An unwrap of a side without a defect: the span is GOOD and stays so. -/
theorem State.unwrapNow_restores (hdue : s.unwrapDue p = true) (hl : s.localDefect p = false)
    (hf : (s.port p).flags.farFault = false) : s.unwrapNow p = (s.setSpan p (s.span p).unwrapped).redetermine := by
  have sound : (s.setSpan p (s.span p).unwrapped).defect p = false := by
    rw [State.defect, State.setSpan_localDefect (by rfl), hl]
    simp [State.remoteDefect, hf, Span.unwrapped]
  rw [show s.unwrapNow p = (s.setSpan p (s.span p).unwrapped).redetermine.evaluate p from if_pos hdue]
  refine State.redetermine_evaluate fun sets => ?_
  rw [State.setSpan_span_same, sound]
  rfl

theorem State.unwrapNow_ringState (hdue : s.unwrapDue p = true) (hl : s.localDefect p = false)
    (hf : (s.port p).flags.farFault = false) (hd : s.ring.state ≠ .dark) :
    (s.unwrapNow p).ring.state = if s.timing.masterAbsence = 8 then .isolated
      else if s.inService (oppositeSide p) = false then (if p = .e then .wrappedW else .wrappedE)
      else if s.ring.masterTaken = true then .closed else .forming := by
  have back : (s.setSpan p (s.span p).unwrapped).inService p = true := State.setSpan_inService _
  rw [State.unwrapNow_restores hdue hl hf, State.redetermine_ring]
  dsimp only
  rw [State.determined_inService (by simpa using hd) back, State.setSpan_inService_ne _ oppositeSide_ne, State.setSpan_timing,
    State.setSpan_masterTaken]

/-- Settles O19: by what the unwrap leaves where it stands due on a sound side; anywhere else the event is idle. -/
theorem unwrapRestoresTheSpan : Obligations.UnwrapRestoresTheSpan := by
  refine fun p s => ⟨fun hs hu h0 hl hf hd => ?_, fun hn => ?_⟩
  · have hdue : (s.setRaised []).unwrapDue p = true := State.unwrapDue_iff.mpr (by simpa using ⟨hs, hu, h0⟩)
    have hl' : (s.setRaised []).localDefect p = false := by simpa using hl
    have hf' : ((s.setRaised []).port p).flags.farFault = false := by simpa using hf
    refine ⟨s.event (·.unwrapNow p), rfl, OnlyIn.event_self (by simp) fun u => OnlyIn.unwrapNow p (by simp), ?_, ?_, ?_⟩
    · rw [State.event_span, State.unwrapNow_restores hdue hl' hf', State.redetermine_span, State.setSpan_span_same,
        State.setRaised_span]
      rfl
    · rw [State.event_span, State.unwrapNow_span_ne oppositeSide_ne, State.setRaised_span]
    · rw [State.event_ring, State.unwrapNow_ringState hdue hl' hf' hd, State.setRaised_inService, State.setRaised_timing,
        State.setRaised_ring]
  · have idle : (s.setRaised []).unwrapDue p = false := by
      rw [Bool.eq_false_iff, Ne, State.unwrapDue_iff, State.setRaised_span, State.setRaised_timing]
      rintro ⟨-, hu, h0⟩
      exact hn.elim (· hu) (· h0)
    refine congrArg _ (State.event_idle ?_)
    rw [State.unwrapNow, if_neg (by rw [idle]; exact nofun)]

end Sys2Proof.Machine
end

section
/-! The slot and drop banks: the copy, the swap commanded, and the swap taken or missed (R70 to R73, R81). -/

namespace Sys2Proof.Machine

variable {s t : State} {c : Cell}

/-! ### The tables of a plan (R69) -/

@[simp] theorem Plan.setSlots_slots (p : Plan) (i k : Bank) (x : Tab SlotEntry 128) :
    (p.setSlots i x).slots k = if k = i then x else p.slots k := by
  cases i <;> cases k <;> rfl

@[simp] theorem Plan.setDrops_drops (p : Plan) (i k : Bank) (x : Tab DropSource 64) :
    (p.setDrops i x).drops k = if k = i then x else p.drops k := by
  cases i <;> cases k <;> rfl

@[simp] theorem Plan.setSlots_drops (p : Plan) (i k : Bank) (x : Tab SlotEntry 128) : (p.setSlots i x).drops k = p.drops k := by
  cases i <;> cases k <;> rfl

@[simp] theorem Plan.setDrops_slots (p : Plan) (i k : Bank) (x : Tab DropSource 64) : (p.setDrops i x).slots k = p.slots k := by
  cases i <;> cases k <;> rfl

@[simp] theorem Plan.setSlots_active (p : Plan) (i : Bank) (x : Tab SlotEntry 128) : (p.setSlots i x).active = p.active := by
  cases i <;> rfl

@[simp] theorem Plan.setDrops_active (p : Plan) (i : Bank) (x : Tab DropSource 64) : (p.setDrops i x).active = p.active := by
  cases i <;> rfl

/-- A bank's tables replaced leave the pending swap, the outgoing plan and the drop trims. -/
theorem Plan.setSlots_rest (p : Plan) (i : Bank) (x : Tab SlotEntry 128) :
    (p.setSlots i x).swap = p.swap ∧ (p.setSlots i x).outgoing = p.outgoing ∧ (p.setSlots i x).dtrim = p.dtrim := by
  cases i <;> exact ⟨rfl, rfl, rfl⟩

theorem Plan.setDrops_rest (p : Plan) (i : Bank) (x : Tab DropSource 64) :
    (p.setDrops i x).swap = p.swap ∧ (p.setDrops i x).outgoing = p.outgoing ∧ (p.setDrops i x).dtrim = p.dtrim := by
  cases i <;> exact ⟨rfl, rfl, rfl⟩

theorem Bank.other_eq (k : Bank) : k.other = if k = .a then .b else .a := by cases k <;> rfl

/-- Of two banks one is the active one and the other the standby. -/
theorem Bank.eq_or_other (i k : Bank) : k = i ∨ k = i.other := by cases i <;> cases k <;> simp [Bank.other]

/-! ### COPY_BANK and SWAP_BANK (R70, R71) -/

/-- After a copy both banks hold the entries of the active one. -/
theorem State.copyBank_banks (k : Bank) :
    s.copyBank.plan.slots k = s.activeSlots ∧ s.copyBank.plan.drops k = s.activeDrops := by
  simp only [State.copyBank, State.setPlan_plan, Plan.setDrops_slots, Plan.setSlots_slots, Plan.setDrops_drops,
    Plan.setSlots_drops]
  rcases Bank.eq_or_other s.plan.active k with rfl | rfl
  · constructor <;> split <;> rfl
  · exact ⟨if_pos rfl, if_pos rfl⟩

theorem State.copyBank_rest : s.copyBank.plan.active = s.plan.active ∧ s.copyBank.plan.swap = s.plan.swap
    ∧ s.copyBank.plan.outgoing = s.plan.outgoing ∧ s.copyBank.plan.dtrim = s.plan.dtrim := by
  obtain ⟨hs, ho, hd⟩ := s.plan.setSlots_rest s.plan.active.other s.activeSlots
  obtain ⟨ks, ko, kd⟩ := (s.plan.setSlots s.plan.active.other s.activeSlots).setDrops_rest s.plan.active.other s.activeDrops
  exact ⟨by simp [State.copyBank], ks.trans hs, ko.trans ho, kd.trans hd⟩

theorem sfAtOrAfter_iff {a b : Nat} : sfAtOrAfter a b = true ↔ (a + 65536 - b % 65536) % 65536 < 32768 := by
  simp [sfAtOrAfter]

/-- A superframe lies after another where it is 1 to 32767 ahead of it (section 2.2). -/
theorem sfAfter_iff {a b : Nat} : sfAfter a b = true ↔
    1 ≤ (a + 65536 - b % 65536) % 65536 ∧ (a + 65536 - b % 65536) % 65536 < 32768 := by
  simp only [sfAfter, sfAtOrAfter_iff, Bool.and_eq_true, bne_iff_ne, ne_eq]
  omega

/-- COPY_BANK (R70). -/
theorem copyBank_spec (h : ActReady s c 0x01 0) : ∃ t, exec .copyBank s = .next t ∧ OnlyIn [.service, .plan] s t
    ∧ Answered s t c (reply .done []) ∧ t.plan = s.copyBank.plan := by
  have hx : exec .copyBank s = .next (s.popWork.copyBank.answer c (reply .done [])) :=
    congrArg _ (State.runAct_ready (act := fun _ s => (s.copyBank, reply .done [])) h)
  exact ⟨_, hx, by simp, answered_of rfl rfl, by simp only [State.answer_plan]; rfl⟩

/-- SWAP_BANK (R71). -/
theorem swapBank_spec (h : ActReady s c 0x02 2) : ∃ t, exec .swapBank s = .next t
    ∧ (s.plan.swap ≠ none → OnlyIn [.service] s t ∧ Answered s t c (reply .busy []))
    ∧ (s.plan.swap = none → sfAfter (c.arg16 1) s.timing.superframe = true → OnlyIn [.service, .plan] s t
        ∧ t.plan = { s.plan with swap := some (c.arg16 1) } ∧ Answered s t c (reply .done []))
    ∧ (s.plan.swap = none → sfAfter (c.arg16 1) s.timing.superframe = false →
        OnlyIn [.service] s t ∧ Answered s t c (reply .late [])) := by
  have hx : exec .swapBank s = .next ((s.popWork.swapBank (c.arg16 1)).1.answer c (s.popWork.swapBank (c.arg16 1)).2) :=
    congrArg _ (State.runAct_ready (act := fun c s => s.swapBank (c.arg16 1)) h)
  refine ⟨_, hx, fun hp => ?_, fun hp ha => ?_, fun hp ha => ?_⟩
  · have e : s.popWork.swapBank (c.arg16 1) = (s.popWork, reply .busy []) := by
      simp [State.swapBank, State.refuse, Option.isSome_iff_ne_none, hp]
    rw [e]
    exact answered_popWork
  · have e : s.popWork.swapBank (c.arg16 1) = (s.popWork.setPlan { s.plan with swap := some (c.arg16 1) }, reply .done []) := by
      simp [State.swapBank, State.swapAhead, hp, ha]
    rw [e]
    exact ⟨by simp, by simp, answered_of rfl rfl⟩
  · have e : s.popWork.swapBank (c.arg16 1) = (s.popWork, reply .late []) := by
      simp [State.swapBank, State.swapAhead, State.refuse, hp, ha]
    rw [e]
    exact answered_popWork

/-- Settles O40, from the two commands. -/
theorem banksCopiedAndSwapped : Obligations.BanksCopiedAndSwapped := by
  intro s c
  refine ⟨fun h => ?_, fun h => ?_⟩
  · obtain ⟨t, hx, ho, ha, hp⟩ := copyBank_spec h
    obtain ⟨ra, rs, ro, rd⟩ := s.copyBank_rest
    rw [← hp] at ra rs ro rd
    obtain ⟨as, ad⟩ := s.copyBank_banks .a
    obtain ⟨bs, bd⟩ := s.copyBank_banks .b
    rw [← hp] at as ad bs bd
    exact ⟨t, hx, ho, ha, as, bs, ad, bd, ra, rs, ro, rd⟩
  · obtain ⟨t, hx, busy, done, late⟩ := swapBank_spec h
    refine ⟨t, hx, busy, fun hp h₁ h₂ => done hp (sfAfter_iff.mpr ⟨h₁, h₂⟩), fun hp h₁ => late hp ?_⟩
    rw [Bool.eq_false_iff, Ne, sfAfter_iff]
    omega

/-! ### The swap taken (R72) -/

/-- The plan after a swap: the banks exchange roles, and the old active slot bank is the outgoing plan. -/
def State.swapped (s : State) : Plan :=
  { s.plan with active := if s.plan.active = .a then .b else .a, swap := none
                outgoing := some ⟨s.timing.superframe, s.activeSlots⟩ }

theorem State.swapDue_iff : s.swapDue = true ↔ s.plan.swap = some s.timing.superframe ∧ s.timing.frame = 0 := by
  simp [State.swapDue]

/-- A swap that stands due is taken, with a BANK notice. -/
theorem State.swapNow_due (h : s.swapDue = true) :
    s.swapNow = (s.setPlan s.swapped).raiseBank 0 s.timing.superframe := by
  simp only [State.swapNow, if_pos h, Bank.other_eq, State.swapped]

theorem State.swapNow_idle (h : ¬ s.swapDue = true) : s.swapNow = s := if_neg h

theorem State.swapNow_plan (h : s.swapDue = true) : s.swapNow.plan = s.swapped := by
  rw [State.swapNow_due h]
  rfl

/-! ### A swap at a load of the counters (R72, R73, R81) -/

/-- A load passes a pending swap's frame 0: it lay ahead, and now lies behind or earlier in its own superframe (R73). -/
def State.passes (s : State) (old apply : Nat) : Prop :=
  sfAtOrAfter apply (sfAdd old 1) = true
    ∧ (sfAtOrAfter apply s.timing.superframe = false ∨ apply = s.timing.superframe ∧ 0 < s.timing.frame)

theorem State.swapJump_due {old : Nat} (h : s.swapDue = true) : s.swapJump old = s.swapNow := by
  have hs := (State.swapDue_iff.mp h).1
  simp [State.swapJump, hs, h]

theorem State.swapJump_missed {old apply : Nat} (hs : s.plan.swap = some apply) (hd : ¬ s.swapDue = true)
    (h : s.passes old apply) : s.swapJump old = (s.setPlan { s.plan with swap := none }).raiseBank 1 apply := by
  simp only [State.swapJump, hs, if_neg hd]
  exact if_pos h

theorem State.swapJump_ahead {old apply : Nat} (hs : s.plan.swap = some apply) (hd : ¬ s.swapDue = true)
    (h : ¬ s.passes old apply) : s.swapJump old = s := by
  simp only [State.swapJump, hs, if_neg hd]
  exact if_neg h

theorem State.swapJump_none {old : Nat} (hs : s.plan.swap = none) : s.swapJump old = s := by
  simp [State.swapJump, hs]

/-- A load takes a swap that stands due, and as a later jump ends its outgoing plan. -/
theorem State.jump_plan_due (h : s.swapDue = true) (superframe frame : Nat) :
    (s.jump superframe frame).plan = { s.swapped with outgoing := none } := by
  have hr : s.reached.plan = s.swapped := State.reached_plan.trans (State.swapNow_plan h)
  have hl : OnlyIn [.service, .counters, .timing, .members] s.reached
      ((s.reached.laneJump superframe frame).setNumbers superframe frame) := by simp
  unfold State.jump
  dsimp only
  generalize (s.reached.laneJump superframe frame).setNumbers superframe frame = u at hl ⊢
  have hp : u.presentJump.plan = { s.swapped with outgoing := none } := by
    have e : u.plan = s.swapped := (hl.at .plan (by decide)).trans hr
    simp only [State.presentJump, State.setPlan_plan, e]
  have hs : u.presentJump.plan.swap = none := by rw [hp]; rfl
  have ho : ∀ v : State, OnlyIn [.service, .preamp, .tracking, .notices, .counters] v
      (if frame = 0 then v.preampJump.trackJump.pulseStrobe else v.preampJump.trackJump) := by
    intro v
    split <;> simp
  rw [State.swapJump_none hs]
  exact ((ho u.presentJump).at .plan (by decide)).trans hp

/-! ### The swap as an event (R72, R169) -/

/-- What the notice queue makes of a notice follows from the queue, the enabled kinds and the counters alone. -/
theorem State.intake_congr {r : Raised} (hn : t.notices = s.notices) (hm : t.sets = s.sets) (hc : t.counters = s.counters) :
    (t.intake r).notices = (s.intake r).notices ∧ (t.intake r).counters = (s.intake r).counters := by
  have he : t.noticeEnabled r.kind = s.noticeEnabled r.kind := by simp only [State.noticeEnabled, hm]
  unfold State.intake
  rw [he, hn]
  split_ifs
  · exact ⟨hn, hc⟩
  · exact ⟨rfl, hc⟩
  · exact ⟨rfl, hc⟩
  · exact ⟨rfl, by simp [State.bump, hc]⟩
  · exact ⟨hn, by simp [State.bump, hc]⟩

/-- BANK_SWAP_APPLY where it stands due (R72). -/
theorem bankSwapApply_due (h : s.swapDue = true) : ∃ t, exec .bankSwapApply s = .next t
    ∧ OnlyIn [.plan, .notices, .counters] s t ∧ t.plan = s.swapped
    ∧ ∃ d, t.notices = (s.intake ⟨.bank, s.id.val, d⟩).notices ∧ t.counters = (s.intake ⟨.bank, s.id.val, d⟩).counters := by
  have hd : (s.setRaised []).swapDue = true := h
  have e := State.swapNow_due hd
  refine ⟨_, rfl, exec_onlyIn (c := .bankSwapApply) rfl, ?_, ?_⟩
  · rw [State.event_plan, e]
    rfl
  · rw [State.event_one (by rw [e]; rfl), e]
    exact ⟨_, State.intake_congr (s := s) rfl rfl rfl⟩

/-- Settles O21: the swap at a jump, at a load that finds it due, and as an event of its own. -/
theorem bankSwapApplies : Obligations.BankSwapApplies := by
  refine ⟨fun s old apply hs => ?_, fun s superframe frame hs hf => ?_, fun s => ⟨fun hs hf => ?_, fun h => ?_⟩⟩
  · have hdue : s.swapDue = true ↔ apply = s.timing.superframe ∧ s.timing.frame = 0 := by
      rw [State.swapDue_iff, hs, Option.some.injEq]
    dsimp only
    refine ⟨by simp, fun ha hf => ?_, fun hw hp => ?_, fun ha hp => ?_⟩
    · subst ha
      have hd := hdue.mpr ⟨rfl, hf⟩
      rw [State.swapJump_due hd, State.swapNow_plan hd]
      rfl
    · have hd : ¬ s.swapDue = true := by rw [hdue]; omega
      have hpass : s.passes old apply := by
        simp only [State.passes, ← Bool.not_eq_true, sfAtOrAfter_iff, sfAdd]
        omega
      rw [State.swapJump_missed hs hd hpass]
      exact ⟨rfl, _, rfl⟩
    · refine State.swapJump_ahead hs (by rw [hdue]; exact fun k => ha k.1) ?_
      simp only [State.passes, ← Bool.not_eq_true, sfAtOrAfter_iff, sfAdd]
      omega
  · exact State.jump_plan_due (State.swapDue_iff.mpr ⟨hs, hf⟩) superframe frame
  · exact bankSwapApply_due (State.swapDue_iff.mpr ⟨hs, hf⟩)
  · refine congrArg _ (State.event_idle (State.swapNow_idle ?_))
    rw [State.swapDue_iff]
    exact fun k => h.elim (fun h => h k.1) (fun h => h k.2)

end Sys2Proof.Machine
end

section
/-! A WRITE of one or several entries: its entries read from the payload, taken in turn into their table, and answered (R93, R96,
R97, R186). -/

namespace Sys2Proof.Machine

variable {s : State} {c : Cell} {tb : Table} {first count : Nat} {α β σ : Type}

/-! ### The entries of a payload (R186) -/

theorem byteAt_take (l : List Byte) {k i : Nat} (h : i < k) : byteAt (l.take k) i = byteAt l i := by
  simp [byteAt, h]

/-- Cut into pieces, a list that is long enough gives each piece where it stands. -/
theorem pieces_eq (k n : Nat) {l : List Byte} (h : n * k ≤ l.length) :
    pieces k n l = (List.range n).map fun j => (l.drop (j * k)).take k := by
  induction n generalizing l with
  | zero => rfl
  | succ n ih =>
    have hk : k + n * k ≤ l.length := by rw [Nat.add_mul] at h; omega
    rw [pieces, if_neg (by omega), ih (by rw [List.length_drop]; omega), List.range_succ_eq_map, List.map_cons, List.map_map]
    refine congrArg₂ _ (by simp) (List.map_congr_left fun j _ => ?_)
    simp only [Function.comp_apply, List.drop_drop, Nat.succ_mul, Nat.add_comm k]

/-- The bytes of entry k of a WRITE. -/
def Cell.entryAt (c : Cell) (tb : Table) (k : Nat) : List Byte := (c.payload.toList.drop (4 + k * tb.size)).take tb.size

theorem Cell.entries_eq (h : c.count * tb.size ≤ 12) : c.entries tb = (List.range c.count).map (c.entryAt tb) := by
  rw [Cell.entries, pieces_eq _ _ (by rw [List.length_drop, c.payload.length_eq]; omega)]
  simp only [List.drop_drop]
  rfl

theorem Cell.byteAt_entryAt {i : Nat} (h : i < tb.size) (k : Nat) :
    byteAt (c.entryAt tb k) i = byteAt c.payload.toList (4 + k * tb.size + i) := by
  rw [Cell.entryAt, byteAt_take _ h, byteAt_drop]

/-- The bytes of the entry of a WRITE of one. -/
theorem Cell.entryAt_zero : c.entryAt tb 0 = c.entryWritten tb := by simp [Cell.entryAt, Cell.entryWritten]

/-! ### An entry taken, clamped or refused (R97) -/

/-- What becomes of an entry whose bytes are found to be this. -/
def Parsed.fate : Parsed α → Taken
  | .taken _ => .taken
  | .clamped _ => .clamped
  | .refused st => .refused st

/-- A value put in its place, or what stood there where it is refused. -/
def Parsed.into (put : α → β) (old : β) : Parsed α → β
  | .taken a => put a
  | .clamped a => put a
  | .refused _ => old

theorem State.accept_eq (s : State) (p : Parsed α) (put : α → State) : s.accept p put = (p.into put s, p.fate) := by
  cases p <;> rfl

theorem Parsed.near_fate [DecidableEq α] (written nearest : α) :
    (Parsed.near written nearest).fate = if nearest = written then .taken else .clamped := by
  unfold Parsed.near
  split <;> rfl

/-- A value brought within its range is put in its place, be it the one written or not. -/
theorem Parsed.near_into [DecidableEq α] (written nearest : α) (put : α → β) (old : β) :
    (Parsed.near written nearest).into put old = put nearest := by
  unfold Parsed.near
  split
  · next h => rw [h]; rfl
  · rfl

/-! ### Entries taken in turn (R97) -/

theorem writeAll_append (w : EntryWriter) (b : List Byte) (l : List (List Byte)) (i : Nat) (s : State) :
    writeAll w i (l ++ [b]) s =
      let r := writeAll w i l s
      let q := w (i + l.length) b r.1
      (q.1, r.2 ++ [(i + l.length, q.2)]) := by
  induction l generalizing i s with
  | nil => rfl
  | cons a l ih =>
    have e : i + 1 + l.length = i + (l.length + 1) := by omega
    simp only [List.cons_append, writeAll, ih, List.length_cons, e]

/-- The tables after n entries from the first on have been put in their places, or refused. -/
def putAll (put : Nat → α → σ → σ) (f : Nat → Parsed α) (first : Nat) : Nat → σ → σ
  | 0, x => x
  | n + 1, x => (f n).into (fun a => put (first + n) a (putAll put f first n x)) (putAll put f first n x)

/-- Where a table's writer makes of the state with tables x the one with the entry's value put into x, several entries are put
in turn, and what becomes of each is what its bytes are found to be. -/
theorem writeAll_putAll {w : EntryWriter} {S : σ → State} {put : Nat → α → σ → σ} {f : Nat → Parsed α} {e : Nat → List Byte}
    (hw : ∀ k x, w (first + k) (e k) (S x) = (S x).accept (f k) fun a => S (put (first + k) a x)) (n : Nat) (x : σ) :
    writeAll w first ((List.range n).map e) (S x) =
      (S (putAll put f first n x), (List.range n).map fun k => (first + k, (f k).fate)) := by
  induction n with
  | zero => rfl
  | succ n ih =>
    have hp : ∀ (p : Parsed α) (g : α → σ) (y : σ), p.into (fun a => S (g a)) (S y) = S (p.into g y) := by
      intro p g y
      cases p <;> rfl
    simp only [List.range_succ, List.map_append, List.map_cons, List.map_nil, writeAll_append, ih, List.length_map,
      List.length_range, hw, State.accept_eq, hp, putAll]

/-- What several puts make of each entry: one outside their range stays, and one within takes its value or is refused. -/
theorem putAll_get {put : Nat → α → σ → σ} {get : σ → Nat → β} {upd : α → β → β} {f : Nat → Parsed α} {n : Nat}
    (hput : ∀ k, k < n → ∀ a x j, get (put (first + k) a x) j = if first + k = j then upd a (get x j) else get x j) (x : σ) :
    (∀ j, j < first ∨ first + n ≤ j → get (putAll put f first n x) j = get x j)
    ∧ ∀ k, k < n → get (putAll put f first n x) (first + k) =
        (f k).into (fun a => upd a (get x (first + k))) (get x (first + k)) := by
  induction n with
  | zero => exact ⟨fun _ _ => rfl, fun k hk => absurd hk (Nat.not_lt_zero k)⟩
  | succ n ih =>
    obtain ⟨outside, within⟩ := ih fun k hk => hput k (by omega)
    have step : ∀ j, get (putAll put f first (n + 1) x) j = if first + n = j then
        (f n).into (fun a => upd a (get (putAll put f first n x) j)) (get (putAll put f first n x) j)
        else get (putAll put f first n x) j := by
      intro j
      rw [putAll]
      cases f n with
      | taken a => exact hput n (by omega) a _ j
      | clamped a => exact hput n (by omega) a _ j
      | refused st => exact (ite_self _).symm
    refine ⟨fun j hj => ?_, fun k hk => ?_⟩
    · rw [step, if_neg (by omega), outside j (by omega)]
    · rw [step]
      rcases Nat.lt_or_ge k n with h | h
      · rw [if_neg (by omega), within k h]
      · have hkn : k = n := by omega
        subst hkn
        rw [if_pos rfl, outside _ (by omega)]

/-- What several puts into one table make of its entries. -/
theorem putAll_tab [Inhabited α] {m : Nat} {f : Nat → Parsed α} {n : Nat} (h : first + n ≤ m) (x : Tab α m) :
    (∀ j, j < first ∨ first + n ≤ j → (putAll (fun i a (x : Tab α m) => x.put i a) f first n x).get j = x.get j)
    ∧ ∀ k, k < n → (putAll (fun i a (x : Tab α m) => x.put i a) f first n x).get (first + k) =
        (f k).into (fun a => a) (x.get (first + k)) :=
  putAll_get (upd := fun a _ => a) (fun _ hk a x _ => Tab.get_put x a (by omega)) x

/-! ### The answer (R97) -/

theorem refusedOf_append (l m : List (Nat × Taken)) : refusedOf (l ++ m) = refusedOf l ++ refusedOf m := List.filterMap_append

/-- Nothing is refused where every entry is taken, as written or clamped. -/
theorem refusedOf_none {l : List (Nat × Taken)} (h : ∀ x ∈ l, x.2 = .taken ∨ x.2 = .clamped) : refusedOf l = [] := by
  refine List.filterMap_eq_nil_iff.mpr fun x hx => ?_
  rcases h x hx with e | e <;> rw [e]

theorem refusedOf_length (l : List (Nat × Taken)) :
    (refusedOf l).length = l.countP fun x => decide (x.2 ≠ .taken ∧ x.2 ≠ .clamped) := by
  induction l with
  | nil => rfl
  | cons x l ih =>
    obtain ⟨i, r⟩ := x
    cases r
    case refused st =>
      rw [List.countP_cons_of_pos (by simp), ← ih]
      rfl
    all_goals
      rw [List.countP_cons_of_neg (by simp), ← ih]
      rfl

theorem writeReply_taken (tb : Table) {l : List (Nat × Taken)} (h : ∀ x ∈ l, x.2 = .taken) :
    writeReply tb l = reply .done [byte l.length] := by
  have hc : l.find? (fun x => x.2 == .clamped) = none := List.find?_eq_none.mpr fun x hx => by rw [h x hx]; decide
  simp only [writeReply, refusedOf_none fun x hx => .inl (h x hx), hc]

theorem writeReply_clamped (tb : Table) {l after : List (Nat × Taken)} (i : Nat) (h : ∀ x ∈ l, x.2 = .taken)
    (ha : ∀ x ∈ after, x.2 = .taken ∨ x.2 = .clamped) :
    writeReply tb (l ++ (i, .clamped) :: after) = reply .clamped (tb.indexBytes i) := by
  have hr : refusedOf (l ++ (i, .clamped) :: after) = [] := by
    refine refusedOf_none fun x hx => ?_
    rcases List.mem_append.mp hx with hx | hx
    · exact .inl (h x hx)
    · rcases List.mem_cons.mp hx with rfl | hx
      · exact .inr rfl
      · exact ha x hx
  have hc : l.find? (fun x => x.2 == .clamped) = none := List.find?_eq_none.mpr fun x hx => by rw [h x hx]; decide
  simp [writeReply, hr, List.find?_append, hc]

theorem writeReply_refused (tb : Table) {l : List (Nat × Taken)} (after : List (Nat × Taken)) (i : Nat) (st : Status)
    (h : ∀ x ∈ l, x.2 = .taken ∨ x.2 = .clamped) :
    let n := 1 + after.countP fun x => decide (x.2 ≠ .taken ∧ x.2 ≠ .clamped)
    writeReply tb (l ++ (i, .refused st) :: after)
      = if n = l.length + 1 + after.length then reply st (tb.indexBytes i ++ [byte n])
        else reply .partly (tb.indexBytes i ++ [st.code, byte n]) := by
  have hr : refusedOf (l ++ (i, .refused st) :: after) = (i, st) :: refusedOf after := by
    rw [refusedOf_append, refusedOf_none h]
    rfl
  have hl : (l ++ (i, .refused st) :: after).length = l.length + 1 + after.length := by simp; omega
  simp only [writeReply, hr, refusedOf_length, hl, Nat.add_comm 1]

/-- The answer to a WRITE of one entry. -/
theorem writeReply_one (tb : Table) (i : Nat) (r : Taken) : writeReply tb [(i, r)] = match r with
    | .taken => reply .done [1]
    | .clamped => reply .clamped (tb.indexBytes i)
    | .refused st => reply st (tb.indexBytes i ++ [1]) := by
  cases r
  case taken => exact writeReply_taken tb (l := [(i, .taken)]) (by simp)
  case clamped => exact writeReply_clamped tb (l := []) (after := []) i (by simp) (by simp)
  case refused st => exact writeReply_refused tb (l := []) [] i st (by simp)

/-! ### A WRITE at the head (R93, R96) -/

/-- A WRITE of one entry is a WRITE of one in a row. -/
theorem WriteReady.writes {i : Nat} (h : WriteReady s c tb i) : WritesReady s c tb i 1 := by
  obtain ⟨hr, hk, ht, hf, hc, hl, hi⟩ := h
  exact ⟨hr, hk, ht, hf, hc, by rw [hl, Nat.one_mul], Nat.le_refl 1, by cases tb <;> decide, hi⟩

theorem WritesReady.within (h : WritesReady s c tb first count) : first + count ≤ tb.entries := by
  obtain ⟨-, -, -, -, -, -, -, -, hfit⟩ := h
  exact hfit

theorem WriteReady.within {i : Nat} (h : WriteReady s c tb i) : i < tb.entries := by
  obtain ⟨-, -, -, -, -, -, hi⟩ := h
  exact hi

/-- A WRITE that is rightly formed, of a table the node has and that can be written, takes its entries in turn and is answered
with what became of each. -/
theorem State.runWrite_ready {q : List Table} {w : Table → EntryWriter} (h : WritesReady s c tb first count) (hq : tb ∈ q)
    (ha : s.tableRefusal tb true = none) :
    let r := writeAll (w tb) first ((List.range count).map (c.entryAt tb)) s.popWork
    s.runWrite q w = r.1.answer c (writeReply tb r.2) := by
  obtain ⟨hr, hk, ht, hf, hc, hl, hpos, hsize, hfit⟩ := h
  have fits : c.writeFits tb = true := by
    simp only [Cell.writeFits, Cell.inTable, hc, hf, hl, Bool.and_eq_true, decide_eq_true_eq, beq_iff_eq]
    exact ⟨⟨⟨hpos, hfit⟩, hsize⟩, trivial⟩
  have ha' : s.popWork.tableRefusal tb true = none := ha
  rw [State.runWrite_of hr (by simp [Cell.writes, hk, ht, hq])]
  simp only [writeAct, ht, ha', fits, if_pos, hf, Cell.entries_eq (hc ▸ hsize), hc]

/-- A WRITE of one entry. -/
theorem State.runWrite_one {q : List Table} {w : Table → EntryWriter} {i : Nat} {u : State} {r : Taken}
    (h : WriteReady s c tb i) (hq : tb ∈ q) (ha : s.tableRefusal tb true = none)
    (hw : w tb i (c.entryWritten tb) s.popWork = (u, r)) :
    s.runWrite q w = u.answer c (writeReply tb [(i, r)]) := by
  have e : (List.range 1).map (c.entryAt tb) = [c.entryWritten tb] := congrArg (· :: []) Cell.entryAt_zero
  have k := State.runWrite_ready (w := w) h.writes hq ha
  simp only [e, writeAll, hw] at k
  exact k

/-- A WRITE to a table whose writer puts values into the tables x of the state S x. -/
theorem State.runWrite_putAll {q : List Table} {w : Table → EntryWriter} {S : σ → State} {put : Nat → α → σ → σ}
    {f : Nat → Parsed α} {x : σ} (h : WritesReady s c tb first count) (hq : tb ∈ q)
    (ha : s.tableRefusal tb true = none) (hS : S x = s.popWork)
    (hw : ∀ k x, w tb (first + k) (c.entryAt tb k) (S x) = (S x).accept (f k) fun a => S (put (first + k) a x)) :
    s.runWrite q w = (S (putAll put f first count x)).answer c
      (writeReply tb ((List.range count).map fun k => (first + k, (f k).fate))) := by
  have k := State.runWrite_ready (w := w) h hq ha
  simp only [← hS, writeAll_putAll hw] at k
  exact k

end Sys2Proof.Machine
end

section
/-! WRITE of SETS, drop trims, stage trims, tracking entries and BUS records (R87, R99, R102, R124, R134, R136). -/

namespace Sys2Proof.Machine

variable {s : State} {c : Cell} {tb : Table} {i first count : Nat} {β : Type}

/-- A table that every role has and that can be written is refused to no WRITE. -/
theorem State.tableRefusal_none (hr : tb.readOnly = none) (h : tb.stageOnly = false ∨ s.isStage = true) :
    s.tableRefusal tb true = none := by
  have hd : (tb.stageOnly && s.isDesk) = false := by
    rcases h with h | h
    · rw [h, Bool.false_and]
    · have : s.straps.role = .stage := by simpa [State.isStage] using h
      simp [State.isDesk, this]
  simp [State.tableRefusal, hd, hr]

/-- A payload byte of the one entry of a WRITE. -/
theorem Cell.byteAt_entryWritten {k : Nat} (h : k < tb.size) :
    (byteAt (c.entryWritten tb) k).toNat = c.arg (4 + k) := by
  rw [← Cell.entryAt_zero, Cell.byteAt_entryAt h, Nat.zero_mul, Nat.add_zero, Cell.arg]

/-! ### SETS (R80, R102) -/

theorem Sets.withField_same (x : Sets) (hi : i < 8) (v : Nat) : (x.withField i v).field i = v := by
  interval_cases i <;> rfl

theorem Sets.withField_ne (x : Sets) {j : Nat} (hi : i < 8) (hj : j < 8) (h : j ≠ i) (v : Nat) :
    (x.withField i v).field j = x.field j := by
  interval_cases i <;> interval_cases j <;> simp_all [Sets.withField, Sets.field]

/-- The ranges of the first seven fields. -/
theorem setsRange_of {lo hi : Nat}
    (h : [(16, 40), (0, 15), (10, 10000), (0, 60000), (0, 600), (0, 3), (0, 3)][i]? = some (lo, hi)) (v : Nat) :
    lo ≤ hi ∧ setsRange i v = max lo (min v hi) ∧ setsWritten i v = v := by
  have hi : i < 7 := by
    by_contra k
    rw [List.getElem?_eq_none (by simpa using k)] at h
    exact nomatch h
  interval_cases i <;> cases h <;> exact ⟨by decide, rfl, rfl⟩

/-- D follows the presentation delay of SETS once it has left its start value; every other field leaves it (R80). -/
theorem State.setField_present (v : Nat) : (s.setField i v).present = { s.present with
    delayNext := if i = 0 ∧ s.present.delayStarted = true then v else s.present.delayNext } := by
  unfold State.setField
  by_cases h : i = 0 ∧ s.present.delayStarted = true
  · simp [h]
  · simp [h]

theorem State.setField_sets (v : Nat) : (s.setField i v).sets = s.sets.withField i v := by
  unfold State.setField
  dsimp only
  split <;> rfl

/-- WRITE_SETS of one field (R102). -/
theorem writeSets_one (h : WriteReady s c .sets i) :
    let v := c.arg 4 + 256 * c.arg 5
    exec .writeSets s = .next ((s.popWork.setField i (setsRange i v)).answer c
      (if setsRange i v = setsWritten i v then reply .done [1] else reply .clamped [byte i])) := by
  have hv : wordAt (c.entryWritten .sets) 0 = c.arg 4 + 256 * c.arg 5 := by
    rw [wordAt, Cell.byteAt_entryWritten (by decide), Cell.byteAt_entryWritten (by decide)]
  have hw : writeSet i (c.entryWritten .sets) s.popWork = (s.popWork.setField i (setsRange i (c.arg 4 + 256 * c.arg 5)),
      if setsRange i (c.arg 4 + 256 * c.arg 5) = setsWritten i (c.arg 4 + 256 * c.arg 5) then .taken else .clamped) := by
    rw [writeSet, State.accept_eq, parseSet, Parsed.near_fate, Parsed.near_into, hv]
  refine congrArg _ ((State.runWrite_one (w := fun _ => writeSet) h (by decide)
    (State.tableRefusal_none rfl (.inl rfl)) hw).trans (congrArg _ ?_))
  split <;> exact writeReply_one _ _ _

/-- Settles O37, from the WRITE of one SETS field. -/
theorem settingsWrites : Obligations.SettingsWrites := by
  intro s c i h
  have hi : i < 8 := h.within
  intro v
  have hx := writeSets_one h
  have ho : OnlyIn [.sets, .present] s.popWork (s.popWork.setField i (setsRange i v)) := by simp
  have answered : ∀ r, Answered s ((s.popWork.setField i (setsRange i v)).answer c r) c r := fun r =>
    answered_of (ho.at .service (by decide)) (ho.at .straps (by decide))
  have hsets : (s.popWork.setField i (setsRange i v)).sets = s.sets.withField i (setsRange i v) := State.setField_sets _
  refine ⟨_, hx, exec_onlyIn (c := .writeSets) hx, fun j hj hne => ?_, fun lo hi' hr => ?_, fun h7 => ?_, ?_⟩
  · rw [State.answer_sets, hsets, Sets.withField_ne _ hi hj hne]
  · obtain ⟨hle, er, ew⟩ := setsRange_of hr v
    refine ⟨by rw [State.answer_sets, hsets, Sets.withField_same _ hi, er], ?_⟩
    have inside : setsRange i v = setsWritten i v ↔ lo ≤ v ∧ v ≤ hi' := by rw [er, ew]; omega
    simp only [v, inside]
    exact answered _
  · subst h7
    refine ⟨by rw [State.answer_sets, hsets]; rfl, ?_⟩
    have written : setsRange 7 v = setsWritten 7 v := rfl
    rw [if_pos written]
    exact answered _
  · rw [State.answer_present, State.setField_present]
    refine congrArg (fun d => { s.present with delayNext := d }) ?_
    by_cases h0 : i = 0
    · subst h0
      rfl
    · simp [h0]

/-! ### Trims (R87, R124, R134) -/

/-- A trim is taken as written where it is not above its most. -/
theorem parseTrim_fate {hi : Int} (h : -128 ≤ hi) (b : List Byte) :
    (parseTrim hi b).fate = if (byteAt b 0).toInt ≤ hi then .taken else .clamped := by
  have lo := BitVec.le_toInt (byteAt b 0)
  have e : clampInt (byteAt b 0).toInt (-128) hi = (byteAt b 0).toInt ↔ (byteAt b 0).toInt ≤ hi := by
    unfold clampInt
    omega
  rw [parseTrim, Parsed.near_fate]
  simp only [e]

/-- A trim is brought to at most its most and put in its place. -/
theorem parseTrim_into {hi : Int} (h : -128 ≤ hi) (b : List Byte) (put : Int → β) (old : β) :
    (parseTrim hi b).into put old = put (min (byteAt b 0).toInt hi) := by
  have lo := BitVec.le_toInt (byteAt b 0)
  rw [parseTrim, Parsed.near_into]
  exact congrArg put (by unfold clampInt; omega)

/-- A signed byte is at most 127. -/
theorem min_toInt (b : Byte) : min b.toInt 127 = b.toInt ∧ b.toInt ≤ 127 := by
  have := BitVec.toInt_lt (x := b)
  omega

/-- A trim of any signed byte is taken as written. -/
theorem parseTrim_byte (b : List Byte) (put : Int → β) (old : β) :
    (parseTrim 127 b).fate = .taken ∧ (parseTrim 127 b).into put old = put (byteAt b 0).toInt := by
  obtain ⟨e, h⟩ := min_toInt (byteAt b 0)
  exact ⟨by rw [parseTrim_fate (by decide), if_pos h], by rw [parseTrim_into (by decide), e]⟩

/-- Entry k of a WRITE of one-byte entries. -/
theorem Cell.trimAt (h : tb.size = 1) (k : Nat) : byteAt (c.entryAt tb k) 0 = byteAt c.payload.toList (4 + k) := by
  rw [Cell.byteAt_entryAt (by omega), h, Nat.mul_one, Nat.add_zero]

theorem Cell.trimWritten (h : tb.size = 1) : byteAt (c.entryWritten tb) 0 = byteAt c.payload.toList 4 := by
  rw [← Cell.entryAt_zero, Cell.trimAt h]

/-- The answer where every entry is taken as written. -/
theorem writeReply_allTaken {f : Nat → Taken} (hf : ∀ k, f k = .taken) :
    writeReply tb ((List.range count).map fun k => (first + k, f k)) = reply .done [byte count] := by
  rw [writeReply_taken, List.length_map, List.length_range]
  intro x hx
  obtain ⟨k, -, rfl⟩ := List.mem_map.mp hx
  exact hf k

/-- A WRITE of drop trims (R87). -/
theorem writeDtrim_range (h : WritesReady s c .dtrim first count) :
    let x := fun k => (byteAt c.payload.toList (4 + k)).toInt
    ∃ y : Tab Int 64, exec .writeDtrim s = .next ((s.popWork.setPlan { s.plan with dtrim := y }).answer c
        (writeReply .dtrim ((List.range count).map fun k => (first + k, if x k ≤ 63 then Taken.taken else .clamped))))
      ∧ (∀ j, j < first ∨ first + count ≤ j → y.get j = s.plan.dtrim.get j)
      ∧ ∀ k, k < count → y.get (first + k) = min (x k) 63 := by
  have run := State.runWrite_putAll (q := [.dtrim]) (w := fun _ => writeDtrim)
    (S := fun y => s.popWork.setPlan { s.plan with dtrim := y })
    (put := fun i a y => y.put i a) (f := fun k => parseTrim 63 (c.entryAt .dtrim k)) (x := s.plan.dtrim) h (by decide)
    (State.tableRefusal_none rfl (.inl rfl)) rfl fun k y => rfl
  obtain ⟨outside, within⟩ := putAll_tab (m := 64) (f := fun k => parseTrim 63 (c.entryAt .dtrim k)) h.within s.plan.dtrim
  refine ⟨_, (congrArg _ run).trans ?_, outside, fun k hk => ?_⟩
  · simp only [parseTrim_fate (hi := 63) (by decide), Cell.trimAt (tb := .dtrim) rfl]
  · rw [within k hk, parseTrim_into (by decide), Cell.trimAt rfl]

/-- A stage trim in its place beside its preamp entry, whose trim-limit flag clears (R124). -/
def putStrim (i : Nat) (a : Int) (x : Tab Int 64 × Tab PreampEntry 64) : Tab Int 64 × Tab PreampEntry 64 :=
  (x.1.put i a, x.2.put i { x.2.get i with trimLimit := false })

/-- The state with these stage trims and preamp entries. -/
def State.withStrim (s : State) (x : Tab Int 64 × Tab PreampEntry 64) : State :=
  (s.setTracking { s.tracking with strim := x.1 }).setPreamp { s.preamp with entries := x.2 }

theorem writeStrim_eq (b : List Byte) (x : Tab Int 64 × Tab PreampEntry 64) :
    writeStrim i b (s.withStrim x) = (s.withStrim x).accept (parseTrim 127 b) fun a => s.withStrim (putStrim i a x) := rfl

/-- A WRITE of stage trims at a STAGE node (R124). -/
theorem writeStrim_range (h : WritesReady s c .strim first count) (hs : s.isStage = true) :
    ∃ y, exec .writeStrim s = .next ((s.popWork.withStrim y).answer c (reply .done [byte count]))
      ∧ (∀ j, j < first ∨ first + count ≤ j → y.1.get j = s.tracking.strim.get j ∧ y.2.get j = s.entry j)
      ∧ ∀ k, k < count → y.1.get (first + k) = (byteAt c.payload.toList (4 + k)).toInt
        ∧ y.2.get (first + k) = { s.entry (first + k) with trimLimit := false } := by
  have hfit : first + count ≤ 64 := h.within
  have run := State.runWrite_putAll (q := [.strim]) (w := fun _ => writeStrim) (S := s.popWork.withStrim) (put := putStrim)
    (f := fun k => parseTrim 127 (c.entryAt .strim k)) (x := (s.tracking.strim, s.preamp.entries)) h (by decide)
    (State.tableRefusal_none rfl (.inr hs)) rfl fun k y => writeStrim_eq _ _
  obtain ⟨outside, within⟩ := putAll_get (put := putStrim) (first := first) (n := count)
    (f := fun k => parseTrim 127 (c.entryAt .strim k)) (get := fun x j => (x.1.get j, x.2.get j))
    (upd := fun a e => (a, { e.2 with trimLimit := false })) (fun k hk a x j => by
      simp only [putStrim, Tab.get_put _ _ (show first + k < 64 by omega)]
      by_cases e : first + k = j
      · subst e
        simp
      · simp [e]) (s.tracking.strim, s.preamp.entries)
  have taken : ∀ k, (parseTrim 127 (c.entryAt .strim k)).fate = .taken := fun k => (parseTrim_byte _ (fun a => a) 0).1
  refine ⟨_, (congrArg _ run).trans ?_, fun j hj => Prod.mk.inj (outside j hj), fun k hk => ?_⟩
  · rw [writeReply_allTaken taken]
  · have e := within k hk
    rw [(parseTrim_byte _ _ _).2, Cell.trimAt rfl] at e
    exact Prod.mk.inj e

/-- A WRITE of tracking entries (R134). -/
theorem writeTrack_range (h : WritesReady s c .track first count) :
    ∃ y : Tab Int 256, exec .writeTrack s = .next ((s.popWork.setTracking { s.tracking with table := y }).answer c
        (reply .done [byte count]))
      ∧ (∀ j, j < first ∨ first + count ≤ j → y.get j = s.tracking.table.get j)
      ∧ ∀ k, k < count → y.get (first + k) = (byteAt c.payload.toList (4 + k)).toInt := by
  have run := State.runWrite_putAll (q := [.track]) (w := fun _ => writeTrack)
    (S := fun y => s.popWork.setTracking { s.tracking with table := y })
    (put := fun i a y => y.put i a) (f := fun k => parseTrim 127 (c.entryAt .track k)) (x := s.tracking.table) h (by decide)
    (State.tableRefusal_none rfl (.inl rfl)) rfl fun k y => rfl
  obtain ⟨outside, within⟩ := putAll_tab (m := 256) (f := fun k => parseTrim 127 (c.entryAt .track k)) h.within
    s.tracking.table
  have taken : ∀ k, (parseTrim 127 (c.entryAt .track k)).fate = .taken := fun k => (parseTrim_byte _ (fun a => a) 0).1
  refine ⟨_, (congrArg _ run).trans ?_, outside, fun k hk => ?_⟩
  · rw [writeReply_allTaken taken]
  · rw [within k hk, (parseTrim_byte _ _ _).2, Cell.trimAt rfl]

/-! ### One trim, one BUS record (R87, R124, R134, R136) -/
/-- A WRITE of one drop trim. -/
theorem writeDtrim_one (h : WriteReady s c .dtrim i) :
    let x := (byteAt c.payload.toList 4).toInt
    exec .writeDtrim s = .next ((s.popWork.setPlan { s.plan with dtrim := s.plan.dtrim.put i (min x 63) }).answer c
      (if x ≤ 63 then reply .done [1] else reply .clamped [byte i])) := by
  have hw : writeDtrim i (c.entryWritten .dtrim) s.popWork =
      (s.popWork.setPlan { s.plan with dtrim := s.plan.dtrim.put i (min (byteAt c.payload.toList 4).toInt 63) },
        if (byteAt c.payload.toList 4).toInt ≤ 63 then .taken else .clamped) := by
    rw [writeDtrim, State.accept_eq, parseTrim_fate (by decide), parseTrim_into (by decide), Cell.trimWritten rfl]
    rfl
  refine congrArg _ ((State.runWrite_one (w := fun _ => writeDtrim) h (by decide)
    (State.tableRefusal_none rfl (.inl rfl)) hw).trans (congrArg _ ?_))
  split <;> exact writeReply_one _ _ _

/-- A WRITE of one stage trim at a STAGE node. -/
theorem writeStrim_one (h : WriteReady s c .strim i) (hs : s.isStage = true) : exec .writeStrim s =
    .next ((s.popWork.withStrim (putStrim i (byteAt c.payload.toList 4).toInt (s.tracking.strim, s.preamp.entries))).answer c
      (reply .done [1])) := by
  have hw : writeStrim i (c.entryWritten .strim) s.popWork =
      (s.popWork.withStrim (putStrim i (byteAt c.payload.toList 4).toInt (s.tracking.strim, s.preamp.entries)), .taken) := by
    obtain ⟨ht, hi⟩ := parseTrim_byte (c.entryWritten .strim)
      (fun a => s.popWork.withStrim (putStrim i a (s.tracking.strim, s.preamp.entries))) s.popWork
    rw [← Cell.trimWritten (tb := .strim) rfl, ← hi, ← ht]
    exact State.accept_eq _ _ _
  exact congrArg _ ((State.runWrite_one (w := fun _ => writeStrim) h (by decide)
    (State.tableRefusal_none rfl (.inr hs)) hw).trans (congrArg _ (writeReply_one _ _ _)))

/-- A WRITE of one tracking entry. -/
theorem writeTrack_one (h : WriteReady s c .track i) : exec .writeTrack s =
    .next ((s.popWork.setTracking { s.tracking with table := s.tracking.table.put i (byteAt c.payload.toList 4).toInt }).answer c
      (reply .done [1])) := by
  have hw : writeTrack i (c.entryWritten .track) s.popWork = (s.popWork.setTracking
      { s.tracking with table := s.tracking.table.put i (byteAt c.payload.toList 4).toInt }, .taken) := by
    obtain ⟨ht, hi⟩ := parseTrim_byte (c.entryWritten .track)
      (fun a => s.popWork.setTracking { s.tracking with table := s.tracking.table.put i a }) s.popWork
    rw [← Cell.trimWritten (tb := .track) rfl, ← hi, ← ht]
    exact State.accept_eq _ _ _
  exact congrArg _ ((State.runWrite_one (w := fun _ => writeTrack) h (by decide)
    (State.tableRefusal_none rfl (.inl rfl)) hw).trans (congrArg _ (writeReply_one _ _ _)))

/-- A bus with the written fields of a BUS record; its send list stays (R136). -/
def Cell.busOver (c : Cell) (old : Bus) : Bus :=
  { old with
    masterTarget := c.arg 4, masterApplied := c.arg 5, talkLevel := c.arg 6, duckDepth := min (c.arg 7) 64
    duckApplied := min (c.arg 8) 64, prescaler := c.arg 9 % 16, ramp := c.arg 9 / 16
    clips := c.arg 11 + 256 * c.arg 12, duckBefore := none }

theorem parseBus_written (old : Bus) : parseBus old (c.entryWritten .bus) =
    if c.arg 7 ≤ 64 ∧ c.arg 8 ≤ 64 then .taken (c.busOver old) else .clamped (c.busOver old) := by
  have e : ∀ k, k < 9 → (byteAt (c.entryWritten .bus) k).toNat = c.arg (4 + k) := fun k hk => Cell.byteAt_entryWritten hk
  simp only [parseBus, wordAt, e 0 (by decide), e 1 (by decide), e 2 (by decide), e 3 (by decide), e 4 (by decide),
    e 5 (by decide), e 7 (by decide), e 8 (by decide), Nat.reduceAdd]
  by_cases h : c.arg 7 ≤ 64 ∧ c.arg 8 ≤ 64
  · rw [if_pos h, if_neg (by omega)]
    rfl
  · rw [if_neg h, if_pos (by omega)]
    rfl

/-- A WRITE of one BUS record at a STAGE node. -/
theorem writeBus_one (h : WriteReady s c .bus i) (hs : s.isStage = true) :
    exec .writeBus s = .next ((s.popWork.setBus i (c.busOver (s.bus i))).answer c
      (if c.arg 7 ≤ 64 ∧ c.arg 8 ≤ 64 then reply .done [1] else reply .clamped [byte i])) := by
  have hw : writeBus i (c.entryWritten .bus) s.popWork = (s.popWork.setBus i (c.busOver (s.bus i)),
      if c.arg 7 ≤ 64 ∧ c.arg 8 ≤ 64 then .taken else .clamped) := by
    rw [writeBus, parseBus_written]
    split <;> rfl
  refine congrArg _ ((State.runWrite_one (w := fun _ => writeBus) h (by decide)
    (State.tableRefusal_none rfl (.inr hs)) hw).trans (congrArg _ ?_))
  split <;> exact writeReply_one _ _ _

/-- Settles O33: several trims, the answer of each outcome, and the WRITEs of one entry. -/
theorem trimAndBusWrites : Obligations.TrimAndBusWrites := by
  refine ⟨fun s c first count h => ?_, fun s c first count => ⟨fun h hs => ?_, fun h => ?_⟩, fun tb _ => writeReply_taken tb,
    fun tb _ _ i => writeReply_clamped tb i, fun tb _ after i st => writeReply_refused tb after i st,
    fun s c i => ⟨fun h => ?_, fun h hs => ?_, fun h => ?_, fun h hs => ?_⟩⟩
  · obtain ⟨y, hx, outside, within⟩ := writeDtrim_range h
    exact ⟨_, hx, exec_onlyIn (c := .writeDtrim) hx, by simp, by simpa using outside, by simpa using within,
      answered_of rfl rfl⟩
  · obtain ⟨y, hx, outside, within⟩ := writeStrim_range h hs
    exact ⟨_, hx, exec_onlyIn (c := .writeStrim) hx, by simp [State.withStrim], by simp [State.withStrim],
      by simpa [State.withStrim, State.entry] using outside, by simpa [State.withStrim, State.entry] using within,
      answered_of rfl rfl⟩
  · obtain ⟨y, hx, outside, within⟩ := writeTrack_range h
    exact ⟨_, hx, exec_onlyIn (c := .writeTrack) hx, by simp, by simpa using outside, by simpa using within,
      answered_of rfl rfl⟩
  · have hx := writeDtrim_one h
    exact ⟨_, hx, exec_onlyIn (c := .writeDtrim) hx, by simp, answered_of rfl rfl⟩
  · have hx := writeStrim_one h hs
    exact ⟨_, hx, exec_onlyIn (c := .writeStrim) hx, by simp [State.withStrim, putStrim],
      by simp [State.withStrim, putStrim, State.entry], answered_of rfl rfl⟩
  · have hx := writeTrack_one h
    exact ⟨_, hx, exec_onlyIn (c := .writeTrack) hx, by simp, answered_of rfl rfl⟩
  · have hi : i < 16 := h.within
    have hx := writeBus_one h hs
    have hb : ∀ m r, ((s.popWork.setBus i (c.busOver (s.bus i))).answer c r).bus m =
        if i = m then c.busOver (s.bus i) else s.bus m := fun m r => by
      rw [State.bus, State.answer_buses]
      exact State.setBus_bus hi
    exact ⟨_, hx, exec_onlyIn (c := .writeBus) hx, by rw [hb, if_pos rfl]; rfl, fun m hm => by rw [hb, if_neg (Ne.symm hm)],
      answered_of rfl rfl⟩

end Sys2Proof.Machine
end

section
/-! WRITE of slot and drop entries: which bytes spell an entry, and what becomes of the entries of either bank (R66 to R68, R97,
R187). -/

namespace Sys2Proof.Machine

variable {s : State} {c : Cell} {bank : Bank} {first count i : Nat}

/-! ### Bytes that spell a slot entry (R66, R187) -/

@[simp] theorem finOf_val {k : Nat} (n : Fin k) : finOf k n.val = some n := dif_pos n.isLt

theorem finOf_lt {k n : Nat} (h : n < k) : finOf k n = some ⟨n, h⟩ := dif_pos h

theorem finOf_ge {k n : Nat} (h : ¬ n < k) : finOf k n = none := dif_neg h

theorem byte_fin {k : Nat} (n : Fin k) (h : k ≤ 256) : (byte n.val).toNat = n.val := byte_toNat (by omega)

theorem byte_of_toNat (b : Byte) : byte b.toNat = b := BitVec.ofNat_toNat 8 b

/-- The inserter bytes: a node, or NONE. -/
@[reducible] def insertersByte (n : Nat) : Prop := n < 4 ∨ n = 255

/-- The selectors of a slot entry (R66). -/
@[reducible] def slotSelector (kind number : Nat) : Prop :=
  (kind = 0 ∧ number < 64) ∨ (kind = 1 ∧ number < 16) ∨ kind = 2 ∨ kind = 3

theorem parseInserter_some {n : Nat} (h : insertersByte n) : ∃ x, parseInserter n = some x ∧ nodeByte x = byte n := by
  rcases h with h | rfl
  · refine ⟨some ⟨n, h⟩, ?_, rfl⟩
    rw [parseInserter, if_neg (by omega), finOf_lt h]
    rfl
  · exact ⟨none, rfl, rfl⟩

theorem parseInserter_none {n : Nat} (h : ¬ insertersByte n) : parseInserter n = none := by
  rw [parseInserter, if_neg (by omega), finOf_ge (by omega)]
  rfl

theorem parseSlotSource_some {kind number : Nat} (h : slotSelector kind number) : ∃ x, parseSlotSource kind number = some x
    ∧ ∀ n, (SlotEntry.mk n x).record = [nodeByte n, byte kind, if kind < 2 then byte number else 0] := by
  rcases h with ⟨rfl, h⟩ | ⟨rfl, h⟩ | rfl | rfl
  · exact ⟨.localIn ⟨number, h⟩, congrArg (Option.map SlotSource.localIn) (finOf_lt h), fun _ => rfl⟩
  · exact ⟨.bus ⟨number, h⟩, congrArg (Option.map SlotSource.bus) (finOf_lt h), fun _ => rfl⟩
  · exact ⟨.pattern, rfl, fun _ => rfl⟩
  · exact ⟨.silent, rfl, fun _ => rfl⟩

theorem parseSlotSource_none {kind number : Nat} (h : ¬ slotSelector kind number) : parseSlotSource kind number = none := by
  unfold parseSlotSource
  split
  · rw [finOf_ge (by omega)]; rfl
  · rw [finOf_ge (by omega)]; rfl
  · omega
  · omega
  · rfl

/-- The bytes of a slot entry that are taken (R68). -/
@[reducible] def slotBytes (b : List Byte) : Prop :=
  insertersByte (byteAt b 0).toNat ∧ slotSelector (byteAt b 1).toNat (byteAt b 2).toNat

theorem parseSlot_taken {b : List Byte} (h : slotBytes b) : ∃ e, parseSlot b = .taken e
    ∧ e.record = [byteAt b 0, byteAt b 1, if (byteAt b 1).toNat < 2 then byteAt b 2 else 0] := by
  obtain ⟨n, hn, hb⟩ := parseInserter_some h.1
  obtain ⟨x, hx, hr⟩ := parseSlotSource_some h.2
  refine ⟨⟨n, x⟩, by simp only [parseSlot, hn, hx]; rfl, ?_⟩
  rw [hr, hb, byte_of_toNat, byte_of_toNat, byte_of_toNat]

theorem parseSlot_refused {b : List Byte} (h : ¬ slotBytes b) : parseSlot b = .refused .badIndex := by
  by_cases k : insertersByte (byteAt b 0).toNat
  · obtain ⟨n, hn, -⟩ := parseInserter_some k
    simp only [parseSlot, hn, parseSlotSource_none fun hs => h ⟨k, hs⟩]
    rfl
  · simp only [parseSlot, parseInserter_none k]
    rfl

/-- What an entry's own bytes spell is the entry. -/
theorem parseSlot_record (e : SlotEntry) : parseSlot e.record = .taken e := by
  obtain ⟨n, x⟩ := e
  have hn : parseInserter (nodeByte n).toNat = some n := by
    cases n with
    | none => rfl
    | some n =>
      have e : (nodeByte (some n)).toNat = n.val := byte_fin n (by decide)
      rw [e, parseInserter, if_neg (by omega), finOf_val]
      rfl
  have hx : parseSlotSource (byteAt (SlotEntry.mk n x).record 1).toNat (byteAt (SlotEntry.mk n x).record 2).toNat = some x := by
    cases x with
    | localIn k =>
      have e : parseSlotSource 0 (byte k.val).toNat = (finOf 64 k.val).map .localIn := by rw [byte_fin k (by decide)]; rfl
      exact e.trans (by rw [finOf_val]; rfl)
    | bus k =>
      have e : parseSlotSource 1 (byte k.val).toNat = (finOf 16 k.val).map .bus := by rw [byte_fin k (by decide)]; rfl
      exact e.trans (by rw [finOf_val]; rfl)
    | pattern => rfl
    | silent => rfl
  have h0 : byteAt (SlotEntry.mk n x).record 0 = nodeByte n := rfl
  simp only [parseSlot, h0, hn, hx]
  rfl

/-! ### Bytes that spell a drop entry (R67, R187) -/

/-- The selectors of a drop entry (R67). -/
@[reducible] def dropSelector (kind number : Nat) : Prop :=
  (kind = 0 ∧ number < 128) ∨ (kind = 1 ∧ number < 16) ∨ (kind = 2 ∧ number < 64) ∨ kind = 3

theorem parseDropSource_some {kind number : Nat} (h : dropSelector kind number) : ∃ d, parseDropSource kind number = some d
    ∧ d.record = [byte kind, if kind = 3 then 0 else byte number] ∧ ((∃ k, d = .bus k) ↔ kind = 1) := by
  rcases h with ⟨rfl, h⟩ | ⟨rfl, h⟩ | ⟨rfl, h⟩ | rfl
  · exact ⟨.ring ⟨number, h⟩, congrArg (Option.map DropSource.ring) (finOf_lt h), rfl, by simp⟩
  · exact ⟨.bus ⟨number, h⟩, congrArg (Option.map DropSource.bus) (finOf_lt h), rfl, by simp⟩
  · exact ⟨.localIn ⟨number, h⟩, congrArg (Option.map DropSource.localIn) (finOf_lt h), rfl, by simp⟩
  · exact ⟨.silent, rfl, rfl, by simp⟩

theorem parseDropSource_none {kind number : Nat} (h : ¬ dropSelector kind number) : parseDropSource kind number = none := by
  unfold parseDropSource
  split
  · rw [finOf_ge (by omega)]; rfl
  · rw [finOf_ge (by omega)]; rfl
  · rw [finOf_ge (by omega)]; rfl
  · omega
  · rfl

/-- The selector in a drop entry's bytes is one of R67. -/
@[reducible] def dropBytes (b : List Byte) : Prop := dropSelector (byteAt b 0).toNat (byteAt b 1).toNat

/-- A drop entry is taken but where it is from a bus at a DESK node (R68). -/
theorem parseDrop_of {desk : Bool} {d : DropSource} {b : List Byte}
    (h : parseDropSource (byteAt b 0).toNat (byteAt b 1).toNat = some d) (hd : desk = true → ∀ k, d ≠ .bus k) :
    parseDrop desk b = .taken d := by
  rw [parseDrop, h]
  cases d
  case bus k =>
    cases desk
    · rfl
    · exact absurd rfl (hd rfl k)
  all_goals rfl

theorem parseDrop_ofBus {k : Fin 16} {b : List Byte}
    (h : parseDropSource (byteAt b 0).toNat (byteAt b 1).toNat = some (.bus k)) : parseDrop true b = .refused .role := by
  rw [parseDrop, h]
  rfl

theorem parseDrop_taken {desk : Bool} {b : List Byte} (h : dropBytes b) (hd : ¬ ((byteAt b 0).toNat = 1 ∧ desk = true)) :
    ∃ d, parseDrop desk b = .taken d ∧ d.record = [byteAt b 0, if (byteAt b 0).toNat = 3 then 0 else byteAt b 1] := by
  obtain ⟨d, hp, hr, hbus⟩ := parseDropSource_some h
  rw [byte_of_toNat, byte_of_toNat] at hr
  exact ⟨d, parseDrop_of hp fun hdesk k hk => hd ⟨hbus.mp ⟨k, hk⟩, hdesk⟩, hr⟩

theorem parseDrop_role {b : List Byte} (h : (byteAt b 0).toNat = 1) (hn : (byteAt b 1).toNat < 16) :
    parseDrop true b = .refused .role := by
  obtain ⟨d, hp, -, hbus⟩ := parseDropSource_some (.inr (.inl ⟨h, hn⟩))
  obtain ⟨k, rfl⟩ := hbus.mpr h
  exact parseDrop_ofBus hp

theorem parseDrop_refused {desk : Bool} {b : List Byte} (h : ¬ dropBytes b) : parseDrop desk b = .refused .badIndex := by
  rw [parseDrop, parseDropSource_none h]

/-- What an entry's own bytes spell is the entry. -/
theorem parseDropSource_record (d : DropSource) :
    parseDropSource (byteAt d.record 0).toNat (byteAt d.record 1).toNat = some d := by
  cases d with
  | ring k =>
    have e : parseDropSource 0 (byte k.val).toNat = (finOf 128 k.val).map .ring := by rw [byte_fin k (by decide)]; rfl
    exact e.trans (by rw [finOf_val]; rfl)
  | bus k =>
    have e : parseDropSource 1 (byte k.val).toNat = (finOf 16 k.val).map .bus := by rw [byte_fin k (by decide)]; rfl
    exact e.trans (by rw [finOf_val]; rfl)
  | localIn k =>
    have e : parseDropSource 2 (byte k.val).toNat = (finOf 64 k.val).map .localIn := by rw [byte_fin k (by decide)]; rfl
    exact e.trans (by rw [finOf_val]; rfl)
  | silent => rfl

theorem parseDrop_record {desk : Bool} {d : DropSource} (h : desk = true → ∀ k, d ≠ .bus k) :
    parseDrop desk d.record = .taken d := parseDrop_of (parseDropSource_record d) h

/-! ### The two banks' tables (R68) -/

theorem State.setPlan_setSlots_self (bank : Bank) :
    s.popWork.setPlan (s.plan.setSlots bank (s.plan.slots bank)) = s.popWork := by cases bank <;> rfl

theorem State.setPlan_setDrops_self (bank : Bank) :
    s.popWork.setPlan (s.plan.setDrops bank (s.plan.drops bank)) = s.popWork := by cases bank <;> rfl

/-- The slot table of a bank. -/
def Bank.slotTable (bank : Bank) : Table := if bank = .a then .slotA else .slotB

/-- The drop table of a bank. -/
def Bank.dropTable (bank : Bank) : Table := if bank = .a then .dropA else .dropB

/-- What a slot entry of a bank is found to be: every entry of the active bank is refused. -/
def State.slotParsed (s : State) (bank : Bank) (b : List Byte) : Parsed SlotEntry :=
  if bank = s.plan.active then .refused .active else parseSlot b

/-- What a drop entry of a bank is found to be. -/
def State.dropParsed (s : State) (bank : Bank) (b : List Byte) : Parsed DropSource :=
  if bank = s.plan.active then .refused .active else parseDrop s.isDesk b

/-- The writer of slot entries puts the entry its bytes are found to be into its bank. -/
theorem writeSlot_eq (b : List Byte) (x : Tab SlotEntry 128) :
    writeSlot bank.slotTable i b (s.popWork.setPlan (s.plan.setSlots bank x)) =
      (s.popWork.setPlan (s.plan.setSlots bank x)).accept (s.slotParsed bank b) fun e =>
        s.popWork.setPlan (s.plan.setSlots bank (x.put i e)) := by
  have ht : bank.slotTable.bank = bank := by cases bank <;> rfl
  have hp : ∀ e, (s.popWork.setPlan (s.plan.setSlots bank x)).setPlan ((s.plan.setSlots bank x).setSlots bank
      (((s.plan.setSlots bank x).slots bank).put i e)) = s.popWork.setPlan (s.plan.setSlots bank (x.put i e)) := by
    intro e
    cases bank <;> rfl
  simp only [writeSlot, ht, State.slotParsed, State.setPlan_plan, Plan.setSlots_active, hp]
  split <;> rfl

/-- The writer of drop entries does the same for the drop tables. -/
theorem writeDrop_eq (b : List Byte) (x : Tab DropSource 64) :
    writeDrop bank.dropTable i b (s.popWork.setPlan (s.plan.setDrops bank x)) =
      (s.popWork.setPlan (s.plan.setDrops bank x)).accept (s.dropParsed bank b) fun e =>
        s.popWork.setPlan (s.plan.setDrops bank (x.put i e)) := by
  have ht : bank.dropTable.bank = bank := by cases bank <;> rfl
  have hp : ∀ e, (s.popWork.setPlan (s.plan.setDrops bank x)).setPlan ((s.plan.setDrops bank x).setDrops bank
      (((s.plan.setDrops bank x).drops bank).put i e)) = s.popWork.setPlan (s.plan.setDrops bank (x.put i e)) := by
    intro e
    cases bank <;> rfl
  have hd : (s.popWork.setPlan (s.plan.setDrops bank x)).isDesk = s.isDesk := rfl
  simp only [writeDrop, ht, State.dropParsed, State.setPlan_plan, Plan.setDrops_active, hp, hd]
  split <;> rfl

/-! ### Several entries (R68, R97) -/

/-- What becomes of a slot entry of a bank by its three bytes: a taken one is the entry they spell, any other keeps its value. -/
theorem State.slotParsed_eq {b : List Byte} {inserter kind number : Nat} (hi : (byteAt b 0).toNat = inserter)
    (hk : (byteAt b 1).toNat = kind) (hn : (byteAt b 2).toNat = number) :
    let fate : Taken := if bank = s.plan.active then .refused .active
      else if insertersByte inserter ∧ slotSelector kind number then .taken
      else .refused .badIndex
    (s.slotParsed bank b).fate = fate ∧ (fate ≠ .taken → ∀ old, (s.slotParsed bank b).into (fun a => a) old = old)
      ∧ (fate = .taken → ∀ old, ((s.slotParsed bank b).into (fun a => a) old).record
          = [byte inserter, byte kind, if kind < 2 then byte number else 0]) := by
  subst hi hk hn
  simp only [State.slotParsed, byte_of_toNat]
  by_cases ha : bank = s.plan.active
  · simp only [if_pos ha]
    exact ⟨rfl, fun _ _ => rfl, nofun⟩
  · simp only [if_neg ha]
    by_cases h : slotBytes b
    · obtain ⟨e, he, hr⟩ := parseSlot_taken h
      rw [he, if_pos h]
      exact ⟨rfl, fun k => absurd rfl k, fun _ _ => hr⟩
    · rw [parseSlot_refused h, if_neg h]
      exact ⟨rfl, fun _ _ => rfl, nofun⟩

/-- What becomes of a drop entry of a bank by its two bytes. -/
theorem State.dropParsed_eq {b : List Byte} {kind number : Nat} (hk : (byteAt b 0).toNat = kind)
    (hn : (byteAt b 1).toNat = number) :
    let fate : Taken := if bank = s.plan.active then .refused .active
      else if kind = 1 ∧ number < 16 ∧ s.isDesk = true then .refused .role
      else if dropSelector kind number then .taken
      else .refused .badIndex
    (s.dropParsed bank b).fate = fate ∧ (fate ≠ .taken → ∀ old, (s.dropParsed bank b).into (fun a => a) old = old)
      ∧ (fate = .taken → ∀ old, ((s.dropParsed bank b).into (fun a => a) old).record
          = [byte kind, if kind = 3 then 0 else byte number]) := by
  subst hk hn
  simp only [State.dropParsed, byte_of_toNat]
  by_cases ha : bank = s.plan.active
  · simp only [if_pos ha]
    exact ⟨rfl, fun _ _ => rfl, nofun⟩
  · simp only [if_neg ha]
    by_cases hd : (byteAt b 0).toNat = 1 ∧ (byteAt b 1).toNat < 16 ∧ s.isDesk = true
    · rw [if_pos hd, hd.2.2, parseDrop_role hd.1 hd.2.1]
      exact ⟨rfl, fun _ _ => rfl, nofun⟩
    · rw [if_neg hd]
      by_cases h : dropBytes b
      · obtain ⟨d, he, hr⟩ := parseDrop_taken h fun hk => hd ⟨hk.1, by omega, hk.2⟩
        rw [he, if_pos h]
        exact ⟨rfl, fun k => absurd rfl k, fun _ _ => hr⟩
      · rw [parseDrop_refused h, if_neg h]
        exact ⟨rfl, fun _ _ => rfl, nofun⟩

/-- A WRITE of slot entries. -/
theorem writeSlotEntry_range (h : WritesReady s c bank.slotTable first count) :
    ∃ y : Tab SlotEntry 128, exec .writeSlotEntry s = .next ((s.popWork.setPlan (s.plan.setSlots bank y)).answer c
        (writeReply bank.slotTable
          ((List.range count).map fun k => (first + k, (s.slotParsed bank (c.entryAt bank.slotTable k)).fate))))
      ∧ (∀ j, j < first ∨ first + count ≤ j → y.get j = (s.plan.slots bank).get j)
      ∧ ∀ k, k < count → y.get (first + k) =
        (s.slotParsed bank (c.entryAt bank.slotTable k)).into (fun a => a) ((s.plan.slots bank).get (first + k)) := by
  have hfit : first + count ≤ 128 := by
    have e : bank.slotTable.entries = 128 := by cases bank <;> rfl
    exact e ▸ h.within
  have run := State.runWrite_putAll (q := [.slotA, .slotB]) (w := writeSlot)
    (S := fun y => s.popWork.setPlan (s.plan.setSlots bank y)) (put := fun i e y => y.put i e)
    (f := fun k => s.slotParsed bank (c.entryAt bank.slotTable k)) (x := s.plan.slots bank) h (by cases bank <;> decide)
    (State.tableRefusal_none (by cases bank <;> rfl) (.inl (by cases bank <;> rfl))) (State.setPlan_setSlots_self bank)
    fun k y => writeSlot_eq _ y
  exact ⟨_, congrArg _ run, putAll_tab hfit _⟩

/-- A WRITE of drop entries. -/
theorem writeDropEntry_range (h : WritesReady s c bank.dropTable first count) :
    ∃ y : Tab DropSource 64, exec .writeDropEntry s = .next ((s.popWork.setPlan (s.plan.setDrops bank y)).answer c
        (writeReply bank.dropTable
          ((List.range count).map fun k => (first + k, (s.dropParsed bank (c.entryAt bank.dropTable k)).fate))))
      ∧ (∀ j, j < first ∨ first + count ≤ j → y.get j = (s.plan.drops bank).get j)
      ∧ ∀ k, k < count → y.get (first + k) =
        (s.dropParsed bank (c.entryAt bank.dropTable k)).into (fun a => a) ((s.plan.drops bank).get (first + k)) := by
  have hfit : first + count ≤ 64 := by
    have e : bank.dropTable.entries = 64 := by cases bank <;> rfl
    exact e ▸ h.within
  have run := State.runWrite_putAll (q := [.dropA, .dropB]) (w := writeDrop)
    (S := fun y => s.popWork.setPlan (s.plan.setDrops bank y)) (put := fun i e y => y.put i e)
    (f := fun k => s.dropParsed bank (c.entryAt bank.dropTable k)) (x := s.plan.drops bank) h (by cases bank <;> decide)
    (State.tableRefusal_none (by cases bank <;> rfl) (.inl (by cases bank <;> rfl))) (State.setPlan_setDrops_self bank)
    fun k y => writeDrop_eq _ y
  exact ⟨_, congrArg _ run, putAll_tab hfit _⟩

/-! ### One entry (R68) -/

/-- A WRITE of one slot entry. -/
theorem writeSlotEntry_one (h : WriteReady s c bank.slotTable i) :
    let p := s.slotParsed bank (c.entryWritten bank.slotTable)
    exec .writeSlotEntry s = .next ((p.into (fun e => s.popWork.setPlan (s.plan.setSlots bank ((s.plan.slots bank).put i e)))
      s.popWork).answer c (writeReply bank.slotTable [(i, p.fate)])) := by
  have hw := writeSlot_eq (s := s) (bank := bank) (i := i) (c.entryWritten bank.slotTable) (s.plan.slots bank)
  rw [State.setPlan_setSlots_self, State.accept_eq] at hw
  exact congrArg _ (State.runWrite_one h (by cases bank <;> decide)
    (State.tableRefusal_none (by cases bank <;> rfl) (.inl (by cases bank <;> rfl))) hw)

/-- A WRITE of one drop entry. -/
theorem writeDropEntry_one (h : WriteReady s c bank.dropTable i) :
    let p := s.dropParsed bank (c.entryWritten bank.dropTable)
    exec .writeDropEntry s = .next ((p.into (fun e => s.popWork.setPlan (s.plan.setDrops bank ((s.plan.drops bank).put i e)))
      s.popWork).answer c (writeReply bank.dropTable [(i, p.fate)])) := by
  have hw := writeDrop_eq (s := s) (bank := bank) (i := i) (c.entryWritten bank.dropTable) (s.plan.drops bank)
  rw [State.setPlan_setDrops_self, State.accept_eq] at hw
  exact congrArg _ (State.runWrite_one h (by cases bank <;> decide)
    (State.tableRefusal_none (by cases bank <;> rfl) (.inl (by cases bank <;> rfl))) hw)

/-- Settles O32, from the WRITEs of several entries and of one. -/
theorem slotAndDropWrites : Obligations.SlotAndDropWrites := by
  refine ⟨fun s c bank first count h => ?_, fun s c bank first count h => ?_,
    fun s c bank i => ⟨fun e h he => ?_, fun e h he => ?_⟩⟩
  · obtain ⟨y, hx, outside, within⟩ := writeDropEntry_range (bank := bank) h
    have hplan : ∀ r, ((s.popWork.setPlan (s.plan.setDrops bank y)).answer c r).plan.drops bank = y := fun r => by simp
    have hs : bank.dropTable.size = 2 := by cases bank <;> rfl
    have bytes : ∀ k j, j < 2 → (byteAt (c.entryAt bank.dropTable k) j).toNat = c.arg (4 + 2 * k + j) := fun k j hj => by
      rw [Cell.byteAt_entryAt (hs ▸ hj), hs, Nat.mul_comm k, Cell.arg]
    have parsed := fun k => s.dropParsed_eq (bank := bank) (bytes k 0 (by decide))
      ((bytes k 1 (by decide)).trans (congrArg c.arg (by omega : _ = 5 + 2 * k)))
    refine ⟨_, hx, exec_onlyIn (c := .writeDropEntry) hx, by rw [hplan]; simp, fun j hj => by rw [hplan, outside j hj],
      fun k hk hf => ?_, fun k hk hf => ?_, ?_⟩
    · obtain ⟨-, kept, -⟩ := parsed k
      rw [hplan, within k hk, kept hf]
    · obtain ⟨-, -, spelled⟩ := parsed k
      rw [hplan, within k hk, spelled hf]
      rfl
    · rw [show (fun k => (first + k, (s.dropParsed bank (c.entryAt bank.dropTable k)).fate)) = _ from
        funext fun k => congrArg (Prod.mk (first + k)) (parsed k).1]
      exact answered_of rfl rfl
  · obtain ⟨y, hx, outside, within⟩ := writeSlotEntry_range (bank := bank) h
    have hplan : ∀ r, ((s.popWork.setPlan (s.plan.setSlots bank y)).answer c r).plan.slots bank = y := fun r => by simp
    have hs : bank.slotTable.size = 3 := by cases bank <;> rfl
    have bytes : ∀ k j, j < 3 → (byteAt (c.entryAt bank.slotTable k) j).toNat = c.arg (4 + 3 * k + j) := fun k j hj => by
      rw [Cell.byteAt_entryAt (hs ▸ hj), hs, Nat.mul_comm k, Cell.arg]
    have parsed := fun k => s.slotParsed_eq (bank := bank) (bytes k 0 (by decide))
      ((bytes k 1 (by decide)).trans (congrArg c.arg (by omega : _ = 5 + 3 * k)))
      ((bytes k 2 (by decide)).trans (congrArg c.arg (by omega : _ = 6 + 3 * k)))
    refine ⟨_, hx, exec_onlyIn (c := .writeSlotEntry) hx, by rw [hplan]; simp, fun j hj => by rw [hplan, outside j hj],
      fun k hk hf => ?_, fun k hk hf => ?_, ?_⟩
    · obtain ⟨-, kept, -⟩ := parsed k
      rw [hplan, within k hk, kept hf]
    · obtain ⟨-, -, spelled⟩ := parsed k
      rw [hplan, within k hk, spelled hf]
      rfl
    · rw [show (fun k => (first + k, (s.slotParsed bank (c.entryAt bank.slotTable k)).fate)) = _ from
        funext fun k => congrArg (Prod.mk (first + k)) (parsed k).1]
      exact answered_of rfl rfl
  · have hx := writeSlotEntry_one (bank := bank) h
    have hb : c.entryWritten bank.slotTable = e.record := by cases bank <;> exact he
    have hi : bank.slotTable.indexBytes i = [byte i] := by cases bank <;> rfl
    simp only [hb, writeReply_one, State.slotParsed, parseSlot_record, hi] at hx
    refine ⟨_, hx, fun ha => ?_, fun ha => ?_⟩
    · simp only [if_neg ha]
      exact ⟨by simp [Parsed.into], by simp [Parsed.into], answered_of rfl rfl⟩
    · simp only [if_pos ha]
      exact answered_popWork
  · have hx := writeDropEntry_one (bank := bank) h
    have hb : c.entryWritten bank.dropTable = e.record := by cases bank <;> exact he
    have hi : bank.dropTable.indexBytes i = [byte i] := by cases bank <;> rfl
    simp only [hb, writeReply_one, State.dropParsed, hi] at hx
    refine ⟨_, hx, fun ha hd => ?_, fun ha hd hbus => ?_, fun ha => ?_⟩
    · have hdesk : s.isDesk = true → ∀ k, e ≠ .bus k := fun hdesk => hd.resolve_left fun hs => by
        simp_all [State.isDesk, State.isStage]
      simp only [if_neg ha, parseDrop_record hdesk]
      exact ⟨by simp [Parsed.into], by simp [Parsed.into], answered_of rfl rfl⟩
    · obtain ⟨k, rfl⟩ := hbus
      simp only [if_neg ha, hd, parseDrop_ofBus (parseDropSource_record (.bus k))]
      exact answered_popWork
    · simp only [if_pos ha]
      exact answered_popWork

end Sys2Proof.Machine
end

section
/-! A stored image read back: its header, its chunks and the slot plan they hold (R69, R87, R178, R180, R187, R188). -/

namespace Sys2Proof.Machine

variable {s u : State} {α : Type} {area data rest : List Byte}

/-! ### The header (R178, R188) -/

/-- As many bytes of a list as it begins with. -/
theorem padded_append (l rest : List Byte) : padded l.length (l ++ rest) = l := by
  rw [padded, List.append_assoc, List.take_left]

/-- An image as a STORE writes it passes the tests, and its chunk area is the one stored. -/
theorem checkImage_imageBytes (h : area.length ≤ 4085) : checkImage (some (imageBytes area)) = .ok area := by
  have magic : padded 4 (imageBytes area) = [0x4F#8, 0x4C#8, 0x54#8, 0x49#8] :=
    padded_append [0x4F#8, 0x4C#8, 0x54#8, 0x49#8] (1#8 :: word16 area.length ++ crc32Bytes area ++ area)
  have version : byteAt (imageBytes area) 4 = 1#8 := rfl
  have length : wordAt (imageBytes area) 5 = area.length := word16_read (by omega)
  have whole : imageArea (imageBytes area) = area := by
    have e : (imageBytes area).drop 11 = area ++ [] := (List.append_nil area).symm
    rw [imageArea, length, e, padded_append]
  have crc : padded 4 ((imageBytes area).drop 7) = crc32Bytes area := padded_append (crc32Bytes area) area
  simp only [checkImage, magic, version, length, whole, crc, ne_eq, not_true, if_false]
  rw [if_neg (by omega)]

/-! ### Chunks (R178, R188) -/

/-- The walk takes a chunk as it was stored, and goes on behind it. -/
theorem walk_chunkBytes (name : ChunkName) (h : data.length < 65536) (fuel : Nat) (rest : List Byte) :
    (walk (fuel + 1) (chunkBytes name data ++ rest)).1 = ⟨name.bytes, data⟩ :: (walk fuel rest).1 := by
  obtain ⟨a, b, c, d, hn⟩ : ∃ a b c d, name.bytes = [a, b, c, d] := by cases name <;> exact ⟨_, _, _, _, rfl⟩
  have e : chunkBytes name data ++ rest = a :: b :: c :: d :: byte data.length :: byte (data.length / 256) :: (data ++ rest) := by
    simp [chunkBytes, hn, word16]
  have hw : wordAt (a :: b :: c :: d :: byte data.length :: byte (data.length / 256) :: (data ++ rest)) 4 = data.length :=
    word16_read h
  rw [e, walk, hw, if_neg (by simp), if_neg (by simp; omega), Nat.add_comm 6, hn]
  simp

/-- The chunks of a stored area begin with the node's options, slot banks, drop banks and drop trims. -/
theorem chunksOf_storeArea {optn : List Byte} (h : (s.storeArea optn).length < 65536) : ∃ l, chunksOf (s.storeArea optn) =
    ⟨ChunkName.optn.bytes, optn⟩ :: ⟨ChunkName.slta.bytes, s.plan.slotA.toList.flatMap SlotEntry.record⟩
      :: ⟨ChunkName.sltb.bytes, s.plan.slotB.toList.flatMap SlotEntry.record⟩
      :: ⟨ChunkName.drpa.bytes, s.plan.dropA.toList.flatMap DropSource.record⟩
      :: ⟨ChunkName.drpb.bytes, s.plan.dropB.toList.flatMap DropSource.record⟩
      :: ⟨ChunkName.dtrm.bytes, s.plan.dtrim.toList.map signedByte⟩ :: l := by
  have hl := h
  simp only [State.storeArea, chunkBytes, List.length_append] at hl
  obtain ⟨fuel, hf⟩ : ∃ k, (s.storeArea optn).length = k + 6 := by
    refine Nat.exists_eq_add_of_le' ?_
    simp [State.storeArea, chunkBytes, word16]
    omega
  rw [chunksOf, hf]
  simp only [State.storeArea, List.append_assoc]
  rw [walk_chunkBytes _ (by omega), walk_chunkBytes _ (by omega), walk_chunkBytes _ (by omega), walk_chunkBytes _ (by omega),
    walk_chunkBytes _ (by omega), walk_chunkBytes _ (by omega)]
  exact ⟨_, rfl⟩

/-! ### A table from its chunk (R187, R188) -/

/-- Where every entry has the same size, entry i stands i sizes behind the first. -/
theorem take_drop_flatMap {enc : α → List Byte} {size : Nat} (he : ∀ a, (enc a).length = size) (l : List α) {i : Nat}
    (hi : i < l.length) : ((l.flatMap enc).drop (i * size)).take size = enc l[i] := by
  induction l generalizing i with
  | nil => exact absurd hi (Nat.not_lt_zero i)
  | cons a l ih =>
    rw [List.flatMap_cons]
    cases i with
    | zero => rw [Nat.zero_mul, List.drop_zero, ← he a, List.take_left]; rfl
    | succ i =>
      rw [Nat.succ_mul, Nat.add_comm, ← List.drop_drop, ← he a, List.drop_left, he a]
      exact ih (Nat.lt_of_succ_lt_succ hi)

/-- A table whose entries are stored one behind the other, each in bytes that spell it, is loaded as it was. -/
theorem loadTable_flatMap [Inhabited α] {n size : Nat} {reset : Nat → α} {parse : Nat → List Byte → Parsed α}
    {enc : α → List Byte} (he : ∀ a, (enc a).length = size) (t : Tab α n)
    (hp : ∀ i, i < n → parse i (enc (t.get i)) = .taken (t.get i)) :
    loadTable n size reset parse (some (t.toList.flatMap enc)) = t := by
  have length : (t.toList.flatMap enc).length = n * size := by
    rw [List.length_flatMap, List.map_congr_left fun a _ => he a, List.map_const', List.sum_replicate, t.length_eq, smul_eq_mul]
  refine Tab.ext_get fun i hi => ?_
  have stored : i < t.toList.length := by rw [t.length_eq]; exact hi
  have entry : t.toList[i] = t.get i := by simp [Tab.get, stored]
  have fits : (i + 1) * size ≤ n * size := Nat.mul_le_mul_right _ hi
  rw [loadTable, Tab.get_ofFn _ hi, Option.getD_some, length, if_pos fits, take_drop_flatMap he _ stored, entry, hp i hi]
  rfl

theorem SlotEntry.record_length (e : SlotEntry) : e.record.length = 3 := by
  obtain ⟨n, x⟩ := e
  cases x <;> rfl

theorem DropSource.record_length (d : DropSource) : d.record.length = 2 := by cases d <;> rfl

/-- A trim from −128 to +63 is read back from its byte (R87, R183). -/
theorem parseTrim_signedByte {x : Int} (hl : -128 ≤ x) (hh : x ≤ 63) : parseTrim 63 [signedByte x] = .taken x := by
  have e : (byteAt [signedByte x] 0).toInt = x := by
    show (BitVec.ofInt 8 x).toInt = x
    rw [BitVec.toInt_ofInt]
    exact Int.bmod_eq_of_le (by omega) (by omega)
  have k : clampInt x (-128) 63 = x := by unfold clampInt; omega
  simp only [parseTrim, e, k, Parsed.near, if_pos]

/-! ### The plan (R69, R87, R178) -/

/-- The plan loaded from the chunks of a stored area is the one stored, with bank A active and nothing pending. -/
theorem loadPlan_storeArea {optn : List Byte} (h : (s.storeArea optn).length < 65536)
    (ht : ∀ n, n < 64 → -128 ≤ s.plan.dtrim.get n ∧ s.plan.dtrim.get n ≤ 63)
    (hd : s.isDesk = true → ∀ bank n b, n < 64 → (s.plan.drops bank).get n ≠ .bus b) :
    loadPlan s.isDesk (chunksOf (s.storeArea optn)) =
      { active := .a, swap := none, slotA := s.plan.slotA, slotB := s.plan.slotB, dropA := s.plan.dropA
        dropB := s.plan.dropB, outgoing := none, dtrim := s.plan.dtrim } := by
  obtain ⟨l, hl⟩ := chunksOf_storeArea h
  have slta : chunk (chunksOf (s.storeArea optn)) .slta = some (s.plan.slotA.toList.flatMap SlotEntry.record) := by rw [hl]; rfl
  have sltb : chunk (chunksOf (s.storeArea optn)) .sltb = some (s.plan.slotB.toList.flatMap SlotEntry.record) := by rw [hl]; rfl
  have drpa : chunk (chunksOf (s.storeArea optn)) .drpa = some (s.plan.dropA.toList.flatMap DropSource.record) := by rw [hl]; rfl
  have drpb : chunk (chunksOf (s.storeArea optn)) .drpb = some (s.plan.dropB.toList.flatMap DropSource.record) := by rw [hl]; rfl
  have dtrm : chunk (chunksOf (s.storeArea optn)) .dtrm = some (s.plan.dtrim.toList.flatMap fun x => [signedByte x]) := by
    rw [hl, ← List.map_eq_flatMap]
    rfl
  simp only [loadPlan, slta, sltb, drpa, drpb, dtrm, Plan.mk.injEq, true_and]
  refine ⟨?_, ?_, ?_, ?_, ?_⟩
  · exact loadTable_flatMap SlotEntry.record_length _ fun i _ => parseSlot_record _
  · exact loadTable_flatMap SlotEntry.record_length _ fun i _ => parseSlot_record _
  · exact loadTable_flatMap DropSource.record_length _ fun i hi => parseDrop_record fun k b => hd k .a i b hi
  · exact loadTable_flatMap DropSource.record_length _ fun i hi => parseDrop_record fun k b => hd k .b i b hi
  · exact loadTable_flatMap (enc := fun x => [signedByte x]) (parse := fun _ => parseTrim 63) (fun _ => rfl) _ fun i hi =>
      parseTrim_signedByte (ht i hi).1 (ht i hi).2

/-- Of the tables of an image the slot and drop plans are loaded alike in both roles (R178). -/
theorem State.loadTables_plan (l : List Chunk) : (s.loadTables l).plan = loadPlan s.isDesk l := by
  unfold State.loadTables
  dsimp only
  split
  · have stage : ∀ v : State, OnlyIn [.preamp, .tracking, .buses, .talk] v (v.loadStage l) := fun v => by simp
    exact (stage _).at .plan (by decide)
  · rfl

theorem State.loadTables_image (l : List Chunk) : (s.loadTables l).image = s.image :=
  (show OnlyIn [.plan, .sets, .lines, .preamp, .tracking, .buses, .talk] s (s.loadTables l) by simp).at .image (by decide)

/-- An image that passes its tests gives the plan of its chunks, and its area is retained. -/
theorem State.takeImage_ok {memory : Option (List Byte)} (h : checkImage memory = .ok area) :
    (s.takeImage memory).plan = loadPlan s.isDesk (chunksOf area)
      ∧ (s.takeImage memory).image.retained = some area ∧ (s.takeImage memory).image.loading = false := by
  simp only [State.takeImage, h, State.raiseImage, State.raise_plan, State.raise_image, State.setPresent_plan,
    State.setPresent_image, State.loadTables_plan, State.loadTables_image]
  exact ⟨rfl, rfl, rfl⟩

/-- Settles O5: the image passes its tests, and its chunks give the plan. -/
theorem storedPlanRoundTrip : Obligations.StoredPlanRoundTrip := by
  intro s u o area memory hlen hload hrole ht hd
  have good : checkImage (some memory) = .ok area := checkImage_imageBytes hlen
  refine ⟨_, rfl, ?_⟩
  obtain ⟨hplan, hretained, hloading⟩ := State.takeImage_ok (s := u.setRaised []) good
  have hl : (u.setRaised []).image.loading = true := hload
  have hdesk : (u.setRaised []).isDesk = s.isDesk := congrArg (· == Role.desk) hrole
  have enabled : OnlyIn [.portE, .portW, .timing, .preamp, .ring, .present, .lines, .notices, .counters]
      ((u.setRaised []).takeImage (some memory)) ((u.setRaised []).takeImage (some memory)).enablePorts := by simp
  have plan := enabled.at .plan (by decide)
  have image := enabled.at .image (by decide)
  simp only [Agree] at plan image
  simp only [State.event_plan, State.event_image, State.loadComplete, if_pos hl, plan, image, hretained, hloading]
  rw [hplan, hdesk, loadPlan_storeArea (Nat.lt_of_le_of_lt hlen (by decide)) ht hd]
  exact ⟨rfl, trivial, trivial⟩

end Sys2Proof.Machine
end

section
/-! What a frame taken as ring traffic files in the slots, and what a boundary presents for a slot (R76 to R78, R82, R83). -/

namespace Sys2Proof.Machine

variable {s : State} {h i c f : Nat} {samples : Tab Sample 128}

/-! ### The filing of a frame (R76, R77) -/

/-- A slot is carried on its first lap: its inserter at h lies before the node, or at node 0 is another node (R76). -/
def State.onFirstLap (s : State) (h i : Nat) : Prop := ∃ n, s.inserterAt h i = some n
  ∧ if s.id = 0 then n ≠ 0 else before s.members.ringMap n s.id = true

/-- A slot is carried on its second lap: at another node than node 0, its inserter in the frame before is another node that does
not lie before the node (R76). -/
def State.onSecondLap (s : State) (h i : Nat) : Prop := s.id ≠ 0 ∧ ∃ n, s.inserterAt ((h + 3145727) % 3145728) i = some n
  ∧ n ≠ s.id ∧ before s.members.ringMap n s.id = false

/-- A slot is filed under capture frame c, if the storage window takes it (R76, R77). -/
def State.files (s : State) (h i c : Nat) : Prop :=
  (s.onFirstLap h i ∧ c = h ∨ ¬ s.onFirstLap h i ∧ s.onSecondLap h i ∧ c = (h + 3145727) % 3145728)
    ∧ ∀ n, s.inserterAt c i = some n → s.isUnreachable n = false

/-- A capture frame lies from f − D + 1 to f + 23 (R77). -/
def State.windowTakes (s : State) (c : Nat) : Prop :=
  (c + 3145728 - (s.count + 3145729 - s.present.delay) % 3145728) % 3145728 < 1572864
    ∧ (s.count + 23 + 3145728 - c % 3145728) % 3145728 < 1572864

theorem State.inWindow_iff : inWindow s.count s.present.delay c = true ↔ s.windowTakes c := by
  simp [inWindow, gfAtOrAfter, State.windowTakes]

theorem State.inserterGone_false : s.inserterGone c i = false ↔ ∀ n, s.inserterAt c i = some n → s.isUnreachable n = false := by
  unfold State.inserterGone
  cases s.inserterAt c i <;> simp

/-- What becomes of a slot's sample: filed under the capture frame it carries, the window taking it or not. -/
theorem State.filing_iff {b : Bool} : s.filing h i = some (c, b) ↔ s.files h i c ∧ (b = true ↔ s.windowTakes c) := by
  rw [State.filing_eq_some_iff, State.ringCapture_eq_some_iff, State.inserterGone_false, ← State.inWindow_iff,
    Bool.eq_iff_iff (a := b), ← and_assoc]
  rfl

/-- A frame is late where a slot it files lies outside the window. -/
theorem State.filesLate_iff : s.filesLate h = true ↔ ∃ i c, i < 128 ∧ s.files h i c ∧ ¬ s.windowTakes c := by
  have one : ∀ i, ((s.filing h i).any fun y => !y.2) = true ↔ ∃ c, s.filing h i = some (c, false) := by
    intro i
    rcases s.filing h i with _ | ⟨c, _ | _⟩ <;> simp
  simp only [State.filesLate, List.any_eq_true, List.mem_range, one, State.filing_iff, Bool.false_eq_true, false_iff]
  constructor
  · rintro ⟨i, hi, c, hf⟩
    exact ⟨i, c, hi, hf⟩
  · rintro ⟨i, c, hi, hf⟩
    exact ⟨i, hi, c, hf⟩

/-- The slots after the filing of a frame. -/
theorem State.fileRing_get (hi : i < 128) : (s.fileRing h samples).present.slots.get i =
    match s.filing h i with
    | some (c, true) => { s.present.slots.get i with filed := insertFiled ⟨c, samples.get i⟩ (s.present.slots.get i).filed }
    | _ => s.present.slots.get i := by
  unfold State.fileRing
  dsimp only
  split <;> exact Tab.get_mapIdx _ _ hi

theorem State.fileRing_taken (hi : i < 128) (hf : s.files h i c) (hw : s.windowTakes c) :
    (s.fileRing h samples).present.slots.get i =
      { s.present.slots.get i with filed := insertFiled ⟨c, samples.get i⟩ (s.present.slots.get i).filed } := by
  rw [State.fileRing_get hi, State.filing_iff.mpr ⟨hf, iff_of_true rfl hw⟩]

theorem State.fileRing_kept (hi : i < 128) (hf : ∀ c, s.files h i c → ¬ s.windowTakes c) :
    (s.fileRing h samples).present.slots.get i = s.present.slots.get i := by
  rw [State.fileRing_get hi]
  split
  · next c e =>
    obtain ⟨hc, hw⟩ := State.filing_iff.mp e
    exact absurd (hw.mp rfl) (hf c hc)
  · rfl

theorem State.fileRing_present : (s.fileRing h samples).present =
    { s.present with slots := (s.fileRing h samples).present.slots } := by
  unfold State.fileRing
  dsimp only
  split <;> rfl

/-- A frame with a late or early sample counts once as late, and moves no other counter. -/
theorem State.fileRing_counters : (s.fileRing h samples).counters =
    if s.filesLate h = true then (s.bump .lateFrames).counters else s.counters := by
  unfold State.fileRing State.filesLate
  dsimp only
  split <;> rfl

/-! ### The presentation of a slot (R78, R80, R82, R83) -/

/-- The concealed value is seven eighths of the last toward zero, and never exceeds it in magnitude (R82). -/
theorem decayed_toInt (x : Sample) : (decayed x).toInt = Int.tdiv (x.toInt * 7) 8
    ∧ (decayed x).toInt.natAbs ≤ x.toInt.natAbs := by
  have lo := BitVec.le_toInt x
  have hi := BitVec.toInt_lt (x := x)
  have mag : (Int.tdiv (x.toInt * 7) 8).natAbs = x.toInt.natAbs * 7 / 8 := by rw [Int.natAbs_tdiv, Int.natAbs_mul]; rfl
  have e : (decayed x).toInt = Int.tdiv (x.toInt * 7) 8 := by
    rw [decayed, BitVec.toInt_ofInt, Int.bmod_eq_of_le] <;> omega
  exact ⟨e, by omega⟩

/-- A boundary that repeats nothing presents every slot by its inserter at the capture frame. -/
theorem State.presentSlots_get (hr : s.repeats f = false) (hi : i < 128) :
    ∃ l, (s.presentSlots f).present.slots.get i =
      { (s.present.slots.get i).presented (s.inserterAt (s.captureFor f) i) (s.inserterGone (s.captureFor f) i) (s.captureFor f)
        with filed := l } := by
  simp only [State.presentSlots, hr, Bool.false_eq_true, if_false, State.setPresent_present, Tab.get_mapIdx _ _ hi]
  exact ⟨_, rfl⟩

theorem SlotPres.presented_stored {p : SlotPres} {n : NodeId} {x : Filed}
    (hx : p.filed.find? (fun y => y.capture == c) = some x) :
    p.presented (some n) false c = { p with state := .good, last := x.value } := by
  simp [SlotPres.presented, hx]

theorem SlotPres.presented_missing {p : SlotPres} {n : NodeId} (hx : ∀ x ∈ p.filed, x.capture ≠ c) :
    p.presented (some n) false c = { p with state := if p.state = .stale then .stale else .conceal, last := decayed p.last } := by
  have e : p.filed.find? (fun y => y.capture == c) = none := List.find?_eq_none.mpr fun x k => by simpa using hx x k
  simp [SlotPres.presented, e]

theorem SlotPres.presented_stale {p : SlotPres} {n : Option NodeId} {gone : Bool} (h : n = none ∨ gone = true) :
    p.presented n gone c = { p with state := .stale, last := decayed p.last } := if_pos h

end Sys2Proof.Machine
end

section
/-! The presentation of a frame (R22, R78, R131, R161): which tracking entries apply, which lost talkers are released, what the
pattern checker counts. -/

namespace Sys2Proof.Machine

variable {s t : State} {i j : Fin 8} {k r : Nat} {l : List ScheduleEntry}

/-! ### Tracking entries that apply (R131) -/

/-- The entry of the tracking table that a schedule entry names. -/
def ScheduleEntry.place (x : ScheduleEntry) : Nat := x.stage.val * 64 + x.input

/-- A schedule entry's amount added to the tracking table. -/
def State.compensateBy (s : State) (x : ScheduleEntry) : State := s.compensate x.stage x.input x.amount

theorem State.compensateBy_ne {x : ScheduleEntry} (h : x.place ≠ k) :
    (s.compensateBy x).tracking.table.get k = s.tracking.table.get k := Tab.get_put_ne _ _ h

theorem State.compensateBy_same {x : ScheduleEntry} (hk : k < 256) (h : x.place = k) :
    (s.compensateBy x).tracking.table.get k = addTrim (s.tracking.table.get k) x.amount := by
  subst h
  exact Tab.get_put_same _ _ hk

theorem compensations_strim : (l.foldl State.compensateBy s).tracking.strim = s.tracking.strim :=
  foldl_keeps (p := fun t => t.tracking.strim = s.tracking.strim) (fun _ _ h => by exact h) l rfl

theorem compensations_ne (h : ∀ x ∈ l, x.place ≠ k) :
    (l.foldl State.compensateBy s).tracking.table.get k = s.tracking.table.get k := by
  induction l generalizing s with
  | nil => rfl
  | cons x l ih =>
    obtain ⟨hx, hl⟩ := List.forall_mem_cons.mp h
    rw [List.foldl_cons, ih hl, State.compensateBy_ne hx]

theorem compensations_one {x : ScheduleEntry} (hk : k < 256) (h : l.filter (fun y => y.place == k) = [x]) :
    (l.foldl State.compensateBy s).tracking.table.get k = addTrim (s.tracking.table.get k) x.amount := by
  induction l generalizing s with
  | nil => simp at h
  | cons y l ih =>
    rw [List.foldl_cons]
    by_cases hy : y.place = k
    · simp only [List.filter_cons, hy, BEq.rfl, if_true, List.cons.injEq, List.filter_eq_nil_iff, beq_iff_eq] at h
      obtain ⟨rfl, hl⟩ := h
      rw [compensations_ne hl, State.compensateBy_same hk hy]
    · rw [List.filter_cons_of_neg (by simpa using hy)] at h
      rw [ih h, State.compensateBy_ne hy]

theorem addTrim_eq (v a : Int) : addTrim v a = max (-128) (min (v + a) 127) := by
  unfold addTrim clampInt
  omega

theorem State.applyEntries_applied (p : ScheduleEntry → Bool) : ScheduleApplied s (s.applyEntries p) p := by
  refine ⟨compensations_strim, rfl, fun k h => compensations_ne fun x hx => ?_, fun k x hk h => ?_⟩
  · obtain ⟨hm, hp⟩ := List.mem_filter.mp hx
    exact h x hm hp
  · rw [← addTrim_eq]
    refine compensations_one hk ?_
    rw [List.filter_filter, ← h]
    exact List.filter_congr fun y _ => Bool.and_comm ..

/-! ### Lost talkers (R159, R161) -/

/-- A register row after the release of source i. -/
def TalkRow.without (w : TalkRow) (i : Fin 8) (timer : Option Nat) : TalkRow :=
  if w.inService = some i then
    match w.holding with
    | some j => ⟨some j, none, timer⟩
    | none => .empty
  else if w.holding = some i then { w with holding := none }
  else w

theorem State.talkRow_beyond (h : ¬ k < 4) : s.talkRow k = .empty :=
  List.getD_eq_default _ _ (by rw [Tab.length_eq]; omega)

/-- A release writes the row of the source's class, and no other. -/
theorem State.releaseTalk_talkRow {x : TalkReason} (hr : r < 4) : (s.releaseTalk i x).talkRow r =
    if (s.talkSource i).cls = r then (s.talkRow r).without i s.freshTimer else s.talkRow r := by
  by_cases hc : (s.talkSource i).cls < 4
  · have put := fun w q => s.setRow_talkRow (b := q) (x := w) hc
    unfold State.releaseTalk TalkRow.without State.rowOf
    dsimp only
    by_cases hs : (s.talkSource i).cls = r
    · rw [if_pos hs, ← hs]
      split_ifs
      · exact (put _ _).trans (if_pos rfl)
      · exact (put _ _).trans (if_pos rfl)
      · rfl
    · rw [if_neg hs]
      split_ifs
      · exact (put _ _).trans (if_neg hs)
      · exact (put _ _).trans (if_neg hs)
      · rfl
  · have hn : (s.talkSource i).cls ≠ r := by omega
    simp [State.releaseTalk, State.rowOf, State.talkRow_beyond hc, TalkRow.empty, hn]

theorem State.releaseTalk_sources {x : TalkReason} : (s.releaseTalk i x).talk.sources = s.talk.sources := by
  unfold State.releaseTalk
  dsimp only
  split_ifs <;> rfl

theorem State.releaseTalk_counters {x : TalkReason} : (s.releaseTalk i x).counters = s.counters := by
  unfold State.releaseTalk
  dsimp only
  split_ifs <;> rfl

/-- Source i released where its audio is lost at this presentation (R161). -/
def State.releaseLost (s : State) (i : Fin 8) : State :=
  if s.audioLost (s.talkSource i).audio then s.releaseTalk i .lost else s

/-- The audio of a talk source stands as the presentation left it. -/
def State.sourceLost (s : State) (j : Fin 8) : Bool := s.audioLost (s.talkSource j).audio

theorem State.releaseStale_eq : s.releaseStale = if s.isStage then (List.finRange 8).foldl State.releaseLost s else s := rfl

theorem State.releaseLost_sources : (s.releaseLost i).talk.sources = s.talk.sources := by
  unfold State.releaseLost
  split
  · exact State.releaseTalk_sources
  · rfl

theorem State.releaseLost_sourceLost : (s.releaseLost i).sourceLost j = s.sourceLost j := by
  unfold State.releaseLost
  split
  · have hp : (s.releaseTalk i .lost).present = s.present :=
      (show OnlyIn [.talk, .lines, .notices, .counters] s (s.releaseTalk i .lost) by simp).at .present (by decide)
    unfold State.sourceLost State.audioLost State.slotStale State.talkSource
    rw [State.releaseTalk_sources, hp]
  · rfl

theorem State.releaseLost_counters : (s.releaseLost i).counters = s.counters := by
  unfold State.releaseLost
  split
  · exact State.releaseTalk_counters
  · rfl

theorem State.releaseStale_counters : s.releaseStale.counters = s.counters := by
  rw [State.releaseStale_eq]
  split
  · exact foldl_keeps (p := fun t => t.counters = s.counters) (fun _ _ h => State.releaseLost_counters.trans h) _ rfl
  · rfl

/-- A source is in a row. -/
def TalkRow.has (w : TalkRow) (j : Fin 8) : Prop := w.inService = some j ∨ w.holding = some j

/-- A row as R157 has it: a source holds only while another is in service. -/
def TalkRow.Lawful (w : TalkRow) : Prop :=
  (w.holding.isSome = true → w.inService.isSome = true) ∧ ∀ a, w.inService = some a → w.holding ≠ some a

/-- A release takes the source out of its row, and only it. -/
theorem TalkRow.without_has {w : TalkRow} {x : Option Nat} (h : w.Lawful) : (w.without i x).has j ↔ w.has j ∧ j ≠ i := by
  obtain ⟨hh, hd⟩ := h
  obtain ⟨a, b, c⟩ := w
  unfold TalkRow.without TalkRow.has
  by_cases ha : a = some i
  · subst ha
    rcases b with _ | b
    · simp [TalkRow.empty, eq_comm]
    · have : i ≠ b := by simpa [eq_comm] using hd i rfl
      grind
  · by_cases hb : b = some i <;> grind

theorem TalkRow.without_lawful {w : TalkRow} {x : Option Nat} (h : w.Lawful) : (w.without i x).Lawful := by
  obtain ⟨a, b, c⟩ := w
  unfold TalkRow.without
  split
  · split <;> simp [TalkRow.Lawful, TalkRow.empty]
  · split
    · simp [TalkRow.Lawful]
    · exact h

theorem talkLaw_iff : TalkLaw s ↔ ∀ c, c < 4 → (s.talkRow c).Lawful ∧ ∀ j, (s.talkRow c).has j → (s.talkSource j).cls = c :=
  forall₂_congr fun _ _ => and_assoc.symm

/-- A release takes the source out of the register, and only it, and the register stays lawful. -/
theorem State.releaseTalk_has {x : TalkReason} (h : TalkLaw s) (hr : r < 4) :
    ((s.releaseTalk i x).talkRow r).Lawful ∧ (((s.releaseTalk i x).talkRow r).has j ↔ (s.talkRow r).has j ∧ j ≠ i) := by
  obtain ⟨hl, hc⟩ := talkLaw_iff.mp h r hr
  rw [State.releaseTalk_talkRow hr]
  split
  · exact ⟨TalkRow.without_lawful hl, TalkRow.without_has hl⟩
  · next hn => exact ⟨hl, iff_self_and.mpr fun k e => hn (e ▸ hc j k)⟩

theorem State.releaseLost_has (h : TalkLaw s) (hr : r < 4) :
    ((s.releaseLost i).talkRow r).Lawful
    ∧ (((s.releaseLost i).talkRow r).has j ↔ (s.talkRow r).has j ∧ (j = i → s.sourceLost i = false)) := by
  unfold State.releaseLost State.sourceLost
  split
  · next hi => simpa [hi] using State.releaseTalk_has (i := i) (x := .lost) h hr
  · next hi => simpa [hi] using (talkLaw_iff.mp h r hr).1

theorem State.releaseLost_law (h : TalkLaw s) : TalkLaw (s.releaseLost i) := by
  refine talkLaw_iff.mpr fun c hc => ⟨(State.releaseLost_has (j := i) h hc).1, fun j k => ?_⟩
  rw [State.talkSource, State.releaseLost_sources]
  exact (talkLaw_iff.mp h c hc).2 j ((State.releaseLost_has h hc).2.mp k).1

/-- After the releases no source of a list whose audio is lost stands in the register, and no other has come into it. -/
theorem releasesLost_has (l : List (Fin 8)) (h : TalkLaw s) (hr : r < 4)
    (k : ((l.foldl State.releaseLost s).talkRow r).has j) : (s.talkRow r).has j ∧ (j ∈ l → s.sourceLost j = false) := by
  induction l generalizing s with
  | nil => exact ⟨k, fun m => by simp at m⟩
  | cons i l ih =>
    obtain ⟨k', hl⟩ := ih (State.releaseLost_law h) k
    obtain ⟨k, hi⟩ := (State.releaseLost_has h hr).2.mp k'
    rw [State.releaseLost_sourceLost] at hl
    refine ⟨k, fun m => ?_⟩
    rcases List.mem_cons.mp m with rfl | m
    · exact hi rfl
    · exact hl m

theorem State.releaseStale_has (hs : s.isStage = true) (h : TalkLaw s) (hr : r < 4) (k : (s.releaseStale.talkRow r).has j) :
    s.sourceLost j = false := by
  rw [State.releaseStale_eq, if_pos hs] at k
  exact (releasesLost_has _ h hr k).2 (List.mem_finRange j)

theorem releasesLost_sources (l : List (Fin 8)) : (l.foldl State.releaseLost s).talk.sources = s.talk.sources :=
  foldl_keeps (p := fun t => t.talk.sources = s.talk.sources) (fun _ _ h => State.releaseLost_sources.trans h) l rfl

theorem State.releaseStale_sources : s.releaseStale.talk.sources = s.talk.sources := by
  rw [State.releaseStale_eq]
  split
  · exact releasesLost_sources _
  · rfl

end Sys2Proof.Machine
end

section
/-! O15: the filing, the presentation, the pattern checker and the frame that presents (R22, R76 to R83, R131, R161). -/

namespace Sys2Proof.Machine

variable {s : State} {c i : Nat}

/-! ### The pattern checker (R22) -/

/-- The slots presented and the checker's comparison made: no comparison at a repeat (R22, R80). -/
def State.compared (s : State) : State :=
  if s.repeats s.count then s.presentSlots s.count else (s.presentSlots s.count).patternCompare

theorem State.presentFrame_eq : s.presentFrame = (s.compared.trackTo s.compared.present.lastCapture).releaseStale := rfl

theorem State.compared_only : OnlyIn [.present, .counters] s s.compared := by
  unfold State.compared
  split <;> simp

theorem State.compared_present : s.compared.present = (s.presentSlots s.count).present := by
  unfold State.compared
  split
  · rfl
  · have only : OnlyIn [.counters] (s.presentSlots s.count) (s.presentSlots s.count).patternCompare := by simp
    exact only.at .present (by decide)

theorem State.presentSlots_only (f : Nat) : OnlyIn [.present] s (s.presentSlots f) := by simp

theorem State.presentSlots_lastCapture {f : Nat} (h : s.repeats f = false) :
    (s.presentSlots f).present.lastCapture = s.captureFor f := by
  simp [State.presentSlots, h]

theorem State.patternCompare_counter {x : CounterId} (hm : x ≠ .patternMismatches) (hc : x ≠ .patternConcealed) :
    s.patternCompare.counter x = s.counter x := by
  unfold State.patternCompare
  split
  · rfl
  · dsimp only
    split_ifs
    · rfl
    · exact State.counter_bump_ne hm
    · exact State.counter_bump_ne hc

theorem State.patternCompare_off (h : s.checker.watch = none) : s.patternCompare = s := by
  simp [State.patternCompare, h]

/-- A watched slot that is not GOOD counts a concealed frame. -/
theorem State.patternCompare_concealed {k : Nat} (h : s.checker.watch = some k) (hg : (s.present.slots.get k).state ≠ .good) :
    s.patternCompare = s.bump .patternConcealed := by
  simp [State.patternCompare, h, hg]

/-- A watched slot that is GOOD counts a difference from the pattern of the capture frame presented. -/
theorem State.patternCompare_good {k : Nat} (h : s.checker.watch = some k) (hg : (s.present.slots.get k).state = .good) :
    s.patternCompare =
      if (s.present.slots.get k).last.toInt = (s.present.lastCapture * 5 % 16777216 : Nat) - 8388608 then s
      else s.bump .patternMismatches := by
  simp only [State.patternCompare, h, hg, if_true, ← patternValue_toInt, BitVec.toInt_inj]

/-! ### The parts of the frame that presents -/

theorem State.presentFrame_present : s.presentFrame.present = (s.presentSlots s.count).present := by
  rw [State.presentFrame_eq, ← State.compared_present]
  exact (show OnlyIn [.tracking, .talk, .lines, .notices, .counters] s.compared _ by simp).at .present (by decide)

theorem State.presentFrame_tracking : ScheduleApplied s s.presentFrame fun x => decide
    ((s.presentFrame.present.lastCapture + 3145728 - x.apply * 48 % 3145728) % 3145728 < 1572864) := by
  have before : s.compared.tracking = s.tracking := State.compared_only.at .tracking (by decide)
  have after : s.presentFrame.tracking = (s.compared.trackTo s.compared.present.lastCapture).tracking :=
    (show OnlyIn [.talk, .lines, .notices, .counters] (s.compared.trackTo s.compared.present.lastCapture) s.presentFrame by
      simp [State.presentFrame_eq]).at .tracking (by decide)
  have applied := s.compared.applyEntries_applied fun x => gfAtOrAfter s.compared.present.lastCapture (globalCount x.apply 0)
  rw [State.presentFrame_present, ← State.compared_present]
  unfold ScheduleApplied at applied ⊢
  rw [before] at applied
  rw [after]
  simpa [gfAtOrAfter, globalCount, State.trackTo] using applied

theorem State.presentFrame_counters : s.presentFrame.counters = s.compared.counters := by
  rw [State.presentFrame_eq, State.releaseStale_counters]
  exact (show OnlyIn [.tracking] s.compared (s.compared.trackTo _) by simp).at .counters (by decide)

/-- At a STAGE node no source of a STALE slot stays in the register (R161). -/
theorem State.presentFrame_talk {r : Nat} {j : Fin 8} {sl : Fin 128} (hs : s.isStage = true) (h : TalkLaw s) (hr : r < 4)
    (k : InRow s.presentFrame r j) (ha : (s.presentFrame.talkSource j).audio = .ring sl) :
    (s.presentFrame.present.slots.get sl.val).state ≠ .stale := by
  have only : OnlyIn [.present, .tracking, .counters] s (s.compared.trackTo s.compared.present.lastCapture) := by
    simpa using State.compared_only.mono (by simp)
  have law : TalkLaw (s.compared.trackTo s.compared.present.lastCapture) := by
    unfold TalkLaw InRow State.talkRow State.talkSource
    rw [only.at .talk (by decide)]
    exact h
  have stage : (s.compared.trackTo s.compared.present.lastCapture).isStage = true := by
    rw [State.isStage, only.at .straps (by decide)]
    exact hs
  have present : s.presentFrame.present = (s.compared.trackTo s.compared.present.lastCapture).present :=
    (show OnlyIn [.talk, .lines, .notices, .counters] (s.compared.trackTo s.compared.present.lastCapture) s.presentFrame by
      simp [State.presentFrame_eq]).at .present (by decide)
  have heard := State.releaseStale_has stage law hr k
  rw [State.presentFrame_eq, State.talkSource, State.releaseStale_sources] at ha
  rw [State.sourceLost, State.talkSource, ha] at heard
  rw [present]
  simpa [State.audioLost, State.slotStale] using heard

/-- What the checker counts at a frame's presentation (R22, R80). -/
theorem State.compared_counters : CountersOutside [.patternMismatches, .patternConcealed] s s.compared
    ∧ (s.checker.watch = none ∨ s.repeats s.count = true → s.compared.counters = s.counters)
    ∧ ∀ k, s.checker.watch = some k → s.repeats s.count = false →
      let q := (s.presentSlots s.count).present.slots.get k
      (q.state ≠ .good → s.compared.counter .patternMismatches = s.counter .patternMismatches
        ∧ s.compared.counter .patternConcealed = min (s.counter .patternConcealed + 1) 65535)
      ∧ (q.state = .good → s.compared.counter .patternConcealed = s.counter .patternConcealed
        ∧ s.compared.counter .patternMismatches = (if q.last.toInt = (s.captureFor s.count * 5 % 16777216 : Nat) - 8388608
            then s.counter .patternMismatches else min (s.counter .patternMismatches + 1) 65535)) := by
  have counters : (s.presentSlots s.count).counters = s.counters := (State.presentSlots_only _).at .counters (by decide)
  have checker : (s.presentSlots s.count).checker = s.checker := (State.presentSlots_only _).at .checker (by decide)
  have counter : ∀ x, (s.presentSlots s.count).counter x = s.counter x := fun x => by simp only [State.counter, counters]
  refine ⟨fun x hx => ?_, fun h => ?_, fun k hk hr => ⟨fun hg => ?_, fun hg => ?_⟩⟩
  · unfold State.compared
    split
    · exact counter x
    · exact (State.patternCompare_counter (fun e => hx (by simp [e])) fun e => hx (by simp [e])).trans (counter x)
  · unfold State.compared
    split
    · exact counters
    · next hr => rw [State.patternCompare_off (checker ▸ h.resolve_right hr), counters]
  · rw [State.compared, hr, if_neg Bool.false_ne_true, State.patternCompare_concealed (checker ▸ hk) hg, ← counter, ← counter]
    exact ⟨State.counter_bump_ne (by decide), State.counter_bump_same _⟩
  · rw [State.compared, hr, if_neg Bool.false_ne_true, State.patternCompare_good (checker ▸ hk) hg,
      State.presentSlots_lastCapture hr, ← counter, ← counter]
    split
    · exact ⟨rfl, rfl⟩
    · exact ⟨State.counter_bump_ne (by decide), State.counter_bump_same _⟩

/-- Settles O15: what a frame files by the lap each slot is carried on, what a boundary presents by each slot's inserter at
the capture frame, and the parts of the frame that presents taken one after another. -/
theorem slotsPresentedOrConcealed : Obligations.SlotsPresentedOrConcealed := by
  refine ⟨fun s => ?_, fun s h samples => ?_,
    fun s f slot hi hr => ⟨fun n x hn hg hx => ?_, fun n hn hg hx => ?_, fun hg => ?_⟩⟩
  · obtain ⟨outside, off, on⟩ := s.compared_counters
    have counter : ∀ x, s.presentFrame.counter x = s.compared.counter x := fun x => by
      simp only [State.counter, State.presentFrame_counters]
    dsimp only
    refine ⟨State.presentFrame_present, State.presentFrame_tracking, fun hs hl r i sl hr k ha => ?_,
      fun x hx => (counter x).trans (outside x hx), fun h => State.presentFrame_counters.trans (off h), ?_⟩
    · exact State.presentFrame_talk hs hl hr k ha
    · rw [State.presentFrame_present]
      simp only [counter]
      exact on
  · have late : s.filesLate h = true → (s.fileRing h samples).counters = (s.bump .lateFrames).counters := fun e => by
      rw [State.fileRing_counters, if_pos e]
    have kept : s.filesLate h = false → (s.fileRing h samples).counters = s.counters := fun e => by
      rw [State.fileRing_counters, if_neg (by simp [e])]
    dsimp only
    refine ⟨by simp, fun x hx => ?_, State.fileRing_present, fun i c hi hf hw => ?_, fun i hi hf => State.fileRing_kept hi hf,
      fun hl => ?_, fun hl => ?_⟩
    · cases e : s.filesLate h
      · rw [State.counter, kept e, State.counter]
      · rw [State.counter, late e]
        exact State.counter_bump_ne (by simpa using hx)
    · rw [State.fileRing_taken hi hf hw]
      exact ⟨rfl, find?_insertFiled ⟨c, samples.get i⟩ _, fun law y => mem_insertFiled (law i hi)⟩
    · rw [State.counter, late (State.filesLate_iff.mpr hl)]
      exact State.counter_bump_same _
    · refine kept (Bool.eq_false_iff.mpr fun e => ?_)
      obtain ⟨i, c, hi, hf, hw⟩ := State.filesLate_iff.mp e
      exact hw (hl i c hi hf)
  · obtain ⟨l, e⟩ := State.presentSlots_get (s := s) hr hi
    rw [e, hn, State.inserterGone_false.mpr fun m k => Option.some.inj (hn.symm.trans k) ▸ hg, SlotPres.presented_stored hx]
    exact ⟨rfl, rfl⟩
  · obtain ⟨l, e⟩ := State.presentSlots_get (s := s) hr hi
    rw [e, hn, State.inserterGone_false.mpr fun m k => Option.some.inj (hn.symm.trans k) ▸ hg, SlotPres.presented_missing hx]
    exact ⟨(decayed_toInt _).1, (decayed_toInt _).2, rfl⟩
  · obtain ⟨l, e⟩ := State.presentSlots_get (s := s) hr hi
    have gone : s.inserterAt (s.captureFor f) slot = none ∨ s.inserterGone (s.captureFor f) slot = true := by
      unfold State.inserterGone
      cases k : s.inserterAt (s.captureFor f) slot with
      | none => exact .inl rfl
      | some n => exact .inr (hg n k)
    rw [e, SlotPres.presented_stale gone]
    exact ⟨(decayed_toInt _).1, rfl⟩

end Sys2Proof.Machine
end

section
/-! The cells that the host sends over the console lane, settled for O30 (R89, R91, R92, R103); and before it what every command
touches, settled for O2. -/

namespace Sys2Proof.Machine

variable {s : State} {c : Cell}

/-- Settles O2: every command's footprint, by the command. -/
theorem commandsTouchOnlyTheirGroups : Obligations.CommandsTouchOnlyTheirGroups := exec_onlyIn_touches

/-! ### The examination of a console cell time (R89) -/

/-- The console cell time under assembly is marked as examined. -/
def State.markConsole (s : State) : State :=
  s.setService { s.service with consoleIn := { s.service.consoleIn with judged := true } }

theorem State.consoleCell_of_due (h : s.consoleDue = true) : s.consoleCell = (s.judgeConsole s.consoleJoin).markConsole := by
  simp [State.consoleCell, h, State.markConsole]

/-- Bytes already taken are not taken again. -/
theorem State.consoleCell_idle (h : s.service.consoleIn.judged = true) : s.consoleCell = s := by
  simp [State.consoleCell, State.consoleDue, h]

/-- In DARK, or empty, the bytes change nothing. -/
theorem State.judgeConsole_none {bytes : List Byte} (h : s.ring.state = .dark ∨ bytes.all (· == 0) = true) :
    s.judgeConsole bytes = s := by
  unfold State.judgeConsole
  split
  · rfl
  · next hd => rw [if_pos (h.resolve_left hd)]

/-- Out of DARK a cell is taken where its CRC matches, and counted where not. -/
theorem State.judgeConsole_cell {bytes : List Byte} (hd : s.ring.state ≠ .dark) (h : bytes.all (· == 0) = false) :
    s.judgeConsole bytes = if cellCrcOk bytes then s.takeHostCell (s.fromHost (cellFields bytes)) else s.bump .cellErrors := by
  rw [State.judgeConsole, if_neg hd, if_neg (by rw [h]; exact nofun)]

/-! ### What a cell from the host moves (R91, R92) -/

/-- Of the service queues only those that take requests and answers are moved. -/
def QueuesMoved (s t : State) : Prop := t.service =
  { s.service with work := t.service.work, outbound := t.service.outbound, console := t.service.console }

theorem State.answerHost_queues {u : State} (h : QueuesMoved s u) (d : Cell) (r : Reply) :
    QueuesMoved s (u.answerHost d r) := by
  unfold State.answerHost
  split
  · exact congrArg (fun x : Service => { x with console := x.console ++ [u.answerCell d r] }) h
  · exact h

theorem State.refuseHost_queues : QueuesMoved s (s.refuseHost c) :=
  State.answerHost_queues (u := s.bump .cellDiscards) rfl c busyIntake

theorem State.hostAll_queues : QueuesMoved s (s.hostAll c) := by
  unfold State.hostAll
  split
  · split
    · exact State.answerHost_queues rfl c _
    · exact State.refuseHost_queues
  · split
    · rfl
    · exact State.refuseHost_queues

theorem State.hostOther_queues (d : NodeId) : QueuesMoved s (s.hostOther c d) := by
  unfold State.hostOther
  split
  · exact State.answerHost_queues rfl c _
  · split
    · split
      · rfl
      · exact State.refuseHost_queues
    · exact State.answerHost_queues rfl c _

theorem State.takeHostCell_queues : QueuesMoved s (s.takeHostCell c) := by
  unfold State.takeHostCell
  split
  · rfl
  · split
    · exact State.hostAll_queues
    · split
      · exact State.answerHost_queues rfl c _
      · split
        · split
          · rfl
          · exact State.refuseHost_queues
        · exact State.hostOther_queues _

theorem State.judgeConsole_queues (bytes : List Byte) : QueuesMoved s (s.judgeConsole bytes) := by
  unfold State.judgeConsole
  split
  · rfl
  · split
    · rfl
    · split
      · exact State.takeHostCell_queues
      · rfl

theorem QueuesMoved.markConsole {u : State} (h : QueuesMoved s u) : u.markConsole.service =
    { s.service with
      consoleIn := { s.service.consoleIn with judged := true }, work := u.markConsole.service.work
      outbound := u.markConsole.service.outbound, console := u.markConsole.service.console } := by
  have marked := congrArg (fun x : Service => { x with consoleIn := { x.consoleIn with judged := true } }) h
  exact marked

/-- The mark moves nothing that the routing of a cell from the host speaks of. -/
theorem HostRouted.markConsole {u : State} (h : HostRouted s u c) : HostRouted s u.markConsole c := h

/-- Settles O30: the cell time is examined once, and its cell goes where the routing of the host's cells takes it. -/
theorem hostCellsTaken : Obligations.HostCellsTaken := by
  intro s hdesk hrun howed hframe
  refine ⟨fun hj => congrArg _ (State.consoleCell_idle hj), fun hj => ?_⟩
  have due : s.consoleDue = true := by simp [State.consoleDue, hdesk, hrun, howed, hframe, hj]
  refine ⟨s.consoleCell, rfl, by simp, ?_⟩
  rw [State.consoleCell_of_due due]
  refine ⟨(State.judgeConsole_queues _).markConsole, fun h => ?_, fun hd hb => ⟨fun hok => ?_, fun hok => ?_⟩⟩
  · rw [State.judgeConsole_none h]
    exact ⟨rfl, rfl⟩
  · rw [State.judgeConsole_cell hd hb, if_pos hok]
    exact (State.takeHostCell_spec s _).markConsole
  · rw [State.judgeConsole_cell hd hb, if_neg (by rw [hok]; exact nofun)]
    exact ⟨rfl, cellError_counted⟩

end Sys2Proof.Machine
end

section
/-! The continuation and the end of a READ, settled for O39 (R13, R93, R94, R98). -/

namespace Sys2Proof.Machine

variable {s : State} {c : Cell} {rest : List Cell} {tb : Table} {r : Reading}

/-- A READ in progress at the head, its table named and its answer queue with room, is the one that goes on (R98). -/
theorem State.readInProgress_eq (hw : s.service.work = c :: rest) (hr : s.service.reading = some r)
    (ht : c.table? = some tb) (room : s.answerRoom c = true) : s.readInProgress = some (c, tb, r) := by
  simp [State.readInProgress, hw, hr, ht, room]

theorem State.nextData_of_left (h : s.readInProgress = some (c, tb, r)) (hl : 0 < r.left) : s.nextData = s.dataCell tb c r := by
  simp [State.nextData, h, hl]

/-- No DATA cell follows once no entry is left. -/
theorem State.nextData_ended (h : s.readInProgress = some (c, tb, r)) (hl : r.left = 0) : s.nextData = s := by
  simp [State.nextData, h, hl]

/-- A READ with entries left does not end. -/
theorem State.finishRead_of_left (h : s.readInProgress = some (c, tb, r)) (hl : 0 < r.left) : s.finishRead = s := by
  simp [State.finishRead, h, Nat.pos_iff_ne_zero.mp hl]

theorem State.finishRead_ended (h : s.readInProgress = some (c, tb, r)) (hl : r.left = 0) : s.finishRead =
    (s.popWork.setService { s.popWork.service with reading := none }).answer c (reply .done [byte r.cells]) := by
  simp [State.finishRead, h, hl]

/-- The queues once a READ has left the work queue and is answered (R94, R98). -/
theorem State.readAnswered_service (hw : s.service.work = c :: rest) (x : Reply) :
    ((s.popWork.setService { s.popWork.service with reading := none }).answer c x).service = { s.service with
      work := rest, reading := none
      console := if s.fromOwnHost c then s.service.console ++ [answerTo s c x] else s.service.console
      outbound := if s.fromOwnHost c then s.service.outbound else s.service.outbound ++ [answerTo s c x] } := by
  have ended := answered_of (s := s.setService { s.service with reading := none }) (c := c) (r := x)
    (u := s.popWork.setService { s.popWork.service with reading := none }) rfl rfl
  have tail : s.service.work.tail = rest := by rw [hw]; rfl
  rw [← tail]
  exact ended

/-- Settles O39: what is left of the READ decides whether its next DATA cell is placed or it is answered. -/
theorem readsGoOnAndEnd : Obligations.ReadsGoOnAndEnd := by
  intro s c rest tb r hw hr ht room
  have going := State.readInProgress_eq hw hr ht room
  obtain ⟨hplaced, hreading⟩ := State.dataCell_placed (s := s) (tb := tb) (c := c) (r := r)
  have next : 0 < r.left → exec .dataCellNext s = .next (s.dataCell tb c r) := fun hl =>
    congrArg _ (State.nextData_of_left going hl)
  have notDone : 0 < r.left → exec .readDoneAnswer s = .next s := fun hl => congrArg _ (State.finishRead_of_left going hl)
  refine ⟨fun hl hseg => ?_, fun hl hnode hcount => ?_, fun hl => ?_⟩
  · have hs := Table.segmented_iff.mpr hseg
    have hports : tb ≠ .ports := by rcases hseg with rfl | rfl <;> decide
    refine ⟨notDone hl, _, next hl, State.dataCell_onlyIn hports, ?_, ?_⟩
    · simpa [State.dataPayload, hs] using hplaced
    · simpa [Reading.after, Reading.batch, hs] using hreading
  · have hs : tb.segmented = false := by simpa [hnode, hcount] using (Table.segmented_iff (tb := tb)).not
    have hbatch : r.batch tb = min (12 / tb.size) r.left := by simp [Reading.batch, hs]
    refine ⟨notDone hl, _, next hl, ?_, ?_, State.dataCell_onlyIn, fun hports => ⟨exec_onlyIn (next hl), fun p => ?_⟩⟩
    · simpa [State.dataPayload, hs, hbatch] using hplaced
    · rw [hreading, Reading.after, hbatch]
    · subst hports
      rw [State.dataCell_port, State.readEffect_port, hbatch]
  · have done : exec .readDoneAnswer s = .next _ := congrArg Host.Outcome.next (State.finishRead_ended going hl)
    exact ⟨congrArg _ (State.nextData_ended going hl), _, done, exec_onlyIn done, State.readAnswered_service hw _⟩

end Sys2Proof.Machine
end

section
/-! Requests that the checks of R96 refuse, settled for O31 (R96, R100, R101, R186). -/

namespace Sys2Proof.Machine

variable {s : State} {c : Cell} {tb : Table} {st : Status}

/-! ### A refusal at the head of the work queue (R93, R94) -/

/-- The command refuses the request c with this status: the request is answered without detail, and only queues change. -/
def Refuses (s : State) (c : Cell) (i : Instr) (st : Status) : Prop :=
  ∃ t, exec i s = .next t ∧ OnlyIn [.service] s t ∧ Answered s t c (reply st [])

/-- A request taken off the queue and answered at once is refused. -/
theorem Refuses.of_answer {i : Instr} {u : State} (hx : exec i s = .next u) (h : u = s.popWork.answer c (reply st [])) :
    Refuses s c i st := ⟨u, hx, h ▸ answered_popWork.1, h ▸ answered_popWork.2⟩

/-- A request that its action leaves the state for is answered, and nothing else happens. -/
theorem State.runHead_refused {p : Cell → Bool} {act : Cell → State → State × Reply} (h : s.request = some c)
    (hp : p c = true) (ha : act c s.popWork = (s.popWork, reply st [])) :
    s.runHead p act = s.popWork.answer c (reply st []) := by
  rw [State.runHead_of h hp, ha]

/-! ### WRITE (R96, R101) -/

/-- Why a WRITE is refused before any entry of it is looked at (R96). -/
def State.writeRefusal (s : State) (c : Cell) : Option Status :=
  match c.table? with
  | none => some .badTable
  | some tb => (s.tableRefusal tb true).or (if c.writeFits tb then none else some .badIndex)

theorem writeAct_refused {w : Table → EntryWriter} (h : s.writeRefusal c = some st) : writeAct w c s = (s, reply st []) := by
  unfold State.writeRefusal at h
  unfold writeAct
  cases ht : c.table? with
  | none => simp_all
  | some tb =>
    cases hr : s.tableRefusal tb true <;> cases hf : c.writeFits tb <;> simp_all

theorem Cell.writes_of {l : List Table} (hk : c.kind? = some .write) (ht : c.table? = some tb) (hl : tb ∈ l) :
    c.writes l = true := by
  simp [Cell.writes, hk, ht, hl]

theorem Cell.otherWrite_of (hk : c.kind? = some .write) (ht : ∀ tb, c.table? = some tb → tb ∉ writableTables) :
    c.otherWrite = true := by
  cases h : c.table? with
  | none => simp [Cell.otherWrite, Cell.writes, hk, h]
  | some tb => simpa [Cell.otherWrite, Cell.writes, hk, h] using ht tb h

theorem State.runWrite_refused {l : List Table} {w : Table → EntryWriter} (h : s.request = some c)
    (hw : c.writes l = true) (hr : s.writeRefusal c = some st) :
    s.runWrite l w = s.popWork.answer c (reply st []) :=
  State.runHead_refused h hw (writeAct_refused hr)

/-- The command that takes the entries of a table that can be written. -/
def Table.writer : Table → Option Instr
  | .slotA | .slotB => some .writeSlotEntry
  | .dropA | .dropB => some .writeDropEntry
  | .dtrim => some .writeDtrim
  | .strim => some .writeStrim
  | .track => some .writeTrack
  | .bus => some .writeBus
  | .send => some .writeSend
  | .talksrc => some .writeTalksrc
  | .lines => some .writeLines
  | .sets => some .writeSets
  | _ => none

/-- A table's own command refuses what the checks refuse (R96). -/
theorem refuses_write {i : Instr} (h : s.request = some c) (hk : c.kind? = some .write) (ht : c.table? = some tb)
    (hi : tb.writer = some i) (hr : s.writeRefusal c = some st) : Refuses s c i st := by
  have refused (l : List Table) (w : Table → EntryWriter) (hl : tb ∈ l) :
      s.runWrite l w = s.popWork.answer c (reply st []) := State.runWrite_refused h (Cell.writes_of hk ht hl) hr
  have event (l : List Table) (w : Table → EntryWriter) (hl : tb ∈ l) :
      s.event (·.runWrite l w) = s.popWork.answer c (reply st []) :=
    State.event_answer (State.runWrite_refused (s := s.setRaised []) h (Cell.writes_of hk ht hl) hr)
  cases tb <;> cases hi
  case talksrc | lines => exact .of_answer rfl (event _ _ (by decide))
  all_goals exact .of_answer rfl (refused _ _ (by decide))

/-- A WRITE of any other table is refused by WRITE_TABLE (R96, R101). -/
theorem refuses_writeTable (h : s.request = some c) (hk : c.kind? = some .write)
    (ht : ∀ tb, c.table? = some tb → tb ∉ writableTables) (hr : s.writeRefusal c = some st) :
    Refuses s c .writeTable st :=
  .of_answer rfl (State.runHead_refused h (Cell.otherWrite_of hk ht) (writeAct_refused hr))

/-! ### READ (R96, R98) -/

/-- Why a READ is refused (R96). -/
def State.readRefusal (s : State) (c : Cell) : Option Status :=
  match c.table? with
  | none => some .badTable
  | some tb => (s.tableRefusal tb false).or (if c.readFits tb then none else some .badIndex)

theorem refuses_readTable (h : s.request = some c) (hk : c.kind? = some .read) (hr : s.readRefusal c = some st) :
    Refuses s c .readTable st := by
  refine .of_answer rfl ?_
  unfold State.readRefusal at hr
  unfold State.startRead
  cases ht : c.table? with
  | none => simp_all
  | some tb =>
    cases hx : s.tableRefusal tb false <;> cases hf : c.readFits tb <;> simp_all

/-! ### Which check refuses (R96, R100, R101) -/

theorem State.isStage_iff_not_desk : s.isStage = true ↔ s.isDesk = false := by
  cases h : s.straps.role <;> simp [State.isStage, State.isDesk, h]

/-- A table of STAGE nodes alone is refused at a DESK node (R101). -/
theorem State.tableRefusal_role (write : Bool) (hs : tb.stageOnly = true) (hd : s.isDesk = true) :
    s.tableRefusal tb write = some .role := by
  simp [State.tableRefusal, hs, hd]

/-- A table that the node has is refused to a WRITE as a table that can only be read, and to a READ never (R101). -/
theorem State.tableRefusal_present (write : Bool) (h : tb.stageOnly = false ∨ s.isStage = true) :
    s.tableRefusal tb write = if write then tb.readOnly else none := by
  rw [State.isStage_iff_not_desk] at h
  rcases h with h | h <;> simp [State.tableRefusal, h]

theorem State.writeRefusal_unknown (ht : c.table? = none) : s.writeRefusal c = some .badTable := by
  simp [State.writeRefusal, ht]

theorem State.writeRefusal_table (ht : c.table? = some tb) (hr : s.tableRefusal tb true = some st) :
    s.writeRefusal c = some st := by
  simp [State.writeRefusal, ht, hr]

/-- Entries beyond the table or the payload, none at all, or a Length of another count, do not fit a WRITE (R96, R186). -/
theorem State.writeRefusal_unfit (ht : c.table? = some tb) (hr : s.tableRefusal tb true = none)
    (hf : c.count = 0 ∨ tb.entries < c.first + c.count ∨ 12 < c.count * tb.size ∨ c.length ≠ 4 + c.count * tb.size) :
    s.writeRefusal c = some .badIndex := by
  have unfit : c.writeFits tb = false := by
    rw [Bool.eq_false_iff]
    simp only [Cell.writeFits, Cell.inTable, ne_eq, Bool.and_eq_true, decide_eq_true_eq, beq_iff_eq]
    omega
  simp [State.writeRefusal, ht, hr, unfit]

theorem State.readRefusal_unknown (ht : c.table? = none) : s.readRefusal c = some .badTable := by
  simp [State.readRefusal, ht]

theorem State.readRefusal_table (ht : c.table? = some tb) (hr : s.tableRefusal tb false = some st) :
    s.readRefusal c = some st := by
  simp [State.readRefusal, ht, hr]

theorem State.readRefusal_unfit (ht : c.table? = some tb) (hr : s.tableRefusal tb false = none)
    (hf : c.count = 0 ∨ tb.entries < c.first + c.count ∨ c.length ≠ 4) : s.readRefusal c = some .badIndex := by
  have unfit : c.readFits tb = false := by
    rw [Bool.eq_false_iff]
    simp only [Cell.readFits, Cell.inTable, ne_eq, Bool.and_eq_true, decide_eq_true_eq, beq_iff_eq]
    omega
  simp [State.readRefusal, ht, hr, unfit]

/-- The tables that WRITE_TABLE refuses at a node that has them are those without a command of their own (R101). -/
theorem Table.not_writable (h : tb.readOnly ≠ none) : tb ∉ writableTables := by
  revert h
  cases tb <;> decide

theorem Table.writer_readOnly {i : Instr} (h : tb.writer = some i) : tb.readOnly = none := by
  cases tb <;> first | rfl | cases h

/-! ### ACT (R96, R100, R186) -/

/-- Why an ACT whose action the node knows is refused before the action's own rule (R96). -/
def State.actRefusal (s : State) (stageOnly : Bool) (args : Nat) (c : Cell) : Option Status :=
  if stageOnly && s.isDesk then some .role
  else if c.length < 1 + args then some .badIndex
  else none

/-- The command i checks an ACT of this code: at a STAGE node alone or not, and with so many argument bytes (R96, R100). -/
def Checks (code : Nat) (stageOnly : Bool) (args : Nat) (i : Instr) : Prop :=
  ∀ (s : State) (c : Cell) (st : Status), s.request = some c → c.acts code = true →
    s.actRefusal stageOnly args c = some st → Refuses s c i st

theorem State.runAct_refused {code args : Nat} {stageOnly : Bool} {act : Cell → State → State × Reply}
    (h : s.request = some c) (hc : c.acts code = true) (hr : s.actRefusal stageOnly args c = some st) :
    s.runAct code stageOnly args act = s.popWork.answer c (reply st []) := by
  refine State.runHead_refused h hc ?_
  have hr' : s.popWork.actRefusal stageOnly args c = some st := hr
  unfold State.actRefusal at hr'
  unfold State.checked
  split at hr'
  · next hd => cases hr'; rw [if_pos hd]
  · next hd =>
    rw [if_neg hd]
    split at hr'
    · next hl => cases hr'; rw [if_pos hl]
    · cases hr'

theorem Checks.of_runAct {code args : Nat} {stageOnly : Bool} {i : Instr} {act : Cell → State → State × Reply}
    (hx : ∀ s, exec i s = .next (s.runAct code stageOnly args act)) : Checks code stageOnly args i :=
  fun _ _ _ h hc hr => .of_answer (hx _) (State.runAct_refused h hc hr)

theorem Checks.of_event {code args : Nat} {stageOnly : Bool} {i : Instr} {act : Cell → State → State × Reply}
    (hx : ∀ s : State, exec i s = .next (s.event (·.runAct code stageOnly args act))) : Checks code stageOnly args i :=
  fun s _ _ h hc hr => .of_answer (hx _) (State.event_answer (State.runAct_refused (s := s.setRaised []) h hc hr))

/-- REPORT, which is answered later, makes the same checks (R181). -/
theorem checks_report : Checks 0x41 true 0 .report := by
  intro s c st h hc hr
  refine .of_answer (u := s.startReport) rfl ?_
  unfold State.actRefusal at hr
  unfold State.startReport
  simp only [h, hc, if_true]
  split at hr
  · next hd => cases hr; rw [if_pos (by simpa using hd)]
  · next hd =>
    rw [if_neg (by simpa using hd)]
    split at hr
    · next hl => cases hr; rw [if_pos hl]
    · cases hr

theorem State.actRefusal_role {args : Nat} (h : s.isDesk = true) : s.actRefusal true args c = some .role := by
  simp [State.actRefusal, h]

theorem State.actRefusal_short {args : Nat} {stageOnly : Bool} (h : stageOnly = true → s.isStage = true)
    (hl : c.length < 1 + args) : s.actRefusal stageOnly args c = some .badIndex := by
  cases stageOnly
  · simp [State.actRefusal, hl]
  · simp [State.actRefusal, State.isStage_iff_not_desk.mp (h rfl), hl]

theorem refuses_unknownAction (h : s.request = some c) (hk : c.kind? = some .act) (hc : c.arg 0 ∉ actionCodes) :
    Refuses s c .unknownAction .badTable :=
  .of_answer rfl (State.runHead_refused h (by simp [Cell.actsUnknown, hk, hc]) rfl)

/-! ### O31 -/

/-- Settles O31: each refusal is the status of the first check that fails. -/
theorem refusedTablesAndActions : Obligations.RefusedTablesAndActions := by
  intro s c h refused stageTables written stageActions otherActions
  have stage : ∀ tb, tb ∈ stageTables ↔ tb.stageOnly = true := by
    intro tb; cases tb <;> decide
  have present : ∀ tb, tb ∉ stageTables → tb.stageOnly = false := fun tb hn =>
    Bool.eq_false_iff.mpr fun e => hn ((stage tb).mpr e)
  have acts : ∀ {code}, c.kind? = some .act → c.arg 0 = code → c.acts code = true := fun hk hc => by
    simp [Cell.acts, hk, hc]
  have writer : ∀ x ∈ written, x.1.writer = some x.2 := by
    simp only [written, List.forall_mem_cons]
    exact ⟨rfl, rfl, rfl, rfl, rfl, rfl, rfl, rfl, rfl, rfl, rfl, rfl, nofun⟩
  have stageChecks : ∀ x ∈ stageActions, Checks x.1 true x.2.1 x.2.2 := by
    simp only [stageActions, List.forall_mem_cons]
    exact ⟨.of_event fun _ => rfl, .of_event fun _ => rfl, .of_runAct fun _ => rfl, .of_runAct fun _ => rfl,
      .of_event fun _ => rfl, .of_event fun _ => rfl, checks_report, nofun⟩
  have otherChecks : ∀ x ∈ otherActions, Checks x.1 false x.2.1 x.2.2 := by
    simp only [otherActions, List.forall_mem_cons]
    exact ⟨.of_runAct fun _ => rfl, .of_runAct fun _ => rfl, .of_event fun _ => rfl, .of_runAct fun _ => rfl,
      .of_runAct fun _ => rfl, .of_runAct fun _ => rfl, .of_event fun _ => rfl, nofun⟩
  refine ⟨fun hk => ⟨fun ht => ?_, fun tb ht hr => ?_, fun ht => ?_, fun tb i hi ht => ⟨fun hs hd => ?_, fun hs hf => ?_⟩⟩,
    fun hk => ⟨fun ht => ?_, fun tb ht => ⟨fun hs hd => ?_, fun hs hf => ?_⟩⟩,
    fun hk => ⟨fun hc => ?_, fun code args i hi hc => ⟨fun hd => ?_, fun hs hl => ?_⟩, fun code args i hi hc hl => ?_⟩⟩
  · exact refuses_writeTable h hk (fun tb k => by rw [ht] at k; cases k) (State.writeRefusal_unknown ht)
  · have readOnly : tb.readOnly = some .isProtected ∧ (tb.stageOnly = false ∨ s.isStage = true) := by
      rcases hr with hr | ⟨rfl, hr⟩
      · simp only [List.mem_cons, List.not_mem_nil, or_false] at hr
        rcases hr with rfl | rfl | rfl | rfl <;> exact ⟨rfl, .inl rfl⟩
      · exact ⟨rfl, .inr hr⟩
    refine refuses_writeTable h hk (fun x k => ?_) (State.writeRefusal_table ht ?_)
    · cases ht.symm.trans k
      exact Table.not_writable (by simp [readOnly.1])
    · rw [State.tableRefusal_present _ readOnly.2, if_pos rfl, readOnly.1]
  · obtain ⟨tb, ht, hw, hr⟩ : ∃ tb, c.table? = some tb ∧ tb ∉ writableTables ∧ s.tableRefusal tb true = some .role := by
      rcases ht with ht | ⟨ht, hd⟩
      · exact ⟨.preamp, ht, by decide, by simp [State.tableRefusal, Table.readOnly]⟩
      · exact ⟨.talkreg, ht, by decide, State.tableRefusal_role _ rfl hd⟩
    exact refuses_writeTable h hk (fun x k => by cases ht.symm.trans k; exact hw) (State.writeRefusal_table ht hr)
  · exact refuses_write h hk ht (writer _ hi) (State.writeRefusal_table ht (State.tableRefusal_role _ ((stage tb).mp hs) hd))
  · refine refuses_write h hk ht (writer _ hi) (State.writeRefusal_unfit ht ?_ hf)
    exact State.tableRefusal_none (Table.writer_readOnly (writer _ hi)) (hs.imp_left (present tb))
  · exact refuses_readTable h hk (State.readRefusal_unknown ht)
  · exact refuses_readTable h hk (State.readRefusal_table ht (State.tableRefusal_role _ ((stage tb).mp hs) hd))
  · exact refuses_readTable h hk (State.readRefusal_unfit ht (State.tableRefusal_present _ (hs.imp_left (present tb))) hf)
  · exact refuses_unknownAction h hk hc
  · exact stageChecks _ hi s c _ h (acts hk hc) (State.actRefusal_role hd)
  · exact stageChecks _ hi s c _ h (acts hk hc) (State.actRefusal_short (fun _ => hs) hl)
  · exact otherChecks _ hi s c _ h (acts hk hc) (State.actRefusal_short nofun hl)

end Sys2Proof.Machine
end

section
/-! REPORT: its record, the fragments and the closing answer, settled for O50 (R93, R94, R181, R186, R188). -/

namespace Sys2Proof.Machine

variable {s : State} {c : Cell} {r : ReportStream}

/-! ### The record (R181, R187, R188) -/

/-- A table's entries are those at its indices, in order. -/
theorem toList_eq_range {α : Type} [Inhabited α] {n : Nat} (t : Tab α n) : t.toList = (List.range n).map t.get := by
  refine List.ext_getElem (by simp [t.length_eq]) fun i h₁ h₂ => ?_
  simp [Tab.get, h₁]

/-- Entries of one size make a list of as many times that size. -/
theorem length_flatMap_range {f : Nat → List Byte} {k : Nat} (h : ∀ i, (f i).length = k) (n : Nat) :
    ((List.range n).flatMap f).length = n * k := by
  simp [List.length_flatMap, h]

theorem PreampEntry.record_length (e : PreampEntry) : e.record.length = 12 := by
  cases h : e.pending <;> simp [PreampEntry.record, PendingChange.record, word16, h]

theorem TalkRow.record_length (x : TalkRow) : x.record.length = 4 := rfl

theorem word16_length (n : Nat) : (word16 n).length = 2 := rfl

theorem chunkBytes_length (name : ChunkName) (data : List Byte) : (chunkBytes name data).length = 6 + data.length := by
  have four : name.bytes.length = 4 := by cases name <;> rfl
  simp [chunkBytes, four, word16]
  omega

/-- The chunks of the record as its tables' indices give them (R181, R188). -/
theorem State.reportRecord_eq : s.reportRecord =
    chunkBytes .node ([byte s.id.val, byte (nodeRole s.straps.role), byte s.ring.state.code, byte s.timing.clock.code]
        ++ word16 s.timing.superframe)
      ++ chunkBytes .pamp ((List.range 64).flatMap fun n => (s.entry n).record)
      ++ chunkBytes .strm ((List.range 64).map fun n => signedByte (s.tracking.strim.get n))
      ++ chunkBytes .treg ((List.range 4).flatMap fun c => (s.talkRow c).record)
      ++ chunkBytes .cntr ((List.range 14).flatMap fun n => word16 (s.counters.get n)) := by
  simp only [State.reportRecord, State.countRecord, toList_eq_range, List.flatMap_map, List.map_map]
  rfl

/-- The record is 912 bytes long (R181). -/
theorem State.reportRecord_length : s.reportRecord.length = 912 := by
  rw [State.reportRecord_eq]
  simp only [List.length_append, chunkBytes_length, List.length_map, List.length_range,
    length_flatMap_range (fun n => (s.entry n).record_length), length_flatMap_range (fun n => (s.talkRow n).record_length),
    length_flatMap_range fun n => word16_length (s.counters.get n)]
  rfl

/-! ### The request (R93, R181) -/

/-- A REPORT that a STAGE node's idle loader takes leaves the work queue unanswered. -/
theorem State.startReport_idle (h : s.request = some c) (hc : c.acts 0x41 = true) (hl : 1 ≤ c.length)
    (hs : s.isStage = true) (hi : s.image.loader = .idle) : s.startReport = s.popWork.beginReport c := by
  have hd : s.isDesk = false := State.isStage_iff_not_desk.mp hs
  simp [State.startReport, h, hc, hd, hi, Nat.not_lt.mpr hl]

theorem State.startReport_busy (h : s.request = some c) (hc : c.acts 0x41 = true) (hl : 1 ≤ c.length)
    (hs : s.isStage = true) (hi : s.image.loader ≠ .idle) : s.startReport = s.popWork.answer c (reply .busy []) := by
  have hd : s.isDesk = false := State.isStage_iff_not_desk.mp hs
  simp [State.startReport, h, hc, hd, hi, Nat.not_lt.mpr hl]

/-! ### The stream (R181) -/

theorem State.stream_eq (h : s.image.loader = .reporting r) (room : s.service.outbound.length < 16) : s.stream = some r := by
  simp [State.stream, h, hasRoom, room]

/-- A fragment leaves while bytes of the record are left, its size that of the bytes it carries. -/
theorem State.sendFragment_left (h : s.stream = some r) (hl : r.offset < s.image.buffer.length) : s.sendFragment =
    (s.pushOutbound (s.fragment r)).setImage { s.image with
      loader := .reporting { r with
        offset := r.offset + ((s.image.buffer.drop r.offset).take 13).length, cells := r.cells + 1 } } := by
  have size : min (r.offset + 13) s.image.buffer.length = r.offset + ((s.image.buffer.drop r.offset).take 13).length := by
    simp only [List.length_take, List.length_drop]
    omega
  simp only [State.sendFragment, h, if_pos hl, size]

theorem State.sendFragment_ended (h : s.stream = some r) (hl : s.image.buffer.length ≤ r.offset) : s.sendFragment = s := by
  simp [State.sendFragment, h, Nat.not_lt.mpr hl]

theorem State.finishReport_left (h : s.stream = some r) (hl : r.offset < s.image.buffer.length) : s.finishReport = s := by
  simp [State.finishReport, h, Nat.not_le.mpr hl]

theorem State.finishReport_ended (h : s.stream = some r) (hl : s.image.buffer.length ≤ r.offset) : s.finishReport =
    (s.pushOutbound (s.answerCell r.request (reply .done (word16 s.image.buffer.length ++ [byte r.cells])))).setImage
      { s.image with loader := .idle, buffer := [] } := by
  simp only [State.finishReport, h, if_pos hl]

/-- Settles O50: the request fills the loader's buffer, and how far the stream has come decides what follows. -/
theorem reportsStreamed : Obligations.ReportsStreamed := by
  refine ⟨fun s c h hc hl hs => ?_, fun s r hr room => ?_⟩
  · by_cases hi : s.image.loader = .idle
    · have taken : exec .report s = .next (s.popWork.beginReport c) := congrArg _ (State.startReport_idle h hc hl hs hi)
      have role : s.straps.role = .stage := by simpa [State.isStage] using hs
      refine ⟨_, taken, fun _ => ⟨exec_onlyIn taken, rfl, rfl, State.reportRecord_length, ?_⟩, fun k => absurd hi k⟩
      exact s.popWork.reportRecord_eq.trans (by rw [State.popWork_straps, role]; rfl)
    · have busy : exec .report s = .next _ := congrArg Host.Outcome.next (State.startReport_busy h hc hl hs hi)
      exact ⟨_, busy, fun k => absurd k hi, fun _ => answered_popWork⟩
  · have stream := State.stream_eq hr room
    refine ⟨fun hl => ?_, fun hl => ?_⟩
    · have sent : exec .reportFragment s = .next _ := congrArg Host.Outcome.next (State.sendFragment_left stream hl)
      exact ⟨congrArg _ (State.finishReport_left stream hl), _, sent, exec_onlyIn sent, rfl, rfl⟩
    · have ended : exec .reportDone s = .next _ := congrArg Host.Outcome.next (State.finishReport_ended stream hl)
      exact ⟨congrArg _ (State.sendFragment_ended stream hl), _, ended, exec_onlyIn ended, rfl, rfl⟩

end Sys2Proof.Machine
end

section
/-! The tables that an image's chunks give: every entry is the value its stored bytes spell, or its reset value (R102, R105, R124,
R154, R155, R164, R178, R187, R188). -/

namespace Sys2Proof.Machine

variable {s : State} {α : Type} {o : Option (List Byte)} {b : List Byte} {desk : Bool}

/-! ### The entries of a chunk (R178, R188) -/

/-- The bytes of entry i of a chunk's data, where there is a chunk and it holds the entry. -/
def chunkEntry (data : Option (List Byte)) (size i : Nat) : Option (List Byte) :=
  data.bind fun d => if (i + 1) * size ≤ d.length then some ((d.drop (i * size)).take size) else none

/-- The entries stored in the retained image are those of its chunks. -/
theorem storedEntry_eq (name : ChunkName) (size i : Nat) :
    storedEntry s name size i = chunkEntry (chunk s.retainedChunks name) size i := rfl

/-- A loaded entry is what its bytes are found to be, and its reset value where there are none. -/
theorem loadTable_get [Inhabited α] {n size i : Nat} (reset : Nat → α) (parse : Nat → List Byte → Parsed α)
    (data : Option (List Byte)) (hs : 0 < size) (hi : i < n) : (loadTable n size reset parse data).get i =
      (chunkEntry data size i).elim (reset i) fun b => (parse i b).value (reset i) := by
  rw [loadTable, Tab.get_ofFn _ hi]
  cases data with
  | none =>
    have none_fits : ¬ (i + 1) * size ≤ 0 := Nat.not_le.mpr (Nat.mul_pos i.succ_pos hs)
    exact if_neg none_fits
  | some d =>
    simp only [chunkEntry, Option.getD_some, Option.bind_some]
    split <;> rfl

/-- Cut into pieces, a list gives those that are whole. -/
theorem pieces_eq_filterMap (k n : Nat) (l : List Byte) : pieces k n l =
    (List.range n).filterMap fun i => if (i + 1) * k ≤ l.length then some ((l.drop (i * k)).take k) else none := by
  induction n generalizing l with
  | zero => rfl
  | succ n ih =>
    by_cases h : l.length < k
    · have cut (i : Nat) : ¬ (i + 1) * k ≤ l.length := fun hle => by
        have : k ≤ (i + 1) * k := Nat.le_mul_of_pos_left k i.succ_pos
        omega
      rw [pieces, if_pos h]
      exact (List.filterMap_eq_nil_iff.mpr fun i _ => if_neg (cut i)).symm
    · have first : (0 + 1) * k ≤ l.length := by omega
      rw [pieces, if_neg h, ih, List.range_succ_eq_map,
        List.filterMap_cons_some (b := l.take k) (by rw [if_pos first, Nat.zero_mul, List.drop_zero]), List.filterMap_map]
      refine congrArg _ (List.filterMap_congr fun i _ => ?_)
      have whole : (i + 1) * k ≤ (l.drop k).length ↔ (i + 1 + 1) * k ≤ l.length := by
        rw [List.length_drop, Nat.succ_mul (i + 1)]
        omega
      have start : k + i * k = (i + 1) * k := by rw [Nat.succ_mul, Nat.add_comm]
      rw [List.drop_drop, start]
      exact if_congr whole rfl rfl

/-! ### Entries that spell a value (R188) -/

/-- Where the value found is the one spelled, and the reset value where none is, the entry is reloaded. -/
theorem Reloaded.of_parse {spell : List Byte → α → Prop} {reset : α} {parse : List Byte → Parsed α}
    (spelled : ∀ b x, spell b x → (parse b).value reset = x)
    (unspelled : ∀ b, (∃ x, spell b x) ∨ (parse b).value reset = reset) :
    Reloaded o spell reset (o.elim reset fun b => (parse b).value reset) := by
  cases o with
  | none => exact ⟨nofun, fun _ => rfl⟩
  | some b =>
    refine ⟨fun b' x hb hx => ?_, fun h => ?_⟩
    · cases hb
      exact spelled b x hx
    · exact (unspelled b).resolve_left fun ⟨x, hx⟩ => h b x rfl hx

/-- The bytes of a slot entry, those that its selector does not use ignored. -/
def slotSpells (b : List Byte) (x : SlotEntry) : Prop :=
  x.record = [byteAt b 0, byteAt b 1, if (byteAt b 1).toNat < 2 then byteAt b 2 else 0]

theorem parseSlot_spelled {x : SlotEntry} (h : slotSpells b x) : parseSlot b = .taken x := by
  rw [← parseSlot_record x, h]
  have source : parseSlotSource (byteAt b 1).toNat (byteAt b 2).toNat = parseSlotSource (byteAt b 1).toNat
      (byteAt [byteAt b 0, byteAt b 1, if (byteAt b 1).toNat < 2 then byteAt b 2 else 0] 2).toNat := by
    show _ = parseSlotSource _ (if (byteAt b 1).toNat < 2 then byteAt b 2 else 0).toNat
    split
    · rfl
    · next hk =>
      unfold parseSlotSource
      split <;> first | omega | rfl
  simp only [parseSlot, source]
  rfl

theorem slot_reloaded :
    Reloaded o slotSpells ⟨none, .silent⟩ (o.elim ⟨none, .silent⟩ fun b => (parseSlot b).value ⟨none, .silent⟩) := by
  refine .of_parse (fun b x h => by rw [parseSlot_spelled h]; rfl) fun b => ?_
  by_cases h : slotBytes b
  · obtain ⟨e, -, he⟩ := parseSlot_taken h
    exact .inl ⟨e, he⟩
  · exact .inr (by rw [parseSlot_refused h]; rfl)

/-- The bytes of a drop entry, at a DESK node of one without a bus. -/
def dropSpells (desk : Bool) (b : List Byte) (x : DropSource) : Prop :=
  x.record = [byteAt b 0, if byteAt b 0 = 3 then 0 else byteAt b 1] ∧ (desk = true → ∀ k, x ≠ .bus k)

theorem parseDrop_spelled {x : DropSource} (h : dropSpells desk b x) : parseDrop desk b = .taken x := by
  obtain ⟨hr, hd⟩ := h
  have source := parseDropSource_record x
  rw [hr] at source
  refine parseDrop_of (Eq.trans ?_ source) hd
  show _ = parseDropSource (byteAt b 0).toNat (if byteAt b 0 = 3 then 0 else byteAt b 1).toNat
  split
  · next hk => rw [hk]; rfl
  · rfl

theorem drop_reloaded : Reloaded o (dropSpells desk) .silent (o.elim .silent fun b => (parseDrop desk b).value .silent) := by
  refine .of_parse (fun b x h => by rw [parseDrop_spelled h]; rfl) fun b => ?_
  have three : byteAt b 0 = 3 ↔ (byteAt b 0).toNat = 3 := by simp [← BitVec.toNat_inj]
  by_cases h : dropBytes b
  · obtain ⟨d, hp, hr, hbus⟩ := parseDropSource_some h
    by_cases hd : desk = true ∧ ∃ k, d = .bus k
    · obtain ⟨rfl, k, rfl⟩ := hd
      exact .inr (by rw [parseDrop_ofBus hp]; rfl)
    · refine .inl ⟨d, ?_, fun hk k e => hd ⟨hk, k, e⟩⟩
      rw [hr, byte_of_toNat, byte_of_toNat]
      simp only [three]
  · exact .inr (by rw [parseDrop_refused h]; rfl)

/-- The bytes of a line's function, at a DESK node of one that names no talk source. -/
def lineSpells (desk : Bool) (b : List Byte) (x : LineFunction) : Prop :=
  x.bytes = [byteAt b 0, if byteAt b 0 = 1 ∨ byteAt b 0 = 2 then byteAt b 1 else 0] ∧ (desk = true → x = .off ∨ x = .fault)

theorem finOf_some {k n : Nat} {f : Fin k} (h : finOf k n = some f) : f.val = n := by
  unfold finOf at h
  split at h <;> cases h
  rfl

/-- What a function's own bytes spell is the function. -/
theorem parseFunction_bytes (x : LineFunction) : parseFunction (byteAt x.bytes 0).toNat (byteAt x.bytes 1).toNat = some x := by
  cases x with
  | off => rfl
  | talkButton k =>
    show (finOf 8 (byte k.val).toNat).map LineFunction.talkButton = _
    rw [byte_fin k (by decide), finOf_val]
    rfl
  | tally k =>
    show (finOf 8 (byte k.val).toNat).map LineFunction.tally = _
    rw [byte_fin k (by decide), finOf_val]
    rfl
  | fault => rfl

/-- The function that two bytes are found to be is spelled by them. -/
theorem parseFunction_some {code k : Byte} {x : LineFunction} (h : parseFunction code.toNat k.toNat = some x) :
    x.bytes = [code, if code = 1 ∨ code = 2 then k else 0] := by
  have code_eq {n : Nat} (e : code.toNat = n) : code = byte n := by rw [← e, byte_of_toNat]
  unfold parseFunction at h
  split at h
  · next e => rw [code_eq e]; cases h; rfl
  · next e =>
    obtain ⟨f, hf, rfl⟩ := Option.map_eq_some_iff.mp h
    rw [code_eq e, ← byte_of_toNat k, ← finOf_some hf]
    rfl
  · next e =>
    obtain ⟨f, hf, rfl⟩ := Option.map_eq_some_iff.mp h
    rw [code_eq e, ← byte_of_toNat k, ← finOf_some hf]
    rfl
  · next e => rw [code_eq e]; cases h; rfl
  · cases h

/-- A function without a number is the same whatever its second byte. -/
theorem parseFunction_used (code k : Byte) :
    parseFunction code.toNat (if code = 1 ∨ code = 2 then k else 0).toNat = parseFunction code.toNat k.toNat := by
  split
  · rfl
  · next h =>
    have unnumbered : code.toNat ≠ 1 ∧ code.toNat ≠ 2 :=
      ⟨fun e => h (.inl (BitVec.eq_of_toNat_eq e)), fun e => h (.inr (BitVec.eq_of_toNat_eq e))⟩
    unfold parseFunction
    split <;> first | rfl | omega

theorem parseLine_spelled {x : LineFunction} (h : lineSpells desk b x) : parseLine desk b = .taken x := by
  obtain ⟨hb, hd⟩ := h
  have found := parseFunction_bytes x
  rw [hb] at found
  have found : parseFunction (byteAt b 0).toNat (byteAt b 1).toNat = some x :=
    (parseFunction_used (byteAt b 0) (byteAt b 1)).symm.trans found
  rw [parseLine, found]
  cases desk
  · cases x <;> rfl
  · rcases hd rfl with rfl | rfl <;> rfl

theorem line_reloaded : Reloaded o (lineSpells desk) .off (o.elim .off fun b => (parseLine desk b).value .off) := by
  refine .of_parse (fun b x h => by rw [parseLine_spelled h]; rfl) fun b => ?_
  cases h : parseFunction (byteAt b 0).toNat (byteAt b 1).toNat with
  | none => exact .inr (by rw [parseLine, h]; rfl)
  | some x =>
    by_cases hd : desk = true → x = .off ∨ x = .fault
    · exact .inl ⟨x, parseFunction_some h, hd⟩
    · obtain ⟨rfl, hx⟩ := Classical.not_imp.mp hd
      refine .inr ?_
      rw [parseLine, h]
      cases x <;> first | rfl | exact absurd rfl (not_or.mp hx).2

/-! ### Sources and talkers (R137, R155) -/

theorem parseSource_bytes (x : AudioSource) : parseSource (byteAt x.bytes 0).toNat (byteAt x.bytes 1).toNat = some x := by
  cases x with
  | localIn n =>
    show (finOf 64 (byte n.val).toNat).map AudioSource.localIn = _
    rw [byte_fin n (by decide), finOf_val]
    rfl
  | ring n =>
    show (finOf 128 (byte n.val).toNat).map AudioSource.ring = _
    rw [byte_fin n (by decide), finOf_val]
    rfl

theorem parseSource_some {kind number : Byte} {x : AudioSource} (h : parseSource kind.toNat number.toNat = some x) :
    x.bytes = [kind, number] := by
  have kind_eq {n : Nat} (e : kind.toNat = n) : kind = byte n := by rw [← e, byte_of_toNat]
  unfold parseSource at h
  split at h
  · next e =>
    obtain ⟨f, hf, rfl⟩ := Option.map_eq_some_iff.mp h
    rw [kind_eq e, ← byte_of_toNat number, ← finOf_some hf]
    rfl
  · next e =>
    obtain ⟨f, hf, rfl⟩ := Option.map_eq_some_iff.mp h
    rw [kind_eq e, ← byte_of_toNat number, ← finOf_some hf]
    rfl
  · cases h

/-- The bytes of a talk source: its class brought down to 3, its line numbered where the trigger byte names one (R155). -/
def talkSpells (b : List Byte) (x : TalkSource) : Prop :=
  x.audio.bytes = [byteAt b 1, byteAt b 2] ∧ x.enabled = (byteAt b 0).getLsbD 7 ∧ x.cls = min ((byteAt b 0).toNat % 16) 3
  ∧ x.targets.toNat = wordAt b 3
  ∧ x.trigger.map Fin.val = if (byteAt b 5).getLsbD 7 then some ((byteAt b 5).toNat % 8) else none

/-- The talk source that bytes are found to be, from the source of its audio. -/
def talkFrom (b : List Byte) (audio : AudioSource) : TalkSource :=
  { enabled := bitAt (byteAt b 0) 7, cls := min ((byteAt b 0).toNat % 16) 3, audio := audio
    targets := BitVec.ofNat 16 (wordAt b 3)
    trigger := if bitAt (byteAt b 5) 7 then finOf 8 ((byteAt b 5).toNat % 8) else none }

theorem parseTalk_value (reset : TalkSource) : (parseTalk b).value reset =
    (parseSource (byteAt b 1).toNat (byteAt b 2).toNat).elim reset (talkFrom b) := by
  unfold parseTalk
  cases parseSource (byteAt b 1).toNat (byteAt b 2).toNat with
  | none => rfl
  | some audio =>
    dsimp only
    split <;> rfl

theorem talkFrom_spelled {audio : AudioSource} (h : audio.bytes = [byteAt b 1, byteAt b 2]) :
    talkSpells b (talkFrom b audio) := by
  refine ⟨h, rfl, rfl, ?_, ?_⟩
  · exact (BitVec.toNat_ofNat ..).trans (Nat.mod_eq_of_lt (wordAt_lt b 3))
  · simp only [talkFrom, bitAt]
    rw [finOf_lt (Nat.mod_lt _ (by decide))]
    exact apply_ite (Option.map Fin.val) _ _ _

/-- Bytes spell one talk source at most. -/
theorem talkSpells_unique {x y : TalkSource} (hx : talkSpells b x) (hy : talkSpells b y) : x = y := by
  obtain ⟨ha, he, hc, ht, hg⟩ := hx
  obtain ⟨ha', he', hc', ht', hg'⟩ := hy
  have audio : x.audio = y.audio := by
    have := parseSource_bytes x.audio
    rw [ha.trans ha'.symm, parseSource_bytes] at this
    exact (Option.some.inj this).symm
  have trigger : x.trigger = y.trigger := Option.map_injective Fin.val_injective (hg.trans hg'.symm)
  have targets : x.targets = y.targets := BitVec.eq_of_toNat_eq (ht.trans ht'.symm)
  cases x
  cases y
  simp_all

theorem talk_reloaded : Reloaded o talkSpells .defaults (o.elim .defaults fun b => (parseTalk b).value .defaults) := by
  refine .of_parse (fun b x h => ?_) fun b => ?_
  · have audio : x.audio.bytes = [byteAt b 1, byteAt b 2] := h.1
    have found := parseSource_bytes x.audio
    rw [audio] at found
    have found : parseSource (byteAt b 1).toNat (byteAt b 2).toNat = some x.audio := found
    rw [parseTalk_value, found]
    exact talkSpells_unique (talkFrom_spelled audio) h
  · rw [parseTalk_value]
    cases h : parseSource (byteAt b 1).toNat (byteAt b 2).toNat with
    | none => exact .inr rfl
    | some audio => exact .inl ⟨_, talkFrom_spelled (parseSource_some h)⟩

end Sys2Proof.Machine
end


section
/-! The tables of the node after a reload from an image's chunks (R69, R87, R102, R105, R124, R154, R155, R164, R182). -/

namespace Sys2Proof.Machine

variable {s t : State} {o : Option (List Byte)} {b : List Byte} {i n : Nat}

/-! ### Numbers of a chunk's entries (R87, R102, R105, R124) -/

theorem parseTrim_value (hi : Int) (b : List Byte) (reset : Int) :
    (parseTrim hi b).value reset = clampInt (byteAt b 0).toInt (-128) hi := by
  unfold parseTrim Parsed.near
  dsimp only
  split
  · next h => exact h.symm
  · rfl

theorem byte_toInt_bounds (x : Byte) : -128 ≤ x.toInt ∧ x.toInt ≤ 127 := by
  have := BitVec.toInt_lt (x := x)
  have := BitVec.le_toInt (x := x)
  omega

theorem parseSet_value (i : Nat) (b : List Byte) (reset : Nat) :
    (parseSet i b).value reset = setsRange i (wordAt b 0) := by
  unfold parseSet Parsed.near
  split
  · next h => exact h.symm
  · rfl

/-- The field of the loaded SETS record is the stored one in its range, or the default (R102). -/
theorem loadSets_eq (data : Option (List Byte)) :
    let field := fun i lo hi default : Nat => (chunkEntry data 2 i).elim default fun b => max lo (min (wordAt b 0) hi)
    loadSets data = ⟨field 0 16 40 24, field 1 0 15 1, field 2 10 10000 500, field 3 0 60000 2000, field 4 0 600 0,
      field 5 0 3 1, field 6 0 3 0, (chunkEntry data 2 7).elim 8191 fun b => wordAt b 0 % 8192⟩ := by
  have field (i : Nat) (hi : i < 8) := loadTable_get (i := i) Sets.defaults.field parseSet data (by decide : 0 < 2) hi
  simp only [loadSets, field _ (by decide : 0 < 8), field _ (by decide : 1 < 8), field _ (by decide : 2 < 8),
    field _ (by decide : 3 < 8), field _ (by decide : 4 < 8), field _ (by decide : 5 < 8), field _ (by decide : 6 < 8),
    field _ (by decide : 7 < 8), parseSet_value]
  rfl

/-- The gains of the loaded preamps; nothing else of an entry comes from the image (R105). -/
theorem loadPreamps_get (phantom : Bool) (data : Option (List Byte)) (hn : n < 64) : (loadPreamps phantom data).get n =
    { PreampEntry.afterReset with
      gain := (chunkEntry data 2 n).elim ⟨0, false, false⟩ fun b =>
        ⟨min (byteAt b 0).toNat 40, (byteAt b 1).getLsbD 0, (byteAt b 1).getLsbD 1 && phantom⟩ } := by
  rw [loadPreamps, Tab.get_map _ _ hn, loadTable_get _ _ _ (by decide) hn]
  rfl

/-! ### Buses and sends (R154) -/

/-- What a stored send makes of bus n's list: it is appended where it names the bus, the list has room and not its source. -/
def takeStoredSend (n : Nat) (l : List Send) (b : List Byte) : List Send :=
  match parseSource (byteAt b 1).toNat (byteAt b 2).toNat with
  | some a =>
    if (byteAt b 0).toNat = n ∧ l.length < 32 ∧ ∀ x ∈ l, x.source ≠ a then l ++ [⟨a, (byteAt b 3).toNat, 0, false⟩] else l
  | none => l

theorem hasSource_false {l : List Send} {a : AudioSource} : ¬ hasSource l a = true ↔ ∀ x ∈ l, x.source ≠ a := by
  simp [hasSource]

theorem appendSend_get (x : Tab Bus 16) (b : List Byte) (hn : n < 16) :
    (appendSend x b).get n = { x.get n with sends := takeStoredSend n (x.get n).sends b } := by
  unfold appendSend takeStoredSend
  dsimp only
  cases parseSource (byteAt b 1).toNat (byteAt b 2).toNat with
  | none => rfl
  | some a =>
    dsimp only
    by_cases hk : (byteAt b 0).toNat = n
    · subst hk
      by_cases h : (x.get (byteAt b 0).toNat).sends.length < 32
          ∧ ∀ y ∈ (x.get (byteAt b 0).toNat).sends, y.source ≠ a
      · have fits : ¬ (15 < (byteAt b 0).toNat ∨ hasSource (x.get (byteAt b 0).toNat).sends a = true
            ∨ 32 ≤ (x.get (byteAt b 0).toNat).sends.length) := by
          rintro (k | k | k)
          · omega
          · exact hasSource_false.mpr h.2 k
          · omega
        rw [if_neg fits, if_pos ⟨rfl, h⟩, Tab.get_put_same _ _ hn]
      · rw [if_pos, if_neg fun k => h k.2]
        rw [← hasSource_false] at h
        by_cases hs : hasSource (x.get (byteAt b 0).toNat).sends a = true
        · exact .inr (.inl hs)
        · exact .inr (.inr (Nat.not_lt.mp fun k => h ⟨k, hs⟩))
    · rw [if_neg (c := _ ∧ _) fun k => hk k.1]
      split
      · rfl
      · rw [Tab.get_put_ne _ _ hk]

/-- The sends of a chunk are taken in turn by the bus that each names. -/
theorem foldl_appendSend_get (q : List (List Byte)) (x : Tab Bus 16) (hn : n < 16) :
    (q.foldl appendSend x).get n = { x.get n with sends := q.foldl (takeStoredSend n) (x.get n).sends } := by
  induction q generalizing x with
  | nil => rfl
  | cons b q ih => rw [List.foldl_cons, ih, appendSend_get x b hn, List.foldl_cons]

theorem loadBuses_get (buss send : Option (List Byte)) (hn : n < 16) :
    let value := fun i most => (chunkEntry buss 4 n).elim 0 fun b => min (byteAt b i).toNat most
    (loadBuses buss send).get n = { masterTarget := value 0 255, masterApplied := 0, talkLevel := value 1 255
                                    duckDepth := value 2 64, duckApplied := 0, prescaler := value 3 15, ramp := 0, clips := 0
                                    sends := ((List.range 512).filterMap (chunkEntry send 4)).foldl (takeStoredSend n) []
                                    rampTaken := false, duckBefore := none } := by
  have pieces : pieces 4 512 (send.getD []) = (List.range 512).filterMap (chunkEntry send 4) := by
    rw [pieces_eq_filterMap]
    cases send with
    | some d => rfl
    | none => exact List.filterMap_congr fun i _ => if_neg (by simp)
  have whole (x : Byte) : min x.toNat 255 = x.toNat := Nat.min_eq_left (by omega)
  dsimp only
  rw [loadBuses, pieces, foldl_appendSend_get _ _ hn, loadTable_get _ _ _ (by decide) hn]
  cases chunkEntry buss 4 n with
  | none => rfl
  | some b =>
    simp only [Option.elim_some, parseStoredBus, Parsed.value, whole]
    rfl

/-! ### The tables of every role (R69, R87, R102, R164) -/

/-- The line records of an image, but for what each drives. -/
theorem loadLines_get (desk : Bool) (data : Option (List Byte)) (hn : n < 8) : (loadLines desk data).get n =
    ⟨(chunkEntry data 2 n).elim .off fun b => (parseLine desk b).value .off, false, 0, none, none⟩ := by
  rw [loadLines, Tab.get_map _ _ hn, loadTable_get _ _ _ (by decide) hn]

/-- A state whose plan, settings and lines come from the retained image's chunks has its tables reloaded. -/
theorem TablesReloaded.of_loaded {drive : LineFunction → Option Bool} (hplan : t.plan = loadPlan s.isDesk s.retainedChunks)
    (hsets : t.sets = loadSets (chunk s.retainedChunks .sets))
    (hlines : ∀ n, n < 8 → t.line n = { (loadLines s.isDesk (chunk s.retainedChunks .line)).get n with
      output := drive ((loadLines s.isDesk (chunk s.retainedChunks .line)).get n).function }) : TablesReloaded s t := by
  have slot (name : ChunkName) (i : Nat) (hi : i < 128) :
      Reloaded (storedEntry s name 3 i) slotSpells ⟨none, .silent⟩
        ((loadTable 128 3 (fun _ => SlotEntry.empty) (fun _ => parseSlot) (chunk s.retainedChunks name)).get i) := by
    rw [storedEntry_eq, loadTable_get _ _ _ (by decide) hi]
    exact slot_reloaded
  have drop (name : ChunkName) (i : Nat) (hi : i < 64) :
      Reloaded (storedEntry s name 2 i) (dropSpells s.isDesk) .silent
        ((loadTable 64 2 (fun _ => DropSource.silent) (fun _ => parseDrop s.isDesk) (chunk s.retainedChunks name)).get i) := by
    rw [storedEntry_eq, loadTable_get _ _ _ (by decide) hi]
    exact drop_reloaded
  unfold TablesReloaded
  rw [hplan]
  refine ⟨rfl, rfl, rfl, fun i hi => ⟨slot .slta i hi, slot .sltb i hi⟩,
    fun i hi => ⟨drop .drpa i hi, drop .drpb i hi, ?_⟩, fun n hn => ?_, ?_⟩
  · have trim (b : List Byte) : (parseTrim 63 b).value 0 = min (byteAt b 0).toInt 63 := by
      have := byte_toInt_bounds (byteAt b 0)
      rw [parseTrim_value, clampInt]
      omega
    simp only [loadPlan, loadTable_get _ _ _ (by decide : 0 < 1) hi, trim]
    rfl
  · rw [hlines n hn, loadLines_get _ _ hn]
    exact ⟨line_reloaded, rfl, rfl, rfl⟩
  · rw [hsets]
    exact loadSets_eq _

/-! ### The tables of a STAGE node alone (R105, R124, R154, R155) -/

theorem StageTablesReloaded.of_loaded
    (hpreamps : t.preamp.entries = loadPreamps s.image.optn.applyPhantom (chunk s.retainedChunks .pamp))
    (hstrim : t.tracking.strim = loadTable 64 1 (fun _ => 0) (fun _ => parseTrim 127) (chunk s.retainedChunks .strm))
    (hbuses : t.buses = loadBuses (chunk s.retainedChunks .buss) (chunk s.retainedChunks .send))
    (htalk : t.talk.sources = loadTable 8 6 (fun _ => .defaults) (fun _ => parseTalk) (chunk s.retainedChunks .talk)) :
    StageTablesReloaded s t := by
  refine ⟨fun n hn => ?_, fun n hn => ?_, fun n hn => ?_, fun i => ?_⟩
  · rw [State.entry, hpreamps, loadPreamps_get _ _ hn]
    rfl
  · have trim (b : List Byte) : (parseTrim 127 b).value 0 = (byteAt b 0).toInt := by
      have := byte_toInt_bounds (byteAt b 0)
      rw [parseTrim_value, clampInt]
      omega
    rw [hstrim]
    simp only [loadTable_get _ _ _ (by decide : 0 < 1) hn, trim]
    rfl
  · rw [State.bus, hbuses, loadBuses_get _ _ hn]
    rfl
  · rw [State.talkSource, htalk, loadTable_get _ _ _ (by decide) i.isLt]
    exact talk_reloaded

end Sys2Proof.Machine
end


section
/-! RESTART, settled for O51 (R42, R80, R104, R119, R122, R135, R168, R182). -/

namespace Sys2Proof.Machine

variable {s : State} {c : Cell}

/-! ### The tables loaded, group by group (R69, R102, R164, R182) -/

/-- The loading of a STAGE node's own tables leaves plan, settings and lines. -/
theorem State.loadStage_only (l : List Chunk) : OnlyIn [.preamp, .tracking, .buses, .talk] s (s.loadStage l) := by simp

theorem State.loadTables_sets (l : List Chunk) : (s.loadTables l).sets = loadSets (chunk l .sets) := by
  unfold State.loadTables
  dsimp only
  split
  · exact (State.loadStage_only l).at .sets (by decide)
  · rfl

theorem State.loadTables_lines (l : List Chunk) :
    (s.loadTables l).lines = { s.lines with records := loadLines s.isDesk (chunk l .line) } := by
  unfold State.loadTables
  dsimp only
  split
  · exact (State.loadStage_only l).at .lines (by decide)
  · rfl

/-- The four groups of a STAGE node's own tables. -/
theorem State.loadTables_stage (l : List Chunk) (h : s.isStage = true) :
    (s.loadTables l).preamp = { s.preamp with entries := loadPreamps s.image.optn.applyPhantom (chunk l .pamp) }
    ∧ (s.loadTables l).tracking.strim = loadTable 64 1 (fun _ => 0) (fun _ => parseTrim 127) (chunk l .strm)
    ∧ (s.loadTables l).buses = loadBuses (chunk l .buss) (chunk l .send)
    ∧ (s.loadTables l).talk.sources = loadTable 8 6 (fun _ => .defaults) (fun _ => parseTalk) (chunk l .talk) := by
  have e : s.loadTables l = State.loadStage _ l := if_pos h
  rw [e]
  exact ⟨rfl, rfl, rfl, rfl⟩

/-! ### The phases of a RESTART (R182) -/

/-- The state of a RESTART whose queues are empty and whose loader is idle, before its tables are loaded. -/
def State.restartEmptied (s : State) : State := (s.setImage { s.image with loader := .idle, buffer := [] }).restartService

/-- The state of a RESTART whose tables are loaded. -/
def State.restartLoaded (s : State) : State := s.restartEmptied.loadTables s.retainedChunks

/-- The state of a RESTART whose next delay follows the loaded settings, before the rest is cleared. -/
def State.restartTimed (s : State) : State := s.restartEmptied.restartTables

theorem State.restart_eq : s.restart = s.restartTimed.restartCleared.restartConverters.raiseRestarted := rfl

/-- The loading of the tables leaves the other groups. -/
theorem State.restartLoaded_only :
    OnlyIn [.plan, .sets, .lines, .preamp, .tracking, .buses, .talk] s.restartEmptied s.restartLoaded := by
  simp [State.restartLoaded]

/-- The next delay follows the settings where presentation has started, and nothing else moves (R80). -/
theorem State.restartTimed_eq : s.restartTimed = if s.present.delayStarted = true then
    s.restartLoaded.setPresent { s.present with delayNext := s.restartLoaded.sets.presentationDelay }
    else s.restartLoaded := by
  have present : s.restartLoaded.present = s.present := State.restartLoaded_only.at .present (by decide)
  rw [← present]
  rfl

theorem State.restartTimed_only : OnlyIn [.present] s.restartLoaded s.restartTimed := by
  rw [State.restartTimed_eq]
  split <;> simp

/-- After the clearing a RESTART moves the converters alone, and raises its notice. -/
theorem State.restart_only : OnlyIn [.preamp, .notices] s.restartTimed.restartCleared s.restart := by
  simp [State.restart_eq, State.raiseRestarted]

/-- The groups that a RESTART clears besides queues and tables (R42, R21, R135, R168, R174, R176). -/
theorem State.restartCleared_members (u : State) : u.restartCleared.members = { u.members with grants := .fill 6 none } := by
  simp [State.restartCleared, State.driveLines]

theorem State.restartCleared_checker (u : State) : u.restartCleared.checker = ⟨false, 0, none⟩ := by
  simp [State.restartCleared, State.driveLines]

theorem State.restartCleared_tracking (u : State) :
    u.restartCleared.tracking = { u.tracking with table := .fill 256 0, schedule := [] } := by
  simp [State.restartCleared, State.driveLines]

theorem State.restartCleared_notices (u : State) : u.restartCleared.notices = [] ∧ u.restartCleared.raised = u.raised := by
  simp [State.restartCleared, State.driveLines]

theorem State.restartCleared_counters (u : State) : u.restartCleared.counters = .fill 14 0 := by
  simp [State.restartCleared, State.driveLines]

theorem State.restartCleared_talk (u : State) : u.restartCleared.talk = { u.talk with register := .fill 4 .empty } := by
  simp [State.restartCleared, State.driveLines]

theorem State.restartCleared_preamp (u : State) : u.restartCleared.preamp = u.preamp := by
  simp [State.restartCleared, State.driveLines]

/-- What a RESTART does not clear after its tables are loaded. -/
theorem State.restart_uncleared :
    OnlyIn [.members, .checker, .tracking, .counters, .notices, .talk, .lines, .preamp] s.restartTimed s.restart := by
  simp [State.restart_eq, State.raiseRestarted]

/-- What neither the loading nor the clearing moves is as the emptied state has it. -/
theorem State.restart_kept : OnlyIn [.plan, .sets, .lines, .preamp, .tracking, .buses, .talk, .present, .members, .checker,
    .counters, .notices] s.restartEmptied s.restart := by
  simp [State.restart_eq, State.restartTimed]

/-! ### What a RESTART makes of each group (R182) -/

theorem State.restart_plan : s.restart.plan = loadPlan s.isDesk s.retainedChunks := by
  have cleared : s.restart.plan = s.restartTimed.plan := State.restart_uncleared.at .plan (by decide)
  have timed : s.restartTimed.plan = s.restartLoaded.plan := State.restartTimed_only.at .plan (by decide)
  rw [cleared, timed, State.restartLoaded, State.loadTables_plan]
  rfl

theorem State.restart_loadedSets : s.restart.sets = s.restartLoaded.sets := by
  have cleared : s.restart.sets = s.restartTimed.sets := State.restart_uncleared.at .sets (by decide)
  have timed : s.restartTimed.sets = s.restartLoaded.sets := State.restartTimed_only.at .sets (by decide)
  rw [cleared, timed]

theorem State.restart_sets : s.restart.sets = loadSets (chunk s.retainedChunks .sets) := by
  rw [State.restart_loadedSets, State.restartLoaded, State.loadTables_sets]

theorem State.restart_present : s.restart.present = { s.present with
    delayNext := if s.present.delayStarted = true then s.restart.sets.presentationDelay else s.present.delayNext } := by
  have cleared : s.restart.present = s.restartTimed.present := State.restart_uncleared.at .present (by decide)
  have loaded : s.restartLoaded.present = s.present := State.restartLoaded_only.at .present (by decide)
  rw [cleared, State.restart_loadedSets, State.restartTimed_eq]
  split
  · rfl
  · exact loaded

theorem State.restart_members : s.restart.members = { s.members with grants := .fill 6 none } := by
  have cleared : s.restart.members = _ := State.restart_only.at .members (by decide)
  have timed : s.restartTimed.members = s.restartLoaded.members := State.restartTimed_only.at .members (by decide)
  have loaded : s.restartLoaded.members = s.members := State.restartLoaded_only.at .members (by decide)
  rw [cleared, State.restartCleared_members, timed, loaded]

theorem State.restart_checker : s.restart.checker = ⟨false, 0, none⟩ := by
  have cleared : s.restart.checker = _ := State.restart_only.at .checker (by decide)
  rw [cleared, State.restartCleared_checker]

theorem State.restart_counters : s.restart.counters = .fill 14 0 := by
  have cleared : s.restart.counters = _ := State.restart_only.at .counters (by decide)
  rw [cleared, State.restartCleared_counters]

theorem State.restart_tracking : s.restart.tracking =
    { s.restartLoaded.tracking with table := .fill 256 0, schedule := [] } := by
  have cleared : s.restart.tracking = _ := State.restart_only.at .tracking (by decide)
  have timed : s.restartTimed.tracking = s.restartLoaded.tracking := State.restartTimed_only.at .tracking (by decide)
  rw [cleared, State.restartCleared_tracking, timed]

theorem State.restart_talk : s.restart.talk = { s.restartLoaded.talk with register := .fill 4 .empty } := by
  have cleared : s.restart.talk = _ := State.restart_only.at .talk (by decide)
  have timed : s.restartTimed.talk = s.restartLoaded.talk := State.restartTimed_only.at .talk (by decide)
  rw [cleared, State.restartCleared_talk, timed]

/-- The queues of a RESTART are empty; the cells being written and assembled go on (R104). -/
theorem State.restart_service : s.restart.service = s.restartService.service := by
  have kept : s.restart.service = s.restartEmptied.service := State.restart_kept.at .service (by decide)
  rw [kept]
  rfl

theorem State.restart_image : s.restart.image = { s.image with loader := .idle, buffer := [] } := by
  have kept : s.restart.image = s.restartEmptied.image := State.restart_kept.at .image (by decide)
  rw [kept]
  rfl

/-- The straps and the numbers stay. -/
theorem State.restartTimed_kept : s.restartTimed.restartCleared.straps = s.straps
    ∧ s.restartTimed.restartCleared.timing = s.timing ∧ s.restartTimed.restartCleared.image = s.restart.image := by
  have loaded : OnlyIn [.plan, .sets, .lines, .preamp, .tracking, .buses, .talk, .present, .members, .checker, .counters,
      .notices] s.restartEmptied s.restartTimed.restartCleared := by simp [State.restartTimed]
  exact ⟨loaded.at .straps (by decide), loaded.at .timing (by decide), (State.restart_only.at .image (by decide)).symm⟩

/-- A RESTART raises its own notice, and empties the notice queue before (R174, R182). -/
theorem State.restart_notices : s.restart.notices = []
    ∧ s.restart.raised = s.raised ++ [⟨.restarted, s.id.val, [flagByte s.image.retained.isNone]⟩] := by
  have converters : OnlyIn [.preamp] s.restartTimed.restartCleared s.restartTimed.restartCleared.restartConverters := by simp
  have timed : OnlyIn [.plan, .sets, .lines, .preamp, .tracking, .buses, .talk, .present] s.restartEmptied s.restartTimed := by
    simp [State.restartTimed]
  obtain ⟨hn, hr⟩ : _ ∧ _ := converters.at .notices (by decide)
  have straps : s.restartTimed.restartCleared.restartConverters.straps = s.restartTimed.restartCleared.straps :=
    converters.at .straps (by decide)
  have image : s.restartTimed.restartCleared.restartConverters.image = s.restartTimed.restartCleared.image :=
    converters.at .image (by decide)
  obtain ⟨empty, waiting⟩ := s.restartTimed.restartCleared_notices
  have raised : s.restartTimed.raised = s.raised := (timed.at .notices (by decide)).2
  obtain ⟨hstraps, -, himage⟩ := s.restartTimed_kept
  rw [State.restart_eq, State.raiseRestarted, State.raise_notices, State.raise_raised, hn, empty, hr, waiting, raised, State.id,
    straps, image, hstraps, himage, State.restart_image]
  exact ⟨rfl, rfl⟩

/-! ### Lines and converters (R119, R122, R167) -/

theorem State.driveLines_line {n : Nat} (hn : n < 8) :
    s.driveLines.line n = { s.line n with output := s.driveLines.lineOutput (s.line n).function } := Tab.get_map _ _ hn

theorem State.restartCleared_line {n : Nat} (u : State) (hn : n < 8) : u.restartCleared.line n =
    { u.line n with output := u.restartCleared.lineOutput (u.line n).function } := by
  have function (v : State) (h : v.lines = u.lines) : v.driveLines.line n =
      { u.line n with output := v.driveLines.lineOutput (u.line n).function } := by
    rw [State.driveLines_line hn, State.line, h]
    rfl
  exact function _ (by simp)

/-- The lines take their stored functions, and are driven at once (R167). -/
theorem State.restart_line {n : Nat} (hn : n < 8) :
    let x := (loadLines s.isDesk (chunk s.retainedChunks .line)).get n
    s.restart.line n = { x with output := s.restart.lineOutput x.function } := by
  have lines : s.restart.lines = s.restartTimed.restartCleared.lines := State.restart_only.at .lines (by decide)
  have talk : s.restart.talk = s.restartTimed.restartCleared.talk := State.restart_only.at .talk (by decide)
  have ring : s.restart.ring = s.restartTimed.restartCleared.ring := State.restart_only.at .ring (by decide)
  have timed : s.restartTimed.lines = s.restartLoaded.lines := State.restartTimed_only.at .lines (by decide)
  have cleared := s.restartTimed.restartCleared_line hn
  simp only [State.line, State.lineOutput, timed, State.restartLoaded, State.loadTables_lines] at cleared
  simp only [State.line, State.lineOutput, lines, talk, ring, cleared]
  rfl

/-- With no source in service, a tally output is driven inactive once the ports are enabled (R164, R167). -/
theorem State.restart_tally {k : Fin 8} (h : s.ring.state ≠ .dark) : s.restart.lineOutput (.tally k) = some false := by
  have ring : s.restart.ring = s.ring := State.restart_kept.at .ring (by decide)
  have silent : s.restart.talk.serves k = false := by
    rw [State.restart_talk]
    rfl
  simp [State.lineOutput, ring, h, silent]

/-- A reload pass holds the values of every fitted input in index order (R119). -/
theorem State.reloadPass_eq (apply : Nat) : s.reloadPass apply =
    ((List.range 64).filter fun n => n / 16 < s.image.optn.converters).map fun n =>
      ⟨n / 16, n % 16, (s.entry n).gain, apply⟩ := rfl

/-- The converter queues of a STAGE node are empty, and its reload pass holds a command for each fitted input (R119, R122). -/
theorem State.restart_preamp (h : s.isStage = true) :
    let entries := loadPreamps s.image.optn.applyPhantom (chunk s.retainedChunks .pamp)
    s.restart.preamp = { s.preamp with
      entries := entries, queue := [], outstanding := [], transfer := none
      reload := ((List.range 64).filter fun n => n / 16 < s.image.optn.converters).map fun n =>
        ⟨n / 16, n % 16, (entries.get n).gain, (s.timing.superframe + 4) % 65536⟩ } := by
  have loaded : s.restartLoaded.preamp = _ := (State.loadTables_stage (s := s.restartEmptied) s.retainedChunks h).1
  have timed : s.restartTimed.preamp = s.restartLoaded.preamp := State.restartTimed_only.at .preamp (by decide)
  obtain ⟨straps, timing, image⟩ := s.restartTimed_kept
  have stage : s.restartTimed.restartCleared.isStage = true := by rwa [State.isStage, straps]
  rw [State.restart_eq, State.raiseRestarted, State.raise_preamp, State.restartConverters, if_pos stage]
  simp only [State.startReload, State.reloadPass_eq, State.entry, State.setPreamp_preamp, State.setPreamp_image,
    State.setPreamp_timing, State.restartCleared_preamp, timed, loaded, timing, image, State.restart_image]
  rfl

/-- The other tables of a STAGE node come from the image too (R124, R154, R155). -/
theorem State.restart_stage (h : s.isStage = true) :
    s.restart.tracking.strim = loadTable 64 1 (fun _ => 0) (fun _ => parseTrim 127) (chunk s.retainedChunks .strm)
    ∧ s.restart.buses = loadBuses (chunk s.retainedChunks .buss) (chunk s.retainedChunks .send)
    ∧ s.restart.talk.sources = loadTable 8 6 (fun _ => .defaults) (fun _ => parseTalk) (chunk s.retainedChunks .talk) := by
  obtain ⟨-, strim, buses, talk⟩ := State.loadTables_stage (s := s.restartEmptied) s.retainedChunks h
  have uncleared : s.restart.buses = s.restartTimed.buses := State.restart_uncleared.at .buses (by decide)
  have timed : s.restartTimed.buses = s.restartLoaded.buses := State.restartTimed_only.at .buses (by decide)
  rw [State.restart_tracking, State.restart_talk, uncleared, timed]
  exact ⟨strim, buses, talk⟩

/-- The tables of every role, in a state that follows a RESTART (R182). -/
theorem State.restart_tables {t : State} (ht : OnlyIn [.service, .notices] s.restart t) : TablesReloaded s t := by
  have plan : t.plan = s.restart.plan := ht.at .plan (by decide)
  have sets : t.sets = s.restart.sets := ht.at .sets (by decide)
  have lines : t.lines = s.restart.lines := ht.at .lines (by decide)
  refine .of_loaded (drive := s.restart.lineOutput) (plan.trans State.restart_plan) (sets.trans State.restart_sets) fun n hn => ?_
  rw [State.line, lines]
  exact State.restart_line hn

/-- The tables of a STAGE node alone. -/
theorem State.restart_stageTables {t : State} (h : s.isStage = true) (ht : OnlyIn [.service, .notices] s.restart t) :
    StageTablesReloaded s t := by
  have preamp : t.preamp = s.restart.preamp := ht.at .preamp (by decide)
  have tracking : t.tracking = s.restart.tracking := ht.at .tracking (by decide)
  have buses : t.buses = s.restart.buses := ht.at .buses (by decide)
  have talk : t.talk = s.restart.talk := ht.at .talk (by decide)
  obtain ⟨hstrim, hbuses, htalk⟩ := State.restart_stage h
  refine .of_loaded ?_ (by rw [tracking, hstrim]) (by rw [buses, hbuses]) (by rw [talk, htalk])
  rw [preamp, State.restart_preamp h]

/-- What a RESTART keeps and clears besides tables, queues and converters (R42, R21, R80, R135, R168, R174, R176, R182). -/
theorem State.restart_control {t : State} (ht : OnlyIn [.service, .notices] s.restart t) :
    t.members = { s.members with grants := .fill 6 none }
    ∧ t.present = { s.present with
        delayNext := if s.present.delayStarted = true then t.sets.presentationDelay else s.present.delayNext }
    ∧ t.checker = ⟨false, 0, none⟩ ∧ t.tracking.schedule = [] ∧ (∀ k, k < 256 → t.tracking.table.get k = 0)
    ∧ (∀ r, r < 4 → t.talkRow r = ⟨none, none, none⟩) ∧ (∀ x, t.counter x = 0)
    ∧ t.image = { s.image with loader := .idle, buffer := [] } := by
  have sets : t.sets = s.restart.sets := ht.at .sets (by decide)
  have present : t.present = s.restart.present := ht.at .present (by decide)
  have tracking : t.tracking = s.restart.tracking := ht.at .tracking (by decide)
  have talk : t.talk = s.restart.talk := ht.at .talk (by decide)
  have counters : t.counters = s.restart.counters := ht.at .counters (by decide)
  refine ⟨(ht.at .members (by decide)).trans State.restart_members, by rw [present, sets, State.restart_present],
    (ht.at .checker (by decide)).trans State.restart_checker, by rw [tracking, State.restart_tracking], fun k hk => ?_,
    fun r hr => ?_, fun x => ?_, (ht.at .image (by decide)).trans State.restart_image⟩
  · rw [tracking, State.restart_tracking]
    exact Tab.get_fill _ hk
  · rw [State.talkRow, talk, State.restart_talk]
    exact Tab.get_fill _ hr
  · rw [State.counter, counters, State.restart_counters]
    exact Tab.get_fill _ (by cases x <;> decide)

/-- Every tally output is driven inactive (R167). -/
theorem State.restart_tallies {t : State} (ht : OnlyIn [.service, .notices] s.restart t) {n : Nat} {k : Fin 8} (hn : n < 8)
    (hd : s.ring.state ≠ .dark) (hk : (t.line n).function = .tally k) : (t.line n).output = some false := by
  have lines : t.lines = s.restart.lines := ht.at .lines (by decide)
  have line : t.line n = _ := (congrArg (fun x : Lines => x.records.get n) lines).trans (State.restart_line hn)
  rw [line] at hk ⊢
  dsimp only at hk ⊢
  rw [hk]
  exact State.restart_tally hd

/-- The converter line and the preamp entries of a STAGE node (R112, R114, R115, R119, R122). -/
theorem State.restart_converters {t : State} (h : s.isStage = true) (ht : OnlyIn [.service, .notices] s.restart t) :
    t.preamp.queue = [] ∧ t.preamp.outstanding = []
    ∧ t.preamp.reload = ((List.range 64).filter fun n => n / 16 < s.image.optn.converters).map (fun n =>
        ⟨n / 16, n % 16, (t.entry n).gain, (s.timing.superframe + 4) % 65536⟩)
    ∧ ∀ n, n < 64 → (t.entry n).owner = none ∧ (t.entry n).pending = none ∧ (t.entry n).next = none
        ∧ (t.entry n).trimLimit = false ∧ (t.entry n).confirmed = false := by
  have preamp : t.preamp = s.restart.preamp := ht.at .preamp (by decide)
  rw [State.restart_preamp h] at preamp
  simp only [State.entry, preamp]
  refine ⟨trivial, trivial, trivial, fun n hn => ?_⟩
  rw [loadPreamps_get _ _ hn]
  exact ⟨rfl, rfl, rfl, rfl, rfl⟩

/-! ### The request, its answer and the notice (R93, R94, R169, R182) -/

/-- A notice that finds the queue empty enters it where its kind is enabled (R170, R174). -/
theorem State.intake_empty {r : Raised} (h : s.notices = []) :
    s.intake r = if s.noticeEnabled r.kind then s.setNotices [r.notice] else s := by
  cases he : s.noticeEnabled r.kind <;> simp [State.intake, he, h]

/-- The state of a RESTART that is answered, its notice raised. -/
def State.restartAnswered (s : State) (c : Cell) : State :=
  (s.setRaised []).popWork.restart.answer c (reply .done [])

/-- The RESTARTED notice of a RESTART (R182). -/
def State.restartNotice (s : State) : Raised := ⟨.restarted, s.id.val, [flagByte s.image.retained.isNone]⟩

/-- The state after a RESTART that is taken, its event ended. -/
def State.restartTaken (s : State) (c : Cell) : State :=
  ((s.restartAnswered c).intake s.restartNotice).setRaised s.raised

/-- Out of STORING, a RESTART is taken and answered, and its notice alone enters the emptied queue. -/
theorem exec_restart (h : ActReady s c 0x42 0) (hl : s.image.loader ≠ .storing) : exec .restart s = .next (s.restartTaken c) := by
  obtain ⟨hreq, hact, hlen⟩ := h
  have taken : (s.setRaised []).runAct 0x42 false 0 (fun _ s => s.restartAct) = s.restartAnswered c := by
    rw [State.runAct_of (s := s.setRaised []) (stageOnly := false) hreq hact hlen nofun]
    have act : (s.setRaised []).popWork.restartAct = ((s.setRaised []).popWork.restart, reply .done []) := if_neg hl
    rw [act]
    rfl
  have answer : OnlyIn [.service] (s.setRaised []).popWork.restart (s.restartAnswered c) := by simp [State.restartAnswered]
  obtain ⟨-, raised⟩ : _ ∧ _ := answer.at .notices (by decide)
  refine congrArg Host.Outcome.next ?_
  refine (State.event_one (r := s.restartNotice) ?_).trans ?_
  · rw [taken, raised, State.restart_notices.2]
    rfl
  · rw [taken]
    rfl

/-- While the loader is STORING a RESTART is refused. -/
theorem exec_restart_storing (h : ActReady s c 0x42 0) (hl : s.image.loader = .storing) :
    exec .restart s = .next (s.popWork.answer c (reply .busy [])) := by
  obtain ⟨hreq, hact, hlen⟩ := h
  refine congrArg Host.Outcome.next (State.event_answer ?_)
  rw [State.runAct_of (s := s.setRaised []) (stageOnly := false) hreq hact hlen nofun]
  have act : (s.setRaised []).popWork.restartAct = ((s.setRaised []).popWork, reply .busy []) := if_pos hl
  rw [act]

theorem State.restartAnswered_notices : (s.restartAnswered c).notices = [] :=
  (State.answer_notices _ c _).trans State.restart_notices.1

theorem State.restartTaken_eq : s.restartTaken c =
    (if (s.restartAnswered c).noticeEnabled .restarted then (s.restartAnswered c).setNotices [s.restartNotice.notice]
      else s.restartAnswered c).setRaised s.raised := by
  rw [State.restartTaken, State.intake_empty State.restartAnswered_notices]
  rfl

/-- Beyond the RESTART itself, its answer and its notice move the service queues and the notice queue. -/
theorem State.restartTaken_only : OnlyIn [.service, .notices] (s.setRaised []).popWork.restart (s.restartTaken c) := by
  rw [State.restartTaken_eq]
  split <;> simp [State.restartAnswered]

/-- The answer stands alone in the emptied queues (R94, R182). -/
theorem State.restartTaken_service : (s.restartTaken c).service = { s.restartService.service with
    console := if s.fromOwnHost c then [answerTo s c (reply .done [])] else []
    outbound := if s.fromOwnHost c then [] else [answerTo s c (reply .done [])] } := by
  have notice : OnlyIn [.notices] (s.restartAnswered c) (s.restartTaken c) := by
    rw [State.restartTaken_eq]
    split <;> simp
  have hs : (s.restartTaken c).service = (s.restartAnswered c).service := notice.at .service (by decide)
  have straps : (s.setRaised []).popWork.restart.straps = s.straps := State.restart_kept.at .straps (by decide)
  have answered := answered_of (s := s.restartService) (c := c) (r := reply .done [])
    (u := (s.setRaised []).popWork.restart) State.restart_service straps
  rw [hs]
  exact answered

theorem State.restartTaken_notices : (s.restartTaken c).notices =
    if (s.restartTaken c).sets.noticeMask.testBit 5 then
      [⟨.restarted, s.id.val, [flagByte s.image.retained.isNone], 1⟩] else [] := by
  have sets : (s.restartTaken c).sets = (s.restartAnswered c).sets := by
    rw [State.restartTaken_eq]
    split <;> rfl
  have enabled : (s.restartAnswered c).noticeEnabled .restarted = (s.restartTaken c).sets.noticeMask.testBit 5 := by
    rw [sets]
    rfl
  rw [← enabled, State.restartTaken_eq]
  split
  · rfl
  · exact State.restartAnswered_notices

/-- Settles O51: the groups of a RESTART, its tables from the retained image, its answer and its notice. -/
theorem restartKeepsTheRing : Obligations.RestartKeepsTheRing := by
  intro s c h
  by_cases hl : s.image.loader = .storing
  · exact ⟨_, exec_restart_storing h hl, fun _ => answered_popWork, fun k => absurd hl k⟩
  refine ⟨_, exec_restart h hl, fun k => absurd k hl, fun _ => ?_⟩
  -- RESTART runs on s less its request and its raised notices: what holds of that state's tables and groups holds of s's.
  have after := State.restartTaken_only (s := s) (c := c)
  have service := State.restartTaken_service (s := s) (c := c)
  have notices := State.restartTaken_notices (s := s) (c := c)
  have footprint := exec_onlyIn (exec_restart h hl)
  obtain ⟨members, present, checker, schedule, table, rows, counts, image⟩ := State.restart_control after
  generalize s.restartTaken c = t at *
  have tables := State.restart_tables after
  have stage (hs : s.isStage = true) := State.restart_stageTables (s := (s.setRaised []).popWork) hs after
  have converters (hs : s.isStage = true) := State.restart_converters (s := (s.setRaised []).popWork) hs after
  have tallies (n : Nat) (k : Fin 8) (hn : n < 8) (hd : s.ring.state ≠ .dark) (hk : (t.line n).function = .tally k) :=
    State.restart_tallies (s := (s.setRaised []).popWork) after hn hd hk
  exact ⟨footprint, members, by rw [present]; rfl, by rw [service]; rfl, by rw [service]; rfl, by rw [service]; rfl,
    by rw [service]; rfl, by rw [service], by rw [service], by rw [service]; rfl, by rw [service]; rfl,
    tables, stage, tallies, present, checker, schedule, table, rows, counts, by rw [image], by rw [image],
    by rw [image]; rfl, notices, converters⟩

end Sys2Proof.Machine
end

section
/-! The owner of an input: the end of its grace timer, CLAIM and RELEASE (R106 to R112). -/

namespace Sys2Proof.Machine

variable {l : List Group} {s t u : State} {c : Cell} {r : Reply} {e : PreampEntry} {n m first last : Nat} {who : NodeId}

/-! ### One entry of the preamp table -/

theorem OnlyIn.entry_eq (h : OnlyIn l s t) (hp : .preamp ∉ l) : t.entry n = s.entry n := by
  have e : t.preamp = s.preamp := h.at .preamp hp
  rw [State.entry, e, State.entry]

theorem State.setEntry_entry_ne (h : m ≠ n) : (s.setEntry n e).entry m = s.entry m := Tab.get_put_ne _ _ h.symm

theorem State.setOwner_entry_ne {o : Option NodeId} {st : OwnerState} {g : Nat} {cause : OwnerCause} (h : m ≠ n) :
    (s.setOwner n o st g cause).entry m = s.entry m := State.setEntry_entry_ne h

/-- A change of owner raises one notice of the input (R112). -/
theorem State.setOwner_raised {o : Option NodeId} {st : OwnerState} {g : Nat} {cause : OwnerCause} :
    ∃ d, (s.setOwner n o st g cause).raised = s.raised ++ [⟨.owner, n, d⟩] := ⟨_, rfl⟩

@[simp] theorem State.event_entry (f : State → State) : (s.event f).entry n = (f (s.setRaised [])).entry n := by
  simp [State.entry]

/-- An event that raises one notice, leaving the queue to take it alone, ends with the queue that takes it (R169). -/
theorem State.event_notices {f : State → State} {r : Raised} (h : (f (s.setRaised [])).raised = [r])
    (hn : (f (s.setRaised [])).notices = s.notices) (hs : (f (s.setRaised [])).sets = s.sets)
    (hc : (f (s.setRaised [])).counters = s.counters) : (s.event f).notices = (s.intake r).notices := by
  rw [State.event_one h]
  exact (State.intake_congr hn hs hc).1

/-! ### The end of the grace timer (R111) -/

theorem State.graceDue_iff : s.graceDue n = true ↔
    (s.entry n).owner.isSome = true ∧ (s.entry n).ownerState = .grace ∧ (s.entry n).grace = 0 := by
  simp [State.graceDue, and_assoc]

theorem State.graceExpiry_due (h : s.graceDue n = true) :
    s.graceExpiry n = s.setOwner n (s.entry n).owner .orphaned 0 .orphaned := if_pos h

/-- Settles O23: a timer at 0 in GRACE changes the owner state alone, and any other entry is not due. -/
theorem graceExpires : Obligations.GraceExpires := by
  intro n s
  refine ⟨fun ho hs hg => ?_, fun h => ?_⟩
  · have due : (s.setRaised []).graceDue n.val = true := State.graceDue_iff.mpr ⟨ho, hs, hg⟩
    have expired := State.graceExpiry_due due
    refine ⟨_, rfl, exec_onlyIn (c := .graceExpiry n) rfl, ?_, fun m hm => ?_, ?_⟩
    · have timer : { s.entry n.val with ownerState := .orphaned, grace := 0 } =
          { s.entry n.val with ownerState := .orphaned } := by rw [← hg]
      rw [State.event_entry, expired, State.setOwner_entry n.isLt, if_pos rfl]
      exact timer
    · rw [State.event_entry, expired, State.setOwner_entry_ne hm]
      rfl
    · obtain ⟨d, raised⟩ := State.setOwner_raised (s := s.setRaised []) (n := n.val) (o := (s.entry n.val).owner)
        (st := .orphaned) (g := 0) (cause := .orphaned)
      exact ⟨d, State.event_notices (f := (·.graceExpiry n.val)) (by rw [expired]; exact raised) (by rw [expired]; rfl)
        (by rw [expired]; rfl) (by rw [expired]; rfl)⟩
  · have idle : ¬ (s.setRaised []).graceDue n.val = true := fun due => by
      obtain ⟨ho, hs, hg⟩ := State.graceDue_iff.mp due
      rcases h with h | h | h
      · exact absurd (h ▸ ho : (none : Option NodeId).isSome = true) nofun
      · exact h hs
      · exact h hg
    exact congrArg _ (State.event_idle (if_neg idle))

/-! ### One operation for each input of a range -/

theorem inputRange_eq_range' : inputRange first last = List.range' first (last + 1 - first) :=
  List.range'_eq_map_range.symm

theorem mem_inputRange : n ∈ inputRange first last ↔ first ≤ n ∧ n ≤ last := by
  rw [inputRange_eq_range', List.mem_range'_1]
  omega

theorem inputRange_nodup : (inputRange first last).Nodup := inputRange_eq_range' ▸ List.nodup_range'

theorem inputRange_length : (inputRange first last).length = last + 1 - first := by
  rw [inputRange_eq_range', List.length_range']

/-- How many inputs of a range a test picks, counted over the whole table. -/
theorem inputRange_filter_length {k : Nat} (p : Nat → Bool) (h : last < k) :
    ((inputRange first last).filter p).length =
      (List.range k).countP fun n => decide (first ≤ n ∧ n ≤ last) && p n := by
  rw [List.countP_eq_length_filter]
  refine ((List.perm_ext_iff_of_nodup (inputRange_nodup.filter p) (List.nodup_range.filter _)).mpr fun n => ?_).length_eq
  simp only [List.mem_filter, mem_inputRange, List.mem_range, Bool.and_eq_true, decide_eq_true_eq]
  exact ⟨fun ⟨hr, hp⟩ => ⟨by omega, hr, hp⟩, And.right⟩

/-- Operations of which each moves the entry of its own input alone move an entry at most once. -/
theorem foldl_entry {f : State → Nat → State} {upd : PreampEntry → PreampEntry} {q : List Nat} (hq : q.Nodup)
    (other : ∀ u j, n ≠ j → (f u j).entry n = u.entry n) (own : n ∈ q → ∀ u, (f u n).entry n = upd (u.entry n)) :
    (q.foldl f s).entry n = if n ∈ q then upd (s.entry n) else s.entry n := by
  induction q generalizing s with
  | nil => rfl
  | cons j q ih =>
    obtain ⟨hj, hq⟩ := List.nodup_cons.mp hq
    rw [List.foldl_cons, ih hq fun h => own (List.mem_cons_of_mem _ h)]
    by_cases e : n = j
    · subst e
      rw [if_neg hj, if_pos List.mem_cons_self, own List.mem_cons_self]
    · rw [other s j e]
      simp only [List.mem_cons, e, false_or]

/-! ### What CLAIM and RELEASE make of an entry (R107, R109) -/

theorem PreampEntry.claim_granted : e.claim who = .granted ↔ e.owner = none ∨ e.ownerState = .orphaned := by
  unfold PreampEntry.claim
  split
  · next ho => simp [ho]
  · next o ho =>
    simp only [ho, reduceCtorEq, false_or]
    split_ifs with hs <;> simp [hs]

theorem PreampEntry.claim_refused :
    e.claim who = .refused ↔ ∃ o, e.owner = some o ∧ o ≠ who ∧ e.ownerState ≠ .orphaned := by
  unfold PreampEntry.claim
  split
  · next ho => simp [ho]
  · next o ho => by_cases hs : e.ownerState = .orphaned <;> by_cases hw : o = who <;> simp [ho, hs, hw]

/-- The entry after a claim by this node. -/
def PreampEntry.claimed (e : PreampEntry) (who : NodeId) : PreampEntry :=
  if e.claim who = .granted then { e with owner := some who, ownerState := .held, grace := 0 } else e

/-- The entry after a release by this node. -/
def PreampEntry.released (e : PreampEntry) (who : NodeId) : PreampEntry :=
  if e.owner = some who then { e with owner := none, ownerState := .held, grace := 0 } else e

theorem State.claimOne_entry (h : n < 64) : (State.claimOne who s n).entry n = (s.entry n).claimed who := by
  unfold State.claimOne PreampEntry.claimed
  split
  · rw [State.setOwner_entry h, if_pos rfl]
  · rfl

theorem State.claimOne_entry_ne (h : m ≠ n) : (State.claimOne who s n).entry m = s.entry m := by
  unfold State.claimOne
  split
  · exact State.setOwner_entry_ne h
  · rfl

theorem State.releaseOne_entry (h : n < 64) : (State.releaseOne who s n).entry n = (s.entry n).released who := by
  unfold State.releaseOne PreampEntry.released
  split
  · rw [State.setOwner_entry h, if_pos rfl]
  · rfl

theorem State.releaseOne_entry_ne (h : m ≠ n) : (State.releaseOne who s n).entry m = s.entry m := by
  unfold State.releaseOne
  split
  · exact State.setOwner_entry_ne h
  · rfl

/-- Every entry of the range is claimed once, and no other is touched. -/
theorem claims_entry (h : last ≤ 63) : ((inputRange first last).foldl (State.claimOne who) s).entry n =
    if first ≤ n ∧ n ≤ last then (s.entry n).claimed who else s.entry n := by
  rw [foldl_entry (upd := (·.claimed who)) inputRange_nodup (fun _ _ => State.claimOne_entry_ne)
    fun hn _ => State.claimOne_entry (Nat.lt_of_le_of_lt (mem_inputRange.mp hn).2 (Nat.lt_succ_of_le h))]
  simp only [mem_inputRange]

theorem releases_entry (h : last ≤ 63) : ((inputRange first last).foldl (State.releaseOne who) s).entry n =
    if first ≤ n ∧ n ≤ last then (s.entry n).released who else s.entry n := by
  rw [foldl_entry (upd := (·.released who)) inputRange_nodup (fun _ _ => State.releaseOne_entry_ne)
    fun hn _ => State.releaseOne_entry (Nat.lt_of_le_of_lt (mem_inputRange.mp hn).2 (Nat.lt_succ_of_le h))]
  simp only [mem_inputRange]

/-! ### The mask of refused entries (R186) -/

theorem testBit_ofFlags (q : List Bool) (i : Nat) : (ofFlags q).testBit i = q.getD i false := by
  induction q generalizing i with
  | nil => simp [ofFlags]
  | cons b q ih =>
    have e : ofFlags (b :: q) = 2 * ofFlags q + b.toNat := by cases b <;> rfl
    cases i with
    | zero => cases b <;> simp [e]
    | succ i =>
      have half : (2 * ofFlags q + b.toNat) / 2 = ofFlags q := by
        have := b.toNat_lt
        omega
      rw [e, Nat.testBit_succ, half, ih, List.getD_cons_succ]

theorem bitAt_maskBytes {q : List Nat} (h : n < 64) : bitAt (byteAt (maskBytes q) (n / 8)) (n % 8) = q.contains n := by
  have hb : n / 8 < 8 := by omega
  have hi : n % 8 < 8 := by omega
  have e : byteAt (maskBytes q) (n / 8) = byte (ofFlags ((List.range 8).map fun j => q.contains (8 * (n / 8) + j))) := by
    simp [maskBytes, byteAt, hb]
  rw [e, bitAt, byte, BitVec.getLsbD_ofNat, testBit_ofFlags]
  simp [hi, Nat.div_add_mod]

/-! ### The checks of a claim and a release, and their answers (R106, R108) -/

theorem State.qualified_range {x : State × Reply} (h : last < first ∨ 63 < first ∨ 63 < last) :
    s.qualified who first last x = (s, reply .badIndex []) := if_pos (by omega)

theorem State.qualified_role {x : State × Reply} (hf : first ≤ last) (hl : last ≤ 63)
    (hd : s.isReachableDesk who = false) : s.qualified who first last x = (s, reply .role (s.reachOf who).detail) := by
  rw [State.qualified, if_neg (by omega), hd]
  rfl

theorem State.qualified_desk {x : State × Reply} (hf : first ≤ last) (hl : last ≤ 63)
    (hd : s.isReachableDesk who = true) : s.qualified who first last x = x := by
  rw [State.qualified, if_neg (by omega), if_pos hd]

/-- An ACT that a STAGE node alone takes as an event of its own is acted on and answered (R93, R100). -/
theorem State.event_runAct {code args : Nat} {act : Cell → State → State × Reply} {x : State × Reply}
    (h : ActReady s c code args) (hs : s.isStage = true) (hx : act c (s.setRaised []).popWork = x) :
    s.event (·.runAct code true args act) = s.event fun _ => x.1.answer c x.2 := by
  obtain ⟨hr, hc, hl⟩ := h
  unfold State.event
  dsimp only
  rw [State.runAct_of (s := s.setRaised []) hr hc hl fun _ => hs, hx]

/-- A request that its event refuses is answered, and nothing else moves. -/
theorem State.event_refused : s.event (fun _ => (s.setRaised []).popWork.answer c r) = s.popWork.answer c r :=
  State.event_answer rfl

/-- An event that answers a request, leaving queues and straps alone before, has answered it. -/
theorem State.event_answered (h : OnlyIn [.preamp, .notices, .counters] (s.setRaised []).popWork u) :
    Answered s (s.event fun _ => u.answer c r) c r := by
  have e : Answered s (u.answer c r) c r := answered_of (h.at .service (by decide)) (h.at .straps (by decide))
  unfold Answered at e ⊢
  rw [State.event_service, e]

theorem claimReply_none {range : List Nat} : claimReply range [] = reply .done [byte range.length] := rfl

theorem claimReply_some {range refused : List Nat} (h : refused ≠ []) :
    claimReply range refused = reply (if refused.length = range.length then .claimed else .partly) (maskBytes refused) :=
  if_neg h

/-- The inputs of a range whose claim by this node is refused (R107). -/
def State.claimRefused (s : State) (who : NodeId) (first last : Nat) : List Nat :=
  (inputRange first last).filter fun n => (s.entry n).claim who == .refused

theorem State.mem_claimRefused : n ∈ s.claimRefused who first last ↔ (first ≤ n ∧ n ≤ last)
    ∧ ∃ o, (s.entry n).owner = some o ∧ o ≠ who ∧ (s.entry n).ownerState ≠ .orphaned := by
  rw [State.claimRefused, List.mem_filter, mem_inputRange, beq_iff_eq, PreampEntry.claim_refused]

theorem State.claim_taken (hf : first ≤ last) (hl : last ≤ 63) (hd : s.isReachableDesk who = true) :
    s.claim who first last = ((inputRange first last).foldl (State.claimOne who) s,
      claimReply (inputRange first last) (s.claimRefused who first last)) := State.qualified_desk hf hl hd

/-- CLAIM is the claim of its range as an event of its own (R93, R107). -/
theorem execClaim_eq {x : State × Reply} (h : ActReady s c 0x10 2) (hs : s.isStage = true)
    (hx : (s.setRaised []).popWork.claim c.origin (c.arg 1) (c.arg 2) = x) :
    exec .claim s = .next (s.event fun _ => x.1.answer c x.2) :=
  congrArg _ (State.event_runAct (act := fun c s => s.claim c.origin (c.arg 1) (c.arg 2)) h hs hx)

theorem execClaim_refused {r : Reply} (h : ActReady s c 0x10 2) (hs : s.isStage = true)
    (hx : (s.setRaised []).popWork.claim c.origin (c.arg 1) (c.arg 2) = ((s.setRaised []).popWork, r)) :
    exec .claim s = .next (s.popWork.answer c r) := (execClaim_eq h hs hx).trans (congrArg _ State.event_refused)

/-- The state after a CLAIM that passes the checks. -/
def State.claimTaken (s : State) (c : Cell) : State :=
  let u := (s.setRaised []).popWork
  s.event fun _ => ((inputRange (c.arg 1) (c.arg 2)).foldl (State.claimOne c.origin) u).answer c
    (claimReply (inputRange (c.arg 1) (c.arg 2)) (u.claimRefused c.origin (c.arg 1) (c.arg 2)))

theorem execClaim_taken (h : ActReady s c 0x10 2) (hs : s.isStage = true) (hf : c.arg 1 ≤ c.arg 2) (hl : c.arg 2 ≤ 63)
    (hd : s.isReachableDesk c.origin = true) : exec .claim s = .next (s.claimTaken c) := by
  have hx := State.claim_taken (s := (s.setRaised []).popWork) (who := c.origin) hf hl hd
  exact (execClaim_eq h hs hx).trans rfl

theorem State.claimTaken_entry (hl : c.arg 2 ≤ 63) : (s.claimTaken c).entry n =
    if c.arg 1 ≤ n ∧ n ≤ c.arg 2 then (s.entry n).claimed c.origin else s.entry n := by
  rw [State.claimTaken, State.event_entry, State.answer_entry, claims_entry hl]
  rfl

theorem State.claimTaken_answered (hr : claimReply (inputRange (c.arg 1) (c.arg 2))
    (s.claimRefused c.origin (c.arg 1) (c.arg 2)) = r) : Answered s (s.claimTaken c) c r :=
  hr ▸ State.event_answered (by rw [OnlyIn.foldl _ (by intro t a; simp)]; simp)

/-- Settles O43: the checks of the range and of the requester, the table of R107 entry by entry, and the mask. -/
theorem claimsGranted : Obligations.ClaimsGranted := by
  intro s c h hs refused inRange
  by_cases bad : c.arg 2 < c.arg 1 ∨ 63 < c.arg 1 ∨ 63 < c.arg 2
  · exact ⟨_, execClaim_refused h hs (State.qualified_range bad), fun _ => answered_popWork,
      fun hf hl => absurd bad (by omega), fun hf hl => absurd bad (by omega)⟩
  have hf : c.arg 1 ≤ c.arg 2 := by omega
  have hl : c.arg 2 ≤ 63 := by omega
  cases hd : s.isReachableDesk c.origin with
  | false =>
    exact ⟨_, execClaim_refused h hs (State.qualified_role hf hl hd), fun b => absurd b bad,
      fun _ _ _ => ⟨answered_popWork.1, _, answered_popWork.2⟩, fun _ _ => nofun⟩
  | true =>
    have hx := execClaim_taken h hs hf hl hd
    have mem (n : Nat) : n ∈ s.claimRefused c.origin (c.arg 1) (c.arg 2) ↔ inRange n ∧ refused n :=
      State.mem_claimRefused
    refine ⟨_, hx, fun b => absurd b bad, fun _ _ => nofun, fun _ _ _ => ⟨exec_onlyIn hx, fun n _ hn free => ?_,
      fun n hn => ?_, fun none => ?_, fun ⟨n, hn, hr⟩ => ?_⟩⟩
    · exact (State.claimTaken_entry hl).trans ((if_pos hn).trans (if_pos (PreampEntry.claim_granted.mpr free)))
    · refine (State.claimTaken_entry hl).trans ?_
      rcases hn with hn | ⟨ho, hs⟩
      · exact if_neg hn
      · have kept : (s.entry n).claimed c.origin = s.entry n :=
          if_neg fun g => (PreampEntry.claim_granted.mp g).elim ho hs
        rw [kept, ite_self]
    · have e : s.claimRefused c.origin (c.arg 1) (c.arg 2) = [] :=
        List.eq_nil_iff_forall_not_mem.mpr fun n hn => none n ((mem n).mp hn).1 ((mem n).mp hn).2
      exact State.claimTaken_answered (by rw [e, claimReply_none, inputRange_length])
    · have some : s.claimRefused c.origin (c.arg 1) (c.arg 2) ≠ [] := List.ne_nil_of_mem ((mem n).mpr ⟨hn, hr⟩)
      refine ⟨_, _, State.claimTaken_answered (claimReply_some some), fun all => ?_, fun ⟨m, hm, free⟩ => ?_, rfl,
        fun m hm => ?_⟩
      · refine if_pos (congrArg List.length (List.filter_eq_self.mpr fun m hm => ?_))
        exact (List.mem_filter.mp ((mem m).mpr ⟨mem_inputRange.mp hm, all m (mem_inputRange.mp hm)⟩)).2
      · refine if_neg fun same => free ((mem m).mp ?_).2
        rw [State.claimRefused, List.filter_sublist.eq_of_length same]
        exact mem_inputRange.mpr hm
      · rw [bitAt_maskBytes hm, List.contains_iff_mem, mem]

/-- Settles O44: each entry of the range by what its release makes of it, and those released counted over the table. -/
theorem releasesGiveUpOwnership : Obligations.ReleasesGiveUpOwnership := by
  intro s c h hs hd hf hl mine
  let act := fun (c : Cell) (s : State) => s.release c.origin (c.arg 1) (c.arg 2)
  have hx : exec .release s = .next _ :=
    congrArg Host.Outcome.next (State.event_runAct (act := act) h hs (State.qualified_desk hf hl hd))
  have entry (n : Nat) : _ = if c.arg 1 ≤ n ∧ n ≤ c.arg 2 then (s.entry n).released c.origin else s.entry n :=
    releases_entry (s := (s.setRaised []).popWork) (who := c.origin) hl
  have mine_iff (n : Nat) : mine n = true ↔ (c.arg 1 ≤ n ∧ n ≤ c.arg 2) ∧ (s.entry n).owner = some c.origin := by
    simp [mine]
  refine ⟨_, hx, exec_onlyIn hx, fun n hn => ?_, fun n hn => ?_, ?_⟩
  · obtain ⟨hr, ho⟩ := (mine_iff n).mp hn
    rw [State.event_entry, State.answer_entry, entry, if_pos hr, PreampEntry.released, if_pos ho]
    exact ⟨rfl, rfl, rfl, rfl, rfl, rfl, rfl⟩
  · rw [State.event_entry, State.answer_entry, entry]
    split
    · next hr => exact if_neg fun ho => Bool.eq_false_iff.mp hn ((mine_iff n).mpr ⟨hr, ho⟩)
    · rfl
  · rw [← inputRange_filter_length _ (Nat.lt_succ_of_le hl)]
    exact State.event_answered (by rw [OnlyIn.foldl _ (by intro t a; simp)]; simp)

end Sys2Proof.Machine
end

section
/-! A gain change asked for: SET_PREAMP and the examination of a next target (R113 to R116). -/

namespace Sys2Proof.Machine

variable {l : List Group} {s t u : State} {c : Cell} {r : Reply} {e : PreampEntry} {g : Gain} {n m : Nat} {who : NodeId}

/-! ### The change created (R114, R126) -/

/-- The nodes that a change needs step records for, as one condition on each node. -/
theorem State.stepDests_eq {delta : Int} : s.stepDests who delta =
    (List.finRange 4).filter fun d => s.isReachable d && d != s.id && d != who && delta != 0 := by
  unfold State.stepDests
  by_cases h : delta = 0
  · simp [h]
  · have sent : (delta != 0) = true := bne_iff_ne.mpr h
    simp only [if_neg h, sent, Bool.and_true]

theorem State.changeRoom_iff {delta : Int} : s.changeRoom who delta = true ↔
    s.service.stepQueue.length + (s.stepDests who delta).length ≤ 32 ∧ s.preamp.queue.length < 16 := by
  simp [State.changeRoom]

theorem State.createChange_entry (h : n < 64) : (s.createChange n g who).entry n = { s.entry n with
    pending := some ⟨g, s.deltaFor n g, sfAdd s.timing.superframe 4, who⟩ } := by
  have e : (s.createChange n g who).entry n = (s.setEntry n { s.entry n with
      pending := some ⟨g, s.deltaFor n g, sfAdd s.timing.superframe 4, who⟩ }).entry n := rfl
  rw [e, State.setEntry_entry h, if_pos rfl]

theorem State.createChange_entry_ne (h : m ≠ n) : (s.createChange n g who).entry m = s.entry m :=
  State.setEntry_entry_ne h

theorem State.createChange_queue : (s.createChange n g who).preamp.queue =
    s.preamp.queue ++ [⟨n / 16, n % 16, g, sfAdd s.timing.superframe 4⟩] := rfl

theorem State.createChange_service : (s.createChange n g who).service = { s.service with
    stepQueue := s.service.stepQueue ++ (s.stepDests who (s.deltaFor n g)).map fun d =>
      ⟨d, n, s.deltaFor n g, sfAdd s.timing.superframe 4, who⟩ } := rfl

/-! ### SET_PREAMP (R113, R115) -/

theorem flagOf_le_one {k : Nat} (h : k ≤ 1) : flagOf k = some (k == 1) := by
  match k, h with
  | 0, _ => rfl
  | 1, _ => rfl

theorem targetOf_flags {steps pad phantom : Nat} (hp : pad ≤ 1) (hq : phantom ≤ 1) :
    targetOf steps pad phantom = some ⟨min steps 40, pad == 1, phantom == 1⟩ := by
  rw [targetOf, flagOf_le_one hp, flagOf_le_one hq]
  rfl

theorem State.requestGain_created {status : Status} (hp : (s.entry n).pending = none)
    (hr : s.changeRoom who (s.deltaFor n g) = true) : s.requestGain n g who status =
      (s.createChange n g who, reply status (0 :: word16 (sfAdd s.timing.superframe 4) ++ signed16 (s.deltaFor n g))) :=
  if_pos ⟨hp, hr⟩

theorem State.requestGain_next {status : Status}
    (h : (s.entry n).pending ≠ none ∨ ¬ s.changeRoom who (s.deltaFor n g) = true) : s.requestGain n g who status =
      (s.setEntry n { s.entry n with next := some ⟨g, who⟩ }, reply status [1, flagByte (s.entry n).next.isSome]) :=
  if_neg fun ⟨hp, hr⟩ => h.elim (· hp) (· hr)

/-- The target that a SET_PREAMP spells (R113). -/
def Cell.gainTarget (c : Cell) : Gain := ⟨min (c.arg 2) 40, c.arg 3 == 1, c.arg 4 == 1⟩

/-- The status of a SET_PREAMP that is taken (R113). -/
def Cell.gainStatus (c : Cell) : Status := if 40 < c.arg 2 then .clamped else .done

theorem State.setGain_notOwner (hn : c.arg 1 ≤ 63) (hf : s.fitted (c.arg 1) = true) (hp : c.arg 3 ≤ 1) (hq : c.arg 4 ≤ 1)
    (ho : (s.entry (c.arg 1)).owner ≠ some c.origin ∨ (s.entry (c.arg 1)).ownerState ≠ .held) :
    s.setGain c.origin (c.arg 1) (c.arg 2) (c.arg 3) (c.arg 4) = (s, reply .notOwner []) := by
  simp only [State.setGain, targetOf_flags hp hq, hf, Nat.not_lt.mpr hn, Bool.true_eq_false, or_self, if_false, if_pos ho]
  rfl

theorem State.setGain_owner (hn : c.arg 1 ≤ 63) (hf : s.fitted (c.arg 1) = true) (hp : c.arg 3 ≤ 1) (hq : c.arg 4 ≤ 1)
    (ho : (s.entry (c.arg 1)).owner = some c.origin) (hs : (s.entry (c.arg 1)).ownerState = .held) :
    s.setGain c.origin (c.arg 1) (c.arg 2) (c.arg 3) (c.arg 4) =
      s.requestGain (c.arg 1) c.gainTarget c.origin c.gainStatus := by
  simp only [State.setGain, targetOf_flags hp hq, hf, Nat.not_lt.mpr hn, Bool.true_eq_false, or_self, if_false, ho, hs,
    ne_eq, not_true_eq_false]
  rfl

/-- SET_PREAMP is the request for its gain, answered (R93, R113). -/
theorem execSetPreamp_eq (h : ActReady s c 0x12 4) (hs : s.isStage = true)
    (hx : s.popWork.setGain c.origin (c.arg 1) (c.arg 2) (c.arg 3) (c.arg 4) = (u, r)) :
    exec .setPreamp s = .next (u.answer c r) := by
  obtain ⟨hr, hc, hl⟩ := h
  exact congrArg _ ((State.runAct_of (act := fun c s => s.setGain c.origin (c.arg 1) (c.arg 2) (c.arg 3) (c.arg 4))
    hr hc hl fun _ => hs).trans (by rw [hx]))

/-- A request is answered behind what its doings left in the queues. -/
theorem State.answer_service {q : Service} (hs : u.straps = s.straps) (hq : u.service = q) :
    (u.answer c r).service = { q with
      console := if s.fromOwnHost c then q.console ++ [answerTo s c r] else q.console
      outbound := if s.fromOwnHost c then q.outbound else q.outbound ++ [answerTo s c r] } := by
  have own : u.fromOwnHost c = s.fromOwnHost c := by simp [State.fromOwnHost, State.id, State.isDesk, hs]
  have cell : u.answerCell c r = answerTo s c r := by
    simp [State.answerCell, State.cellFor, State.id, hs, answerTo, sentTo, CellKind.code]
  unfold State.answer State.place
  rw [own, cell]
  cases s.fromOwnHost c <;> simp [State.pushConsole, State.pushOutbound, hq]

/-- Settles O45: the owner alone is served, by a pending change where the entry and the queues are free, else by the next
target. -/
theorem gainRequestsTaken : Obligations.GainRequestsTaken := by
  intro s c h hs n e target delta apply dests status pendingAnswer hn hf hp hq
  have fitted : s.popWork.fitted n = true := decide_eq_true hf
  have hn64 : n < 64 := Nat.lt_succ_of_le hn
  by_cases ho : e.owner = some c.origin ∧ e.ownerState = .held
  swap
  · have other : e.owner ≠ some c.origin ∨ e.ownerState ≠ .held := not_and_or.mp ho
    exact ⟨_, execSetPreamp_eq h hs (State.setGain_notOwner (s := s.popWork) hn fitted hp hq other),
      fun _ => answered_popWork, fun h₁ h₂ => absurd ⟨h₁, h₂⟩ ho⟩
  have owned := State.setGain_owner (s := s.popWork) hn fitted hp hq ho.1 ho.2
  have dests_eq : s.stepDests c.origin delta = dests := State.stepDests_eq
  have room_iff : s.popWork.changeRoom c.origin delta = true ↔
      s.service.stepQueue.length + dests.length ≤ 32 ∧ s.preamp.queue.length < 16 := by
    rw [← dests_eq]
    exact State.changeRoom_iff
  have notOther : e.owner ≠ some c.origin ∨ e.ownerState ≠ .held → False := fun k => k.elim (· ho.1) (· ho.2)
  by_cases free : e.pending = none ∧ s.popWork.changeRoom c.origin delta = true
  · have hx := execSetPreamp_eq h hs (owned.trans (State.requestGain_created (s := s.popWork) free.1 free.2))
    refine ⟨_, hx, fun k => (notOther k).elim, fun _ _ => ⟨exec_onlyIn hx, fun m hm => ?_, fun _ _ _ => ⟨?_, ?_, ?_⟩,
      fun k => ?_⟩⟩
    · rw [State.answer_entry, State.createChange_entry_ne hm]
      rfl
    · rw [State.answer_entry, State.createChange_entry hn64]
      rfl
    · rw [State.answer_preamp]
      exact State.createChange_queue
    · rw [State.answer_service (s := s) (u := s.popWork.createChange _ _ _) rfl State.createChange_service, ← dests_eq]
      rfl
    · obtain ⟨hsteps, hqueue⟩ := room_iff.mp free.2
      rcases k with k | k | k
      · exact absurd free.1 k
      · omega
      · omega
  · have busy : e.pending ≠ none ∨ ¬ s.popWork.changeRoom c.origin delta = true := not_and_or.mp free
    have hx := execSetPreamp_eq h hs (owned.trans (State.requestGain_next (s := s.popWork) busy))
    refine ⟨_, hx, fun k => (notOther k).elim, fun _ _ => ⟨exec_onlyIn hx, fun m hm => ?_, fun k₁ k₂ k₃ => ?_,
      fun _ => ⟨?_, ?_, ?_⟩⟩⟩
    · rw [State.answer_entry, State.setEntry_entry_ne hm]
      rfl
    · exact absurd ⟨k₁, room_iff.mpr ⟨k₂, k₃⟩⟩ free
    · rw [State.answer_entry, State.setEntry_entry hn64, if_pos rfl]
      rfl
    · rw [State.answer_preamp]
      rfl
    · exact answered_of rfl rfl

end Sys2Proof.Machine
end

section
/-! A gain change that applies, at its superframe, at a jump and at a load that finds it due, with the stage trim's answer; and
the next targets examined (R116 to R118, R125). -/

namespace Sys2Proof.Machine

variable {l : List Group} {s t u : State} {c : PendingChange} {w : NextTarget} {e : PreampEntry} {g : Gain} {n m party : Nat}
  {x : PreampEntry × Int} {timing : Timing}

/-! ### An input as a change finds it -/

/-- An input's preamp entry and its stage trim. -/
def State.input (s : State) (n : Nat) : PreampEntry × Int := (s.entry n, s.tracking.strim.get n)

theorem State.entry_of_input (h : s.input n = x) : s.entry n = x.1 := congrArg Prod.fst h

theorem State.trim_of_input (h : s.input n = x) : s.tracking.strim.get n = x.2 := congrArg Prod.snd h

/-- Whether a next target waits follows from the input. -/
theorem State.next_of_input (h : t.input n = s.input n) : (t.entry n).next = (s.entry n).next :=
  congrArg PreampEntry.next (State.entry_of_input h)

theorem OnlyIn.input_eq (h : OnlyIn l s t) (hp : .preamp ∉ l) (ht : .tracking ∉ l) : t.input n = s.input n := by
  rw [State.input, h.entry_eq hp, show t.tracking = s.tracking from h.at .tracking ht, State.input]

theorem OnlyIn.party_eq (h : OnlyIn l s t) (hp : .straps ∉ l) (ht : .sets ∉ l) : t.party = s.party := by
  unfold State.party State.isStage State.id
  rw [show t.straps = s.straps from h.at .straps hp, show t.sets = s.sets from h.at .sets ht]

theorem State.event_input (f : State → State) : (s.event f).input n = (f (s.setRaised [])).input n := by
  simp [State.input]

theorem State.setEntry_input_ne (h : m ≠ n) : (s.setEntry n e).input m = s.input m :=
  congrArg (·, s.tracking.strim.get m) (State.setEntry_entry_ne h)

theorem State.setEntry_input (h : n < 64) : (s.setEntry n e).input n = (e, s.tracking.strim.get n) := by
  rw [State.input, State.setEntry_entry h, if_pos rfl]
  rfl

/-- A gain stays where the entry put in has the gain that stood there. -/
theorem State.setEntry_gain (h : e.gain = (s.entry n).gain) : ((s.setEntry n e).entry m).gain = (s.entry m).gain := by
  rcases Nat.lt_or_ge n 64 with hn | hn
  · rw [State.setEntry_entry hn]
    split
    · next k => rw [← k, h]
    · rfl
  · simp only [State.entry, State.setEntry, State.setPreamp_preamp, Tab.put_beyond _ _ hn]

/-! ### The stage trim answers (R125) -/

/-- What the trim's answer to a change makes of its input, at a node of this party. -/
def PendingChange.compensated (c : PendingChange) (party : Nat) (x : PreampEntry × Int) : PreampEntry × Int :=
  let trim := x.2 - 4 * c.delta
  if party = c.exempt.val ∨ c.delta = 0 then x
  else ({ x.1 with trimLimit := x.1.trimLimit || decide (trim < -128 ∨ 127 < trim) }, max (-128) (min trim 127))

/-- What an applied change makes of its input, at a node of this party (R117, R125). -/
def PendingChange.applied (c : PendingChange) (party : Nat) (x : PreampEntry × Int) : PreampEntry × Int :=
  c.compensated party ({ x.1 with gain := c.target, pending := none }, x.2)

/-- The answer of the trim moves the trim and its limit flag alone. -/
theorem PendingChange.applied_entry : (c.applied party x).1 =
    { x.1 with gain := c.target, pending := none, trimLimit := (c.applied party x).1.trimLimit } := by
  unfold PendingChange.applied PendingChange.compensated
  dsimp only
  split <;> rfl

theorem PendingChange.applied_exempt (h : party = c.exempt.val ∨ c.delta = 0) :
    (c.applied party x).1.trimLimit = x.1.trimLimit ∧ (c.applied party x).2 = x.2 := by
  unfold PendingChange.applied PendingChange.compensated
  rw [if_pos h]
  exact ⟨rfl, rfl⟩

theorem PendingChange.applied_answered (h : ¬ (party = c.exempt.val ∨ c.delta = 0)) :
    (c.applied party x).1.trimLimit = (x.1.trimLimit || decide (x.2 - 4 * c.delta < -128 ∨ 127 < x.2 - 4 * c.delta))
    ∧ (c.applied party x).2 = max (-128) (min (x.2 - 4 * c.delta) 127) := by
  unfold PendingChange.applied PendingChange.compensated
  rw [if_neg h]
  exact ⟨rfl, rfl⟩

theorem PendingChange.applied_trim : (c.applied party x).2 =
    if party = c.exempt.val ∨ c.delta = 0 then x.2 else max (-128) (min (x.2 - 4 * c.delta) 127) := by
  split
  · next h => exact (c.applied_exempt h).2
  · next h => exact (c.applied_answered h).2

theorem State.trimCompensate_input (h : n < 64) : (s.trimCompensate n c).input n = c.compensated s.party (s.input n) := by
  have trim : s.tracking.strim.get n + -4 * c.delta = s.tracking.strim.get n - 4 * c.delta := by omega
  unfold State.trimCompensate PendingChange.compensated
  rw [trim]
  split
  · rfl
  · dsimp only
    have moved : (s.tracking.strim.put n (addTrim (s.tracking.strim.get n - 4 * c.delta) 0)).get n =
        max (-128) (min (s.tracking.strim.get n - 4 * c.delta) 127) := by
      simp only [Tab.get_put_same _ _ h, addTrim, clampInt, add_zero]
    split
    · next out =>
      rw [State.setEntry_input h, State.setTracking_tracking, moved]
      have limit : decide ((s.input n).2 - 4 * c.delta < -128 ∨ 127 < (s.input n).2 - 4 * c.delta) = true :=
        decide_eq_true out
      rw [limit, Bool.or_true]
      rfl
    · next inside =>
      rw [State.input, State.setTracking_tracking, moved]
      have limit : decide ((s.input n).2 - 4 * c.delta < -128 ∨ 127 < (s.input n).2 - 4 * c.delta) = false :=
        decide_eq_false inside
      rw [limit, Bool.or_false]
      rfl

theorem State.trimCompensate_input_ne (h : m ≠ n) : (s.trimCompensate n c).input m = s.input m := by
  have moved (a : Int) : (s.setTracking { s.tracking with strim := s.tracking.strim.put n a }).input m = s.input m :=
    congrArg (s.entry m, ·) (Tab.get_put_ne _ _ h.symm)
  unfold State.trimCompensate
  dsimp only
  split
  · rfl
  · split
    · rw [State.setEntry_input_ne h, moved]
    · exact moved _

/-! ### A change applies (R117) -/

theorem State.applyChange_some (h : (s.entry n).pending = some c) :
    s.applyChange n = (s.setEntry n { s.entry n with gain := c.target, pending := none }).trimCompensate n c := by
  simp only [State.applyChange, h]

theorem State.applyChange_input (hn : n < 64) (h : (s.entry n).pending = some c) :
    (s.applyChange n).input n = c.applied s.party (s.input n) := by
  rw [State.applyChange_some h, State.trimCompensate_input hn, State.setEntry_input hn]
  rfl

theorem State.applyChange_input_ne (h : m ≠ n) : (s.applyChange n).input m = s.input m := by
  unfold State.applyChange
  split
  · rw [State.trimCompensate_input_ne h, State.setEntry_input_ne h]
  · rfl

/-! ### The next targets (R116) -/

theorem State.promoteOne_idle (h : (s.entry n).next = none) : State.promoteOne n s = s := by
  simp only [State.promoteOne, h]

theorem State.promoteOne_discarded (hw : (s.entry n).next = some w) (hp : (s.entry n).pending = none)
    (h : (s.entry n).owner ≠ some w.requester ∨ (s.entry n).ownerState = .orphaned) :
    State.promoteOne n s = (s.setEntry n { s.entry n with next := none }).raiseOwner n .nextDiscarded := by
  simp only [State.promoteOne, hw, hp]
  exact if_pos h

theorem State.promoteOne_created (hw : (s.entry n).next = some w) (hp : (s.entry n).pending = none)
    (h : ¬ ((s.entry n).owner ≠ some w.requester ∨ (s.entry n).ownerState = .orphaned))
    (hr : s.changeRoom w.requester (s.deltaFor n w.target) = true) :
    State.promoteOne n s = (s.setEntry n { s.entry n with next := none }).createChange n w.target w.requester := by
  simp only [State.promoteOne, hw, hp]
  rw [if_neg h, if_pos hr]

theorem State.promoteOne_waits (hw : (s.entry n).next = some w) (hp : (s.entry n).pending = none)
    (h : ¬ ((s.entry n).owner ≠ some w.requester ∨ (s.entry n).ownerState = .orphaned))
    (hr : ¬ s.changeRoom w.requester (s.deltaFor n w.target) = true) : State.promoteOne n s = s := by
  simp only [State.promoteOne, hw, hp]
  rw [if_neg h, if_neg hr]

theorem State.promoteOne_input_ne (h : m ≠ n) : (State.promoteOne n s).input m = s.input m := by
  unfold State.promoteOne
  dsimp only
  split
  · split
    · exact State.setEntry_input_ne h
    · split
      · exact (State.setEntry_input_ne h).trans (State.setEntry_input_ne h)
      · rfl
  · rfl

theorem State.createChange_gain {who : NodeId} : ((s.createChange n g who).entry m).gain = (s.entry m).gain :=
  State.setEntry_gain (s := s) (e := { s.entry n with pending := _ }) rfl

theorem State.promoteOne_gain : ((State.promoteOne n s).entry m).gain = (s.entry m).gain := by
  unfold State.promoteOne
  dsimp only
  split
  · split
    · exact State.setEntry_gain rfl
    · split
      · exact State.createChange_gain.trans (State.setEntry_gain rfl)
      · rfl
  · rfl

/-- The examination of the next targets passes an input without one (R116). -/
theorem State.promote_input (h : (s.entry n).next = none) : s.promote.input n = s.input n := by
  unfold State.promote
  split
  · refine forEach_keeps (p := fun u => u.input n = s.input n) (fun i u hu => ?_) 64 rfl
    by_cases e : n = i
    · subst e
      have idle : (u.entry n).next = none := (State.next_of_input hu).trans h
      rw [State.promoteOne_idle idle, hu]
    · rw [State.promoteOne_input_ne e, hu]
  · rfl

theorem State.promote_gain : (s.promote.entry m).gain = (s.entry m).gain := by
  unfold State.promote
  split
  · exact forEach_keeps (p := fun u => (u.entry m).gain = (s.entry m).gain)
      (fun i u hu => State.promoteOne_gain.trans hu) 64 rfl
  · rfl

/-! ### A change that stands due (R117) -/

theorem State.changeDue_iff (h : (s.entry n).pending = some c) :
    s.changeDue n = true ↔ s.timing.frame = 0 ∧ c.apply = s.timing.superframe := by
  simp [State.changeDue, h]

/-- What a boundary at these numbers makes of an input: a change that stands due applies. -/
def changeTaken (timing : Timing) (party : Nat) (x : PreampEntry × Int) : PreampEntry × Int :=
  match x.1.pending with
  | some c => if timing.frame = 0 ∧ c.apply = timing.superframe then c.applied party x else x
  | none => x

theorem changeTaken_due (h : x.1.pending = some c) (hf : timing.frame = 0) (ha : c.apply = timing.superframe) :
    changeTaken timing party x = c.applied party x := by
  simp only [changeTaken, h]
  exact if_pos ⟨hf, ha⟩

theorem changeTaken_next : (changeTaken timing party x).1.next = x.1.next := by
  unfold changeTaken
  split
  · split
    · rw [PendingChange.applied_entry]
    · rfl
  · rfl

theorem State.changeNow_input (hn : n < 64) (h : (s.entry n).next = none) :
    (s.changeNow n).input n = changeTaken s.timing s.party (s.input n) := by
  unfold State.changeNow changeTaken
  cases hp : (s.entry n).pending with
  | none =>
    have idle : s.changeDue n = false := by simp [State.changeDue, hp]
    rw [idle]
    simp only [State.input, hp]
    rfl
  | some c =>
    have applied := State.applyChange_input hn hp
    have next : ((s.applyChange n).entry n).next = none := by
      rw [State.entry_of_input applied, PendingChange.applied_entry]
      exact h
    simp only [State.changeDue_iff hp, show (s.input n).1.pending = some c from hp]
    split
    · rw [State.promote_input next, applied]
    · rfl

theorem State.changeNow_input_ne (h : m ≠ n) (hm : (s.entry m).next = none) : (s.changeNow n).input m = s.input m := by
  unfold State.changeNow
  split
  · have same := State.applyChange_input_ne (s := s) h
    have next : ((s.applyChange n).entry m).next = none := (State.next_of_input same).trans hm
    rw [State.promote_input next, same]
  · rfl

/-- A change that applies leaves gain and trim of every other input, whatever next target is promoted there. -/
theorem State.changeNow_other (h : m ≠ n) :
    ((s.changeNow n).entry m).gain = (s.entry m).gain ∧ (s.changeNow n).tracking.strim.get m = s.tracking.strim.get m := by
  unfold State.changeNow
  split
  · have same := State.applyChange_input_ne (s := s) h
    have kept : (s.applyChange n).promote.tracking = (s.applyChange n).tracking :=
      OnlyIn.at (l := [.preamp, .service, .notices, .counters]) (by simp) .tracking (by decide)
    rw [State.promote_gain, kept]
    exact ⟨congrArg PreampEntry.gain (State.entry_of_input same), State.trim_of_input same⟩
  · exact ⟨rfl, rfl⟩

/-! ### A change at a jump (R118) -/

/-- What a jump to these numbers makes of an input: its change stays, applies, or applies unconfirmed. -/
def changeJumped (timing : Timing) (party : Nat) (x : PreampEntry × Int) : PreampEntry × Int :=
  match x.1.pending with
  | some c =>
    let d := sfDistance timing.superframe c.apply
    if 1 ≤ d ∧ d ≤ 4 then x
    else if timing.frame = 0 ∧ c.apply = timing.superframe then c.applied party x
    else ({ (c.applied party x).1 with confirmed := false }, (c.applied party x).2)
  | none => x

theorem changeJumped_none (h : x.1.pending = none) : changeJumped timing party x = x := by
  simp only [changeJumped, h]

theorem changeJumped_stays (h : x.1.pending = some c) (h₁ : 1 ≤ sfDistance timing.superframe c.apply)
    (h₄ : sfDistance timing.superframe c.apply ≤ 4) : changeJumped timing party x = x := by
  simp only [changeJumped, h]
  exact if_pos ⟨h₁, h₄⟩

/-- A change that does not stay applies; away from its frame 0 it is unconfirmed. -/
theorem changeJumped_applies (h : x.1.pending = some c)
    (hd : ¬ (1 ≤ sfDistance timing.superframe c.apply ∧ sfDistance timing.superframe c.apply ≤ 4)) :
    (changeJumped timing party x).1.gain = c.target ∧ (changeJumped timing party x).1.pending = none
    ∧ (¬ (timing.frame = 0 ∧ c.apply = timing.superframe) → (changeJumped timing party x).1.confirmed = false)
    ∧ (changeJumped timing party x).2 = (c.applied party x).2 := by
  have hg : (c.applied party x).1.gain = c.target := by rw [PendingChange.applied_entry]
  have hp : (c.applied party x).1.pending = none := by rw [PendingChange.applied_entry]
  simp only [changeJumped, h, if_neg hd]
  split
  · next due => exact ⟨hg, hp, fun k => absurd due k, rfl⟩
  · exact ⟨hg, hp, fun _ => rfl, rfl⟩

theorem changeJumped_next : (changeJumped timing party x).1.next = x.1.next := by
  unfold changeJumped
  dsimp only
  split
  · split_ifs
    · rfl
    · rw [PendingChange.applied_entry]
    · rw [PendingChange.applied_entry]
  · rfl

theorem convCommand_place {a : Nat} : (convCommand n g a).address * 16 + (convCommand n g a).channel = n :=
  Nat.div_add_mod' n 16

theorem State.converterFault_input {a k : Nat} (hn : n < 64) : (s.converterFault (convCommand n g a) k).input n =
    ({ s.entry n with confirmed := false }, s.tracking.strim.get n) := by
  have e : (s.converterFault (convCommand n g a) k).input n = (s.setConfirmed n false).input n := by
    rw [State.converterFault, convCommand_place]
    rfl
  rw [e, State.setConfirmed, State.setEntry_input hn]

theorem State.converterFault_input_ne {a k : Nat} (h : m ≠ n) :
    (s.converterFault (convCommand n g a) k).input m = s.input m := by
  have e : (s.converterFault (convCommand n g a) k).input m = (s.setConfirmed n false).input m := by
    rw [State.converterFault, convCommand_place]
    rfl
  rw [e, State.setConfirmed, State.setEntry_input_ne h]

theorem State.jumpChange_input (hn : n < 64) :
    (State.jumpChange n s).input n = changeJumped s.timing s.party (s.input n) := by
  unfold State.jumpChange
  cases hp : (s.entry n).pending with
  | none => exact (changeJumped_none hp).symm
  | some c =>
    have applied := State.applyChange_input hn hp
    simp only [changeJumped, State.changeDue_iff hp, show (s.input n).1.pending = some c from hp]
    split
    · rfl
    · split
      · exact applied
      · rw [State.converterFault_input hn, ← applied]
        rfl

theorem State.jumpChange_input_ne (h : m ≠ n) : (State.jumpChange n s).input m = s.input m := by
  unfold State.jumpChange
  dsimp only
  split
  · split_ifs
    · rfl
    · exact State.applyChange_input_ne h
    · rw [State.converterFault_input_ne h, State.applyChange_input_ne h]
  · rfl

/-! ### Every input in turn -/

/-- Operations of one input each, which go by the numbers and the party, move an input without a next target once. -/
theorem forEach_input {f : Nat → State → State} {upd : Timing → Nat → PreampEntry × Int → PreampEntry × Int} (hn : n < 64)
    (only : ∀ j u, OnlyIn [.preamp, .service, .tracking, .notices, .counters] u (f j u))
    (own : ∀ u, (u.entry n).next = none → (f n u).input n = upd u.timing u.party (u.input n))
    (other : ∀ j u, n ≠ j → (u.entry n).next = none → (f j u).input n = u.input n)
    (next : ∀ timing party x, (upd timing party x).1.next = x.1.next) (h : (s.entry n).next = none) :
    (forEach 64 f s).input n = upd s.timing s.party (s.input n) := by
  refine forEach_at (g := State.input) (upd := upd s.timing s.party)
    (P := fun u => u.timing = s.timing ∧ u.party = s.party ∧ (u.entry n).next = none)
    (fun j u ⟨ht, hp, hx⟩ => ⟨?_, ?_, ?_⟩) (fun j u _ hj ⟨_, _, hx⟩ => other j u hj.symm hx)
    (fun u ⟨ht, hp, hx⟩ => by rw [own u hx, ht, hp]) hn ⟨rfl, rfl, h⟩
  · exact ((only j u).at .timing (by decide)).trans ht
  · exact ((only j u).party_eq (by decide) (by decide)).trans hp
  · by_cases e : n = j
    · subst e
      exact (congrArg PreampEntry.next (State.entry_of_input (own u hx))).trans ((next _ _ _).trans hx)
    · exact (State.next_of_input (other j u e hx)).trans hx

theorem changesNow_input (hn : n < 64) (h : (s.entry n).next = none) :
    (forEach 64 (fun n s => s.changeNow n) s).input n = changeTaken s.timing s.party (s.input n) :=
  forEach_input hn (fun _ _ => by simp) (fun _ => State.changeNow_input hn) (fun _ _ => State.changeNow_input_ne)
    (fun _ _ _ => changeTaken_next) h

/-- A jump meets an input without a next target by its own change alone, and only at a STAGE node (R118). -/
theorem State.preampJump_input (hn : n < 64) (h : (s.entry n).next = none) : s.preampJump.input n =
    if s.isStage = true then changeJumped s.timing s.party (s.input n) else s.input n := by
  have met : (forEach 64 State.jumpChange s).input n = changeJumped s.timing s.party (s.input n) :=
    forEach_input hn (fun _ _ => by simp) (fun _ _ => State.jumpChange_input hn)
      (fun _ _ hj _ => State.jumpChange_input_ne hj) (fun _ _ _ => changeJumped_next) h
  have next : ((forEach 64 State.jumpChange s).entry n).next = none :=
    (congrArg PreampEntry.next (State.entry_of_input met)).trans (changeJumped_next.trans h)
  unfold State.preampJump
  dsimp only
  split
  · split
    · rw [State.promote_input next, met]
    · exact met
  · rfl

/-! ### A load of the counters (R35, R117) -/

theorem State.reloadTimeout_input : s.reloadTimeout.input n = s.input n := by
  have entries : s.reloadTimeout.entry n = s.entry n := congrArg (·.get n) State.reloadTimeout_entries
  have tracking : s.reloadTimeout.tracking = s.tracking := OnlyIn.at (l := [.preamp]) (by simp) .tracking (by decide)
  rw [State.input, entries, tracking, State.input]

theorem State.pulseStrobe_input : s.pulseStrobe.input n = s.input n := by
  unfold State.pulseStrobe
  split <;> rfl

theorem State.trackJump_input : s.trackJump.input n = s.input n := by
  have entries : s.trackJump.entry n = s.entry n := OnlyIn.entry_eq (l := [.tracking]) (by simp) (by decide)
  have trims : s.trackJump.tracking.strim = s.tracking.strim := (State.applyEntries_applied _).1
  rw [State.input, entries, trims, State.input]

/-- Before a load a change that stands due applies (R117). -/
theorem State.reached_input (hn : n < 64) (h : (s.entry n).next = none) :
    s.reached.input n = changeTaken s.timing s.party (s.input n) := by
  have before : OnlyIn [.ring, .present, .lines, .notices, .counters, .plan] s
      (s.forSides fun p s => s.unwrapNow p).swapNow := by
    rw [OnlyIn.swapNow (by simp), OnlyIn.forSides _ (by intro p t; simp)]
    exact .refl
  have same : (s.forSides fun p s => s.unwrapNow p).swapNow.input n = s.input n := before.input_eq (by decide) (by decide)
  have next : ((s.forSides fun p s => s.unwrapNow p).swapNow.entry n).next = none :=
    (State.next_of_input same).trans h
  rw [State.reached, State.reloadTimeout_input, changesNow_input hn next, same,
    show _ = s.timing from before.at .timing (by decide), before.party_eq (by decide) (by decide)]

/-- An input whose change has been taken before the load meets the jump without one. -/
theorem State.jump_input (hn : n < 64) (h : (s.entry n).next = none) (hp : (s.reached.entry n).pending = none)
    (superframe frame : Nat) : (s.jump superframe frame).input n = s.reached.input n := by
  have next : (s.reached.entry n).next = none :=
    (congrArg PreampEntry.next (State.entry_of_input (State.reached_input hn h))).trans (changeTaken_next.trans h)
  have between : ((((s.reached.laneJump superframe frame).setNumbers superframe frame).presentJump).swapJump
      s.reached.timing.superframe).input n = s.reached.input n :=
    OnlyIn.input_eq (l := [.service, .counters, .timing, .members, .present, .plan, .notices]) (by simp) (by decide)
      (by decide)
  unfold State.jump
  dsimp only
  generalize ((((s.reached.laneJump superframe frame).setNumbers superframe frame).presentJump).swapJump
    s.reached.timing.superframe) = u at between ⊢
  have jumped : u.preampJump.trackJump.input n = s.reached.input n := by
    rw [State.trackJump_input, State.preampJump_input hn ((State.next_of_input between).trans next),
      changeJumped_none ((congrArg PreampEntry.pending (State.entry_of_input between)).trans hp), ite_self, between]
  split
  · rw [State.pulseStrobe_input, jumped]
  · exact jumped

/-! ### O22 -/

/-- Settles O22: the change at a jump, at a load that finds it due and as an event, and a next target by what becomes of it. -/
theorem preampChangeApplies : Obligations.PreampChangeApplies := by
  refine ⟨fun s n c hn hs hc hw => ?_, fun s n superframe frame c hn hc hw hf ha => ?_, fun s n w hn hw hc => ?_,
    fun n s c hc hw hf ha => ?_⟩
  · intro d x t
    have met : t.input n = changeJumped s.timing s.party (s.input n) := (State.preampJump_input hn hw).trans (if_pos hs)
    refine ⟨fun h₁ h₄ => ?_, fun h => ?_⟩
    · have stays := met.trans (changeJumped_stays hc h₁ h₄)
      exact ⟨State.entry_of_input stays, State.trim_of_input stays⟩
    · have applies : ¬ (1 ≤ sfDistance s.timing.superframe c.apply ∧ sfDistance s.timing.superframe c.apply ≤ 4) := by
        change ¬ (1 ≤ d ∧ d ≤ 4)
        omega
      obtain ⟨gain, pending, confirmed, trim⟩ := changeJumped_applies (party := s.party) (x := s.input n) hc applies
      rw [← met, PendingChange.applied_trim] at trim
      rw [← met] at gain pending confirmed
      exact ⟨gain, pending, fun k => confirmed fun ⟨hf, ha⟩ => k ⟨ha, hf⟩, trim⟩
  · intro x t
    have taken := (State.reached_input hn hw).trans (changeTaken_due (x := s.input n) hc hf ha)
    have pending : (s.reached.entry n).pending = none := by
      rw [State.entry_of_input taken, PendingChange.applied_entry]
    have loaded : t.input n = c.applied s.party (s.input n) := (State.jump_input hn hw pending _ _).trans taken
    rw [State.entry_of_input loaded, PendingChange.applied_entry]
    exact ⟨rfl, rfl, rfl, (State.trim_of_input loaded).trans PendingChange.applied_trim⟩
  · intro e delta apply dests t
    have dests_eq : s.stepDests w.requester delta = dests := State.stepDests_eq
    have room_iff : s.changeRoom w.requester (s.deltaFor n w.target) = true ↔
        s.service.stepQueue.length + dests.length ≤ 32 ∧ s.preamp.queue.length < 16 := by
      rw [← dests_eq]
      exact State.changeRoom_iff
    refine ⟨fun m hm => State.entry_of_input (State.promoteOne_input_ne hm), fun gone => ?_, fun ho hs =>
      ⟨fun h₁ h₂ => ?_, fun h => ?_⟩⟩
    · have discarded : t = _ := State.promoteOne_discarded hw hc gone
      rw [discarded]
      refine ⟨by simp [State.raiseOwner], ?_, _, rfl⟩
      exact State.entry_of_input (State.setEntry_input hn)
    · have kept : ¬ (e.owner ≠ some w.requester ∨ e.ownerState = .orphaned) := fun k => k.elim (· ho) hs
      have created : t = _ := State.promoteOne_created hw hc kept (room_iff.mpr ⟨h₁, h₂⟩)
      have taken : (s.setEntry n { e with next := none }).entry n = { e with next := none } :=
        State.entry_of_input (State.setEntry_input hn)
      have delta_eq : (s.setEntry n { e with next := none }).deltaFor n w.target = delta := by
        rw [State.deltaFor, taken]
      rw [created]
      refine ⟨by simp, ?_, ?_, rfl⟩
      · rw [State.createChange_entry hn, delta_eq, taken]
        rfl
      · rw [State.createChange_service, delta_eq, ← dests_eq]
        rfl
    · have kept : ¬ (e.owner ≠ some w.requester ∨ e.ownerState = .orphaned) := fun k => k.elim (· ho) hs
      exact State.promoteOne_waits hw hc kept fun k => by
        obtain ⟨h₁, h₂⟩ := room_iff.mp k
        omega
  · have due : (s.setRaised []).changeDue n.val = true := (State.changeDue_iff hc).mpr ⟨hf, ha⟩
    have taken : (s.event (·.changeNow n.val)).input n.val = c.applied s.party (s.input n.val) :=
      (State.event_input _).trans ((State.changeNow_input (s := s.setRaised []) n.isLt hw).trans
        (changeTaken_due (x := s.input n.val) hc hf ha))
    refine ⟨_, rfl, exec_onlyIn (c := .preampChangeApply n) rfl, ?_, ?_, fun h => ?_, fun h₁ h₂ => ?_, fun m _ hm => ?_⟩
    · rw [State.entry_of_input taken, PendingChange.applied_entry]
    · rw [State.entry_of_input taken, PendingChange.applied_entry]
    · obtain ⟨limit, trim⟩ := c.applied_exempt (x := s.input n.val) h
      rw [← taken] at limit trim
      exact ⟨trim, limit⟩
    · obtain ⟨limit, trim⟩ := c.applied_answered (x := s.input n.val) (not_or.mpr ⟨h₁, h₂⟩)
      rw [← taken] at limit trim
      exact ⟨trim, limit⟩
    · have kept := State.changeNow_other (s := s.setRaised []) hm
      rw [State.event_entry, State.event_tracking]
      exact kept

end Sys2Proof.Machine
end

section
/-! The converter line: acknowledgements, deadlines, transfers and the reload pass (R119 to R121, R179). -/

namespace Sys2Proof.Machine

variable {l : List Group} {s t u : State} {c : ConvCommand} {o : Outstanding} {q rest : List Outstanding}
  {queue : List ConvCommand} {a b n m : Nat}

/-! ### Acknowledgements and deadlines (R120) -/

/-- The outstanding command has this address and channel. -/
def Outstanding.isAt (o : Outstanding) (address channel : Nat) : Bool :=
  o.command.address == address && o.command.channel == channel

theorem Outstanding.isAt_iff : o.isAt a b = true ↔ o.command.address = a ∧ o.command.channel = b := by
  simp [Outstanding.isAt]

/-- An acknowledgement takes the oldest command that it matches (R120). -/
theorem State.acknowledge_oldest (hq : s.preamp.outstanding = q ++ o :: rest) (ho : o.isAt a b = true)
    (h : ∀ x ∈ q, ¬ x.isAt a b = true) :
    s.acknowledge a b = (s.setPreamp { s.preamp with outstanding := q ++ rest }).setConfirmed (a * 16 + b) true := by
  have hit : s.preamp.outstanding.any (·.isAt a b) = true := List.any_eq_true.mpr ⟨o, by simp [hq], ho⟩
  have left : s.preamp.outstanding.eraseP (·.isAt a b) = q ++ rest := by
    rw [hq, List.eraseP_append_right _ h, List.eraseP_cons_of_pos (p := fun x : Outstanding => x.isAt a b) ho]
  unfold State.acknowledge
  rw [← left]
  exact if_pos hit

theorem State.acknowledge_none (h : ∀ x ∈ s.preamp.outstanding, ¬ x.isAt a b = true) : s.acknowledge a b = s := by
  have miss : ¬ s.preamp.outstanding.any (·.isAt a b) = true := fun hit => by
    obtain ⟨x, hx, hit⟩ := List.any_eq_true.mp hit
    exact h x hx hit
  exact if_neg miss

theorem State.setConfirmed_entry {x : Bool} (h : n < 64) :
    (s.setConfirmed n x).entry n = { s.entry n with confirmed := x } := by
  rw [State.setConfirmed, State.setEntry_entry h, if_pos rfl]

theorem State.setConfirmed_entry_ne {x : Bool} (h : m ≠ n) : (s.setConfirmed n x).entry m = s.entry m :=
  State.setEntry_entry_ne h

/-- A converter fault leaves its entry UNCONFIRMED (R121). -/
theorem State.converterFault_entry {k : Nat} (h : c.address * 16 + c.channel < 64) :
    (s.converterFault c k).entry (c.address * 16 + c.channel) =
      { s.entry (c.address * 16 + c.channel) with confirmed := false } := State.setConfirmed_entry h

/-- A converter fault is counted, and no other counter moves (R120). -/
theorem State.converterFault_counted {k : Nat} :
    (s.converterFault c k).counter .converterFaults = min (s.counter .converterFaults + 1) 65535 :=
  State.counter_bump_same _

theorem State.converterFault_counter_ne {k : Nat} {x : CounterId} (h : x ≠ .converterFaults) :
    (s.converterFault c k).counter x = s.counter x := State.counter_bump_ne h

theorem State.ackExpiry_due (hq : s.preamp.outstanding = o :: rest) (h : o.left = 0) :
    s.ackExpiry = (s.setPreamp { s.preamp with outstanding := rest }).converterFault o.command 0 := by
  simp [State.ackExpiry, State.ackDue, State.expireOldest, hq, h]

theorem State.ackExpiry_idle (hq : s.preamp.outstanding = o :: rest) (h : o.left ≠ 0) : s.ackExpiry = s := by
  simp [State.ackExpiry, State.ackDue, hq, h]

/-- An acknowledgement, matched or not (R120, R121). -/
theorem converterAck_matched {address : Fin 4} {channel : Fin 16} (hq : s.preamp.outstanding = q ++ o :: rest)
    (ha : o.command.address = address.val) (hc : o.command.channel = channel.val)
    (h : ∀ x ∈ q, x.command.address ≠ address.val ∨ x.command.channel ≠ channel.val) :
    ∃ t, exec (.converterAck address channel) s = .next t ∧ OnlyIn [.preamp] s t ∧ t.preamp.outstanding = q ++ rest
      ∧ t.entry (address.val * 16 + channel.val) = { s.entry (address.val * 16 + channel.val) with confirmed := true }
      ∧ ∀ m, m ≠ address.val * 16 + channel.val → t.entry m = s.entry m := by
  have taken := State.acknowledge_oldest hq (Outstanding.isAt_iff.mpr ⟨ha, hc⟩) fun x hx hit =>
    not_and_or.mpr (h x hx) (Outstanding.isAt_iff.mp hit)
  refine ⟨_, rfl, exec_onlyIn (c := .converterAck address channel) rfl, ?_, ?_, fun m hm => ?_⟩
  · rw [taken]
    rfl
  · rw [taken, State.setConfirmed_entry (by omega)]
    rfl
  · rw [taken, State.setConfirmed_entry_ne hm]
    rfl

theorem converterAck_ignored {address : Fin 4} {channel : Fin 16}
    (h : ∀ x ∈ s.preamp.outstanding, x.command.address ≠ address.val ∨ x.command.channel ≠ channel.val) :
    exec (.converterAck address channel) s = .next s :=
  congrArg _ (State.acknowledge_none fun x hx hit => not_and_or.mpr (h x hx) (Outstanding.isAt_iff.mp hit))

/-- The oldest command leaves unacknowledged at its deadline (R120). -/
theorem ackDeadlineExpiry_due (hq : s.preamp.outstanding = o :: rest) (hl : o.left = 0) (ha : o.command.address < 4)
    (hc : o.command.channel < 16) :
    ∃ t, exec .ackDeadlineExpiry s = .next t ∧ OnlyIn [.preamp, .notices, .counters] s t
      ∧ t.preamp.outstanding = rest ∧ (t.entry (o.command.address * 16 + o.command.channel)).confirmed = false
      ∧ t.counter .converterFaults = min (s.counter .converterFaults + 1) 65535
      ∧ CountersOutside [.converterFaults, .noticesLost] s t := by
  have expired := State.ackExpiry_due (s := s.setRaised []) hq hl
  refine ⟨_, rfl, exec_onlyIn (c := .ackDeadlineExpiry) rfl, ?_, ?_, ?_, fun x hx => ?_⟩
  · rw [State.event_preamp, expired]
    rfl
  · rw [State.event_entry, expired, State.converterFault_entry (by omega)]
  · rw [State.counter_event _ (by decide), expired, State.converterFault_counted]
    rfl
  · simp only [List.mem_cons, List.not_mem_nil, or_false, not_or] at hx
    obtain ⟨hf, hn⟩ := hx
    rw [State.counter_event _ hn, expired, State.converterFault_counter_ne hf]
    rfl

/-! ### The line at the start of a frame (R119) -/

theorem State.nextCommand_reload (h : s.preamp.reload = c :: queue) :
    s.nextCommand = some (c, s.setPreamp { s.preamp with reload := queue }) := by
  simp only [State.nextCommand, h]

theorem State.nextCommand_queue (hr : s.preamp.reload = []) (h : s.preamp.queue = c :: queue) :
    s.nextCommand = some (c, s.setPreamp { s.preamp with queue := queue }) := by
  simp only [State.nextCommand, hr, h]

theorem State.nextCommand_none (hr : s.preamp.reload = []) (h : s.preamp.queue = []) : s.nextCommand = none := by
  simp only [State.nextCommand, hr, h]

/-- Below 48 outstanding commands a transfer only adds its own (R119, R120). -/
theorem State.transfer_room (h : s.preamp.outstanding.length < 48) : s.transfer c = s.setPreamp { s.preamp with
    outstanding := s.preamp.outstanding ++ [⟨c, 48⟩], transfer := some c.word } := by
  simp only [State.transfer, if_neg (Nat.not_le.mpr h)]

theorem State.runLine_transfer {fuel : Nat} (h : s.nextCommand = some (c, t))
    (hc : sfAfter c.apply s.timing.superframe = true) : State.runLine (fuel + 1) s = t.transfer c := by
  simp only [State.runLine, h, hc, if_true]

theorem State.runLine_late {fuel : Nat} (h : s.nextCommand = some (c, t))
    (hc : ¬ sfAfter c.apply s.timing.superframe = true) :
    State.runLine (fuel + 1) s = State.runLine fuel (t.converterFault c 1) := by
  simp only [State.runLine, h, if_neg hc]

theorem State.runLine_end {fuel : Nat} (h : s.nextCommand = none) : State.runLine fuel s = s := by
  cases fuel with
  | zero => rfl
  | succ fuel => simp only [State.runLine, h]

/-- Where no next target waits behind the line, the line is all that happens (R116, R119). -/
theorem State.converterLine_eq (hs : s.isStage = true)
    (h : State.runLine (s.preamp.reload.length + s.preamp.queue.length + 1) s = t) (hn : NoNext t) :
    s.converterLine = t := by
  simp only [State.converterLine, hs, if_true, h, hn.promote, ite_self]

theorem State.converterLine_transfer (hs : s.isStage = true) (hn : NoNext s) (h : s.nextCommand = some (c, t))
    (hc : sfAfter c.apply s.timing.superframe = true) (ht : t.preamp.entries = s.preamp.entries)
    (hl : t.preamp.outstanding.length < 48) : s.converterLine = t.setPreamp { t.preamp with
      outstanding := t.preamp.outstanding ++ [⟨c, 48⟩], transfer := some c.word } :=
  State.converterLine_eq hs ((State.runLine_transfer h hc).trans (State.transfer_room hl)) (hn.of_preamp ht)

/-- A late command alone in the line leaves it untransferred (R119). -/
theorem State.converterLine_late (hs : s.isStage = true) (hn : NoNext s) (hr : s.preamp.reload = [])
    (hq : s.preamp.queue = [c]) (hc : ¬ sfAfter c.apply s.timing.superframe = true) :
    s.converterLine = (s.setPreamp { s.preamp with queue := [] }).converterFault c 1 := by
  refine State.converterLine_eq hs ?_ (NoNext.converterFault (hn.of_preamp rfl) c 1)
  rw [State.runLine_late (State.nextCommand_queue hr hq) hc]
  exact State.runLine_end (State.nextCommand_none hr rfl)

/-! ### The reload pass (R119, R179) -/

/-- The fields of the reload pass: what it has still to send, and that it has started. -/
def Preamp.pass (p : Preamp) : List ConvCommand × Bool := (p.reload, p.reloadStarted)

theorem State.promote_pass : s.promote.preamp.pass = s.preamp.pass := by
  have one (i : Nat) (u : State) : (State.promoteOne i u).preamp.pass = u.preamp.pass := by
    unfold State.promoteOne
    dsimp only
    split
    · split
      · rfl
      · split <;> rfl
    · rfl
  unfold State.promote
  split
  · exact forEach_keeps (p := fun u => u.preamp.pass = s.preamp.pass) (fun i u hu => (one i u).trans hu) 64 rfl
  · rfl

theorem State.applyChange_pass : (s.applyChange n).preamp.pass = s.preamp.pass := by
  unfold State.applyChange State.trimCompensate
  dsimp only
  split
  · split
    · rfl
    · split <;> rfl
  · rfl

theorem State.preampJump_pass : s.preampJump.preamp.pass = s.preamp.pass := by
  have one (i : Nat) (u : State) : (State.jumpChange i u).preamp.pass = u.preamp.pass := by
    unfold State.jumpChange
    dsimp only
    split
    · split_ifs
      · rfl
      · exact State.applyChange_pass
      · exact Eq.trans rfl State.applyChange_pass
    · rfl
  have changes : (forEach 64 State.jumpChange s).preamp.pass = s.preamp.pass :=
    forEach_keeps (p := fun u => u.preamp.pass = s.preamp.pass) (fun i u hu => (one i u).trans hu) 64 rfl
  unfold State.preampJump
  dsimp only
  split
  · split
    · rw [State.promote_pass, changes]
    · exact changes
  · rfl

/-- What follows the taking of what is due leaves the pass as that left it. -/
theorem State.jump_pass (superframe frame : Nat) : (s.jump superframe frame).preamp.pass = s.reached.preamp.pass := by
  have between : OnlyIn [.service, .counters, .timing, .members, .present, .plan, .notices] s.reached
      ((((s.reached.laneJump superframe frame).setNumbers superframe frame).presentJump).swapJump
        s.reached.timing.superframe) := by simp
  have track (u : State) : u.trackJump.preamp = u.preamp := OnlyIn.at (l := [.tracking]) (by simp) .preamp (by decide)
  have strobe (u : State) : u.pulseStrobe.preamp.pass = u.preamp.pass := by
    unfold State.pulseStrobe
    split <;> rfl
  have passed := State.preampJump_pass.trans (congrArg Preamp.pass (between.at .preamp (by decide)))
  unfold State.jump
  dsimp only
  split
  · rw [strobe, track, passed]
  · rw [track, passed]

theorem State.reloadDue_iff : s.reloadDue = true ↔ s.isStage = true ∧ s.preamp.reloadStarted = false
    ∧ s.timing.running = true ∧ s.id ≠ 0 ∧ s.timing.superframe = 64 ∧ s.timing.clock = .holdover := by
  simp [State.reloadDue, and_assoc]

theorem State.reloadTimeout_due (h : s.reloadDue = true) : s.reloadTimeout = s.setPreamp { s.preamp with
    reload := s.reloadPass 68, reloadStarted := true } := by
  obtain ⟨stage, fresh, -⟩ := State.reloadDue_iff.mp h
  simp only [State.reloadTimeout, h, State.startupReload, stage, fresh, Bool.not_false, Bool.and_self, if_true]
  rfl

/-- A pass that has started is not started again by the lock of the clock (R179). -/
theorem State.startupReload_started (h : s.preamp.reloadStarted = true) : s.startupReload a = s := by
  simp [State.startupReload, h]

theorem State.setClock_preamp (x : ClockState) : (s.setClock x).preamp = s.preamp :=
  OnlyIn.at (l := [.timing, .notices, .counters]) (by simp) .preamp (by decide)

theorem State.clockLock_pass {h : Header} (started : (s.loadCounters h).preamp.reloadStarted = true) :
    (s.clockLock h).preamp = (s.loadCounters h).preamp := by
  unfold State.clockLock
  dsimp only
  split
  · rfl
  · rw [State.startupReload_started (by rw [State.setClock_preamp, started]), State.setClock_preamp]

/-- A load with the local numbers, or from outside frame 0, takes no more of what is due than the pass of superframe 64. -/
theorem State.loadCounters_pass {h : Header}
    (hh : (h.superframe = s.timing.superframe ∧ h.frame = s.timing.frame) ∨ s.timing.frame ≠ 0) :
    (s.loadCounters h).preamp.pass = s.reloadTimeout.preamp.pass := by
  unfold State.loadCounters
  split
  · rfl
  · next moved =>
    rcases hh with ⟨hs, hf⟩ | hf
    · exact absurd ⟨hs.symm, hf.symm⟩ moved
    · rw [State.jump_pass, State.reached_of_frame hf]

/-- RELOAD_PASS_TIMEOUT where it stands due, and a load that finds it so (R179). -/
theorem reloadPassTimeout_due (h : s.reloadDue = true) :
    ∃ t, exec .reloadPassTimeout s = .next t
      ∧ t.preamp = { s.preamp with reload := s.reloadPass 68, reloadStarted := true } ∧ OnlyIn [.preamp] s t
      ∧ ∀ x : Header, (x.superframe = s.timing.superframe ∧ x.frame = s.timing.frame) ∨ s.timing.frame ≠ 0 →
          (s.clockLock x).preamp.reload = t.preamp.reload ∧ (s.clockLock x).preamp.reloadStarted = true := by
  have due := State.reloadTimeout_due h
  refine ⟨_, rfl, congrArg State.preamp due, exec_onlyIn (c := .reloadPassTimeout) rfl, fun x hx => ?_⟩
  have loaded := State.loadCounters_pass hx
  have started : (s.loadCounters x).preamp.reloadStarted = true :=
    (congrArg Prod.snd loaded).trans (congrArg (fun u => u.preamp.reloadStarted) due)
  rw [State.clockLock_pass started]
  exact ⟨congrArg Prod.fst loaded, started⟩

/-! ### O28 -/

/-- Settles O28, from the acknowledgement, the deadline, the line's transfer and late command, and the pass. -/
theorem converterAnswers : Obligations.ConverterAnswers := by
  refine ⟨fun a ch s q rest o hq ha hc h => converterAck_matched hq ha hc h, fun a ch s h => converterAck_ignored h,
    fun s o rest hq => ⟨ackDeadlineExpiry_due hq, fun hl => ?_⟩, fun s c queue hs hl hn => ?_, fun s hs hr ht hi hf hc => ?_⟩
  · exact congrArg _ (State.event_idle (State.ackExpiry_idle (s := s.setRaised []) hq hl))
  · intro ahead t
    refine ⟨fun h₁ h₂ => ?_, fun late hr hq ha hc => ?_⟩
    · have after : sfAfter c.apply s.timing.superframe = true := sfAfter_iff.mpr ⟨h₁, h₂⟩
      exact ⟨fun hr => State.converterLine_transfer hs hn (State.nextCommand_reload hr) after rfl hl,
        fun hr hq => State.converterLine_transfer hs hn (State.nextCommand_queue hr hq) after rfl hl⟩
    · have passed : ¬ sfAfter c.apply s.timing.superframe = true := fun k => by
        have h : 1 ≤ ahead ∧ ahead < 32768 := sfAfter_iff.mp k
        omega
      have left : t = _ := State.converterLine_late hs hn hr hq passed
      rw [left]
      exact ⟨by simp, rfl, rfl, rfl, State.converterFault_entry (by omega), State.converterFault_counted, _, rfl⟩
  · have due := reloadPassTimeout_due (State.reloadDue_iff.mpr ⟨hs, hr, ht, hi, hf, hc⟩)
    rw [hf] at due
    exact due

end Sys2Proof.Machine
end

section
/-! Compensations that are due go into the tracking table, at a boundary and at a jump; settled for O24 (R131, R132). -/

namespace Sys2Proof.Machine

variable {s t : State} {p q : ScheduleEntry → Bool}

/-- What applied by one test of the entries applied by any test that says the same of each. -/
theorem ScheduleApplied.congr (h : ScheduleApplied s t p) (e : ∀ x, p x = q x) : ScheduleApplied s t q := by
  rwa [← funext e]

/-- The capture frame of a schedule entry is frame 0 of its superframe. -/
theorem globalCount_zero (n : Nat) : globalCount n 0 = n * 48 % 3145728 := rfl

/-- Settles O24: both commands apply the entries that stand due, and their tests are those of R131 and R132. -/
theorem trackingApplies : Obligations.TrackingApplies := by
  refine ⟨fun s running => ?_, fun s => ⟨by simp, (State.applyEntries_applied _).congr fun _ => rfl⟩⟩
  have taken : exec .trackingApply s = .next (s.trackTo s.comingCapture) := congrArg _ (if_pos running)
  refine ⟨_, taken, by simp, (State.applyEntries_applied _).congr fun x => ?_⟩
  simp only [gfAtOrAfter, globalCount_zero, Nat.mod_mod]

end Sys2Proof.Machine
end

section
/-! STEP cells: their records, and the compensation of each scheduled or applied at once; settled for O48 (R129, R130, R133,
R183). -/

namespace Sys2Proof.Machine

variable {s t : State} {c : Cell} {x : ScheduleEntry} {rest : List Cell} {r : Raised} {n : Nat}

/-! ### The records of a cell (R183, R186) -/

/-- The five payload bytes that the first step record of a cell takes. -/
def Cell.firstRecord (c : Cell) : List Byte := (c.counted.drop 1).take 5

theorem Cell.counted_length : c.counted.length = min c.length 16 := by
  rw [Cell.counted, List.length_take, c.payload.length_eq]

/-- A Length below 6 holds no whole record. -/
theorem Cell.stepRecords_none (h : c.length < 6) : c.stepRecords = [] := by
  have held : min (byteAt c.counted 0).toNat (min ((c.counted.length - 1) / 5) 3) = 0 := by
    have short : (c.counted.length - 1) / 5 = 0 := by
      rw [Cell.counted_length]
      omega
    rw [short]
    omega
  rw [Cell.stepRecords, held]
  rfl

/-- The bytes counted are those of the payload, as far as the Length goes. -/
theorem Cell.byteAt_counted (h : n < c.length) : byteAt c.counted n = byteAt c.payload.toList n := by
  simp [byteAt, Cell.counted, h]

/-- A cell that says it holds one record and has the Length for it holds that one. -/
theorem Cell.stepRecords_one (h : c.arg 0 = 1) (hl : 6 ≤ c.length) : c.stepRecords = [c.firstRecord] := by
  have len : 6 ≤ c.counted.length := by
    rw [Cell.counted_length]
    omega
  have said : (byteAt c.counted 0).toNat = 1 := by
    rw [Cell.byteAt_counted (by omega)]
    exact h
  have held : min (byteAt c.counted 0).toNat (min ((c.counted.length - 1) / 5) 3) = 1 := by
    rw [said]
    omega
  rw [Cell.stepRecords, held, pieces, if_neg (by rw [List.length_drop]; omega)]
  rfl

theorem Cell.byteAt_firstRecord (hl : 6 ≤ c.length) (hn : n < 5) :
    byteAt c.firstRecord n = byteAt c.payload.toList (1 + n) := by
  rw [← Cell.byteAt_counted (c := c) (n := 1 + n) (by omega), ← byteAt_drop]
  simp [byteAt, Cell.firstRecord, hn]

/-! ### A record (R129) -/

/-- The difference that the first record of a STEP cell carries. -/
def Cell.stepDelta (c : Cell) : Int := (byteAt c.payload.toList 2).toInt

/-- The compensation that the first record of a STEP cell asks for. -/
def Cell.stepEntry (c : Cell) : ScheduleEntry := ⟨c.origin, c.arg 1, -4 * c.stepDelta, c.arg16 3⟩

/-- The first record is skipped for one of the reasons of R129, or its compensation is taken. -/
theorem State.takeRecord_first (hl : 6 ≤ c.length) : s.takeRecord c.origin c.firstRecord =
    if 63 < c.arg 1 ∨ c.stepDelta = 0 ∨ c.stepDelta < -56 ∨ 56 < c.stepDelta ∨ c.arg 5 = s.party then s
    else s.takeCompensation c.stepEntry := by
  have read := fun i (hi : i < 5) => Cell.byteAt_firstRecord (c := c) (n := i) hl hi
  simp only [State.takeRecord, wordAt, read 0 (by decide), read 1 (by decide), read 2 (by decide), read 3 (by decide),
    read 4 (by decide)]
  rfl

theorem insertEntry_perm (q : List ScheduleEntry) : (insertEntry x q).Perm (x :: q) := by
  induction q with
  | nil => exact .refl _
  | cons y q ih =>
    unfold insertEntry
    split
    · exact (ih.cons y).trans (.swap x y q)
    · exact .refl _

/-! ### A compensation taken (R129, R130, R133) -/

/-- The frames that a compensation's capture frame lies ahead of the one last presented. -/
def State.framesAhead (s : State) (x : ScheduleEntry) : Nat := gfDistance s.present.lastCapture (globalCount x.apply 0)

/-- A compensation's capture frame is already presented. -/
def State.presented (s : State) (x : ScheduleEntry) : Bool := gfAtOrAfter s.present.lastCapture (globalCount x.apply 0)

/-- A frame 1 to 232 ahead is not presented yet (section 2.2). -/
theorem State.not_presented (h₁ : 1 ≤ s.framesAhead x) (h₂ : s.framesAhead x ≤ 232) : ¬ s.presented x = true := by
  simp only [State.framesAhead, gfDistance, State.presented, gfAtOrAfter, decide_eq_true_eq] at *
  omega

theorem State.takeCompensation_scheduled (h₁ : 1 ≤ s.framesAhead x) (h₂ : s.framesAhead x ≤ 232)
    (room : s.tracking.schedule.length < 32) : s.takeCompensation x =
      s.setTracking { s.tracking with schedule := insertEntry x s.tracking.schedule } := by
  have future := State.not_presented h₁ h₂
  unfold State.presented at future
  unfold State.framesAhead at h₂
  rw [State.takeCompensation, if_neg future, if_neg (by omega), if_neg (by omega)]

/-- The cause of a compensation applied at once: LATE, RANGE or FULL (R133). -/
def State.lateCause (s : State) (x : ScheduleEntry) : Nat :=
  if s.presented x = true then 0 else if 232 < s.framesAhead x then 1 else 2

theorem State.takeCompensation_late
    (h : s.presented x = true ∨ 232 < s.framesAhead x ∨ 32 ≤ s.tracking.schedule.length) :
    s.takeCompensation x = s.compensateLate x (s.lateCause x) := by
  unfold State.takeCompensation State.lateCause
  by_cases late : s.presented x = true
  · rw [if_pos late]
    exact if_pos late
  rw [if_neg late]
  refine (if_neg late).trans ?_
  by_cases far : 232 < s.framesAhead x
  · rw [if_pos far]
    exact if_pos far
  rw [if_neg far]
  refine (if_neg far).trans (if_pos ?_)
  tauto

theorem State.compensateLate_counter (k : Nat) (y : CounterId) : (s.compensateLate x k).counter y =
    if y = .lateCompensations then min (s.counter .lateCompensations + 1) 65535 else s.counter y := by
  split
  · next e =>
    subst e
    exact State.counter_bump_same (s := s.compensate x.stage x.input x.amount) .lateCompensations
  · next e => exact State.counter_bump_ne (s := s.compensate x.stage x.input x.amount) e

/-- The detail of a STEP_LATE notice begins with its cause. -/
theorem State.compensateLate_raised (k : Nat) :
    ∃ d, (s.compensateLate x k).raised = s.raised ++ [⟨.stepLate, x.place, byte k :: d⟩] := ⟨_, rfl⟩

/-- Which notices wait after one is taken does not hang on the counters. -/
theorem State.intake_notices (hn : t.notices = s.notices) (hm : t.sets = s.sets) :
    (t.intake r).notices = (s.intake r).notices := by
  have he : t.noticeEnabled r.kind = s.noticeEnabled r.kind := by simp only [State.noticeEnabled, hm]
  unfold State.intake
  rw [he, hn]
  split_ifs
  · exact hn
  · rfl
  · rfl
  · rfl
  · exact hn

/-! ### The cell executed (R93, R129) -/

/-- The state whose STEP cell has left the work queue, in the event that executes it. -/
def State.stepTaken (s : State) (rest : List Cell) : State :=
  (s.setRaised []).setService { s.service with work := rest }

/-- A STEP cell from a STAGE node leaves the work queue, and its records are treated in turn. -/
theorem State.runStep_taken (hw : s.service.work = c :: rest) (hk : c.kind? = some .step)
    (hr : (s.reachOf c.origin).role = some .stage) (hu : (s.reachOf c.origin).state ≠ .unknown) :
    (s.setRaised []).runStep = c.stepRecords.foldl (fun u b => u.takeRecord c.origin b) (s.stepTaken rest) := by
  have head : (s.setRaised []).service.work = c :: rest := hw
  have known : (s.stepTaken rest).takesStepsOf c.origin = true := by
    simp only [State.takesStepsOf, Bool.and_eq_true, beq_iff_eq, bne_iff_ne]
    exact ⟨hr, hu⟩
  unfold State.runStep
  rw [head]
  dsimp only
  rw [if_pos hk]
  exact if_pos known

/-- A cell whose records raise nothing is its records' doings alone. -/
theorem State.event_runStep {k : Tracking} (h : (s.setRaised []).runStep = (s.stepTaken rest).setTracking k) :
    s.event State.runStep = (s.setService { s.service with work := rest }).setTracking k := by
  rw [State.event_quiet (by rw [h]; rfl), h]
  rfl

/-- A cell whose record is applied at once ends with the notice of it. -/
theorem State.event_runStep_late {k : Nat} (h : (s.setRaised []).runStep = (s.stepTaken rest).compensateLate x k) :
    ∃ d, s.event State.runStep = (((s.stepTaken rest).compensateLate x k).intake ⟨.stepLate, x.place, byte k :: d⟩).setRaised
      s.raised := by
  obtain ⟨d, raised⟩ := State.compensateLate_raised (s := s.stepTaken rest) (x := x) k
  exact ⟨d, by rw [State.event_one (by rw [h]; exact raised), h]⟩

/-- The treatment of the records leaves the queues and the party as they are. -/
theorem takeRecords_onlyIn (stage : NodeId) (q : List (List Byte)) :
    OnlyIn [.tracking, .notices, .counters] s (q.foldl (fun u b => u.takeRecord stage b) s) := by
  rw [OnlyIn.foldl _ (by intro u b; simp)]
  exact .refl

/-- Settles O48: the cell holds its one record or none, which is skipped, scheduled or applied at once. -/
theorem stepCellsTaken : Obligations.StepCellsTaken := by
  intro s c rest hw hk hr hu h1 late delta ahead
  have run := State.runStep_taken hw hk hr hu
  have frame : globalCount (c.arg16 3) 0 = c.arg16 3 * 48 :=
    Nat.mod_eq_of_lt (by have := wordAt_lt c.payload.toList 3; unfold Cell.arg16; omega)
  have ahead_eq : (s.stepTaken rest).framesAhead c.stepEntry = ahead := congrArg (gfDistance s.present.lastCapture) frame
  have late_iff : (s.stepTaken rest).presented c.stepEntry = true ↔ late := by
    show gfAtOrAfter s.present.lastCapture (globalCount (c.arg16 3) 0) = true ↔ _
    rw [gfAtOrAfter, frame, decide_eq_true_eq]
  have one (hl : 6 ≤ c.length) := run.trans (by
    rw [Cell.stepRecords_one h1 hl, List.foldl_cons, List.foldl_nil, State.takeRecord_first hl])
  have taken (hl : 6 ≤ c.length) (hi : c.arg 1 ≤ 63) (h0 : delta ≠ 0) (hlo : -56 ≤ delta) (hhi : delta ≤ 56)
      (hp : c.arg 5 ≠ s.party) : (s.setRaised []).runStep = (s.stepTaken rest).takeCompensation c.stepEntry := by
    refine (one hl).trans (if_neg ?_)
    rintro (k | k | k | k | k)
    · omega
    · exact h0 k
    · exact absurd k (Int.not_lt.mpr hlo)
    · exact absurd k (Int.not_lt.mpr hhi)
    · exact hp k
  refine ⟨_, rfl, exec_onlyIn (c := .step) rfl, ?_, fun skip => ?_, fun hl hi h0 hlo hhi hp h₁ h₂ room => ?_,
    fun hl hi h0 hlo hhi hp cause => ?_⟩
  · rw [State.event_service, run, (takeRecords_onlyIn c.origin c.stepRecords).at .service (by decide)]
    rfl
  · have idle : (s.setRaised []).runStep = s.stepTaken rest := by
      by_cases hl : 6 ≤ c.length
      · refine (one hl).trans (if_pos ?_)
        exact .inr (.inr (.inr (.inr (skip.resolve_right (by omega)))))
      · rw [run, Cell.stepRecords_none (by omega)]
        rfl
    rw [State.event_runStep (k := s.tracking) (rest := rest) idle]
    exact show OnlyIn [.service] s (s.setService { s.service with work := rest }) by simp
  · rw [← ahead_eq] at h₁ h₂
    have scheduled := (taken hl hi h0 hlo hhi hp).trans (State.takeCompensation_scheduled h₁ h₂ room)
    rw [State.event_runStep scheduled]
    exact ⟨by simp, rfl, rfl, insertEntry_perm _⟩
  · intro k why
    rw [← late_iff, ← ahead_eq] at cause
    have applied := (taken hl hi h0 hlo hhi hp).trans (State.takeCompensation_late cause)
    have why_eq : byte ((s.stepTaken rest).lateCause c.stepEntry) = why := by
      simp only [State.lateCause, late_iff, ahead_eq, why]
      split_ifs <;> rfl
    obtain ⟨d, ended⟩ := State.event_runStep_late applied
    rw [why_eq] at ended
    have tracking : (s.event State.runStep).tracking = ((s.stepTaken rest).compensateBy c.stepEntry).tracking :=
      State.event_tracking _ |>.trans (by rw [applied]; rfl)
    have place : c.stepEntry.place = k := rfl
    have inside : k < 256 := by have := c.origin.isLt; omega
    have counter (y : CounterId) (hy : y ≠ .noticesLost) := (State.counter_event State.runStep hy).trans
      (congrArg (State.counter · y) applied |>.trans (State.compensateLate_counter _ y))
    refine ⟨by rw [tracking]; rfl, by rw [tracking]; rfl, ?_, fun j hj => ?_, ?_, fun y hy => ?_, d, ?_⟩
    · rw [tracking, State.compensateBy_same inside place, addTrim_eq]
      have amount : s.tracking.table.get k + -4 * delta = s.tracking.table.get k - 4 * delta := by omega
      exact congrArg (fun a => max (-128) (min a 127)) amount
    · rw [tracking, State.compensateBy_ne (place ▸ hj.symm)]
      rfl
    · exact (counter _ (by decide)).trans (if_pos rfl)
    · simp only [List.mem_cons, List.not_mem_nil, or_false, not_or] at hy
      exact (counter y hy.2).trans (if_neg hy.1)
    · rw [ended, place]
      exact State.intake_notices rfl rfl

end Sys2Proof.Machine
end

section
/-! Four times the effective steps of an input plus its stage trim, and the law of its pending change: what a change applied,
created or discarded makes of them (R113 to R118, R125). -/

namespace Sys2Proof.Machine

variable {t u : State} {E : Prop} {due soon : Nat → Prop} {n party superframe : Nat} {level : Int}
  {c : PendingChange} {e : PreampEntry} {x y : PreampEntry × Int}

/-! ### One input (R125) -/

/-- What of a preamp entry a gain change concerns. -/
structure Setting where
  gain : Gain
  pending : Option PendingChange
  next : Option NextTarget
  trimLimit : Bool

def PreampEntry.setting (e : PreampEntry) : Setting := ⟨e.gain, e.pending, e.next, e.trimLimit⟩

/-- An input at a node of this party in this superframe: the law of its pending change holds, and its level is the given one
while its trim-limit flag is clear, unless E excuses it. E stands wherever a change that exempts this party may still apply: one
pending for a superframe that is due, or a next target while a change created now would be for such a one. -/
structure InputHeld (E : Prop) (due : Nat → Prop) (party superframe : Nat) (level : Int) (x : PreampEntry × Int) : Prop where
  delta : ∀ c, x.1.pending = some c → c.delta = c.target.effective - x.1.gain.effective
  level : x.1.trimLimit = false → 4 * x.1.gain.effective + x.2 = level ∨ E
  pending : ∀ c, x.1.pending = some c → due c.apply → party = c.exempt.val → E
  next : ∀ w, x.1.next = some w → due (sfAdd superframe 4) → party = w.requester.val → E

theorem InputHeld.of_setting {later : Nat} (h : InputHeld E due party superframe level x) (hx : y.1.setting = x.1.setting)
    (ht : y.2 = x.2) (hd : due (sfAdd later 4) → due (sfAdd superframe 4)) : InputHeld E due party later level y := by
  have gain : y.1.gain = x.1.gain := congrArg Setting.gain hx
  have pending : y.1.pending = x.1.pending := congrArg Setting.pending hx
  have next : y.1.next = x.1.next := congrArg Setting.next hx
  have limit : y.1.trimLimit = x.1.trimLimit := congrArg Setting.trimLimit hx
  refine ⟨?_, ?_, ?_, fun w hw d => ?_⟩
  · rw [gain, pending]; exact h.delta
  · rw [gain, limit, ht]; exact h.level
  · rw [pending]; exact h.pending
  · exact h.next w (next ▸ hw) (hd d)

/-- Fewer superframes may be due. -/
theorem InputHeld.mono (h : InputHeld E due party superframe level x) (hd : ∀ a, soon a → due a) :
    InputHeld E soon party superframe level x :=
  ⟨h.delta, h.level, fun c hc d => h.pending c hc (hd _ d), fun w hw d => h.next w hw (hd _ d)⟩

/-- A change that applies keeps the level by the trim's answer, unless it exempts the party (R117, R125). -/
theorem InputHeld.applied (h : InputHeld E due party superframe level x) (hc : x.1.pending = some c) (hd : due c.apply) :
    InputHeld E due party superframe level (c.applied party x) := by
  have entry := PendingChange.applied_entry (c := c) (party := party) (x := x)
  have gain : (c.applied party x).1.gain = c.target := by rw [entry]
  have pending : (c.applied party x).1.pending = none := by rw [entry]
  have next : (c.applied party x).1.next = x.1.next := by rw [entry]
  have delta := h.delta c hc
  refine ⟨fun d k => ?_, fun clear => ?_, fun d k => ?_, fun w k => h.next w (next ▸ k)⟩
  · rw [pending] at k
    cases k
  · by_cases exempt : party = c.exempt.val
    · exact .inr (h.pending c hc hd exempt)
    rw [gain]
    by_cases zero : c.delta = 0
    · obtain ⟨limit, trim⟩ := c.applied_exempt (x := x) (party := party) (.inr zero)
      rw [limit] at clear
      rw [trim]
      exact (h.level clear).imp_left fun k => by omega
    · obtain ⟨limit, trim⟩ := c.applied_answered (x := x) (not_or.mpr ⟨exempt, zero⟩)
      rw [limit, Bool.or_eq_false_iff, decide_eq_false_iff_not] at clear
      obtain ⟨clear, inside⟩ := clear
      rw [trim]
      exact (h.level clear).imp_left fun k => by omega
  · rw [pending] at k
    cases k

/-- A next target that leaves takes nothing with it (R116). -/
theorem InputHeld.nextLeft (h : InputHeld E due party superframe level x) :
    InputHeld E due party superframe level ({ x.1 with next := none }, x.2) :=
  ⟨h.delta, h.level, h.pending, nofun⟩

/-- A change created now is for four superframes ahead, from the gain that stands (R113, R114). -/
theorem InputHeld.created (h : InputHeld E due party superframe level x) {g : Gain} {who : NodeId}
    (hw : due (sfAdd superframe 4) → party = who.val → E) : InputHeld E due party superframe level
      ({ x.1 with pending := some ⟨g, g.effective - x.1.gain.effective, sfAdd superframe 4, who⟩ }, x.2) := by
  refine ⟨fun c k => ?_, h.level, fun c k => ?_, h.next⟩
  all_goals
    cases k
  · rfl
  · exact hw

/-! ### An input of the node -/

/-- Input n is held to this level at the node, whose party is the given one. -/
structure LevelHeld (E : Prop) (due : Nat → Prop) (n party : Nat) (level : Int) (t : State) : Prop where
  party_eq : t.party = party
  input : InputHeld E due party t.timing.superframe level (t.input n)

/-- No change is due any more: what is known of the level is final. -/
def never : Nat → Prop := fun _ => False

/-- Every group but the straps and settings, which give the party, the timing, and the two groups of the inputs. -/
def groupsButInputs : List Group := [.portE, .portW, .ring, .members, .service, .plan, .present, .checker, .audio, .buses, .talk,
  .lines, .notices, .counters, .image, .pending]

/-- Every group but the straps, the settings and the timing. -/
def groupsButParty : List Group := .preamp :: .tracking :: groupsButInputs

theorem LevelHeld.mono (h : LevelHeld E due n party level t) (hd : ∀ a, soon a → due a) : LevelHeld E soon n party level t :=
  ⟨h.party_eq, h.input.mono hd⟩

theorem LevelHeld.final (h : LevelHeld E due n party level t) : LevelHeld E never n party level t := h.mono nofun

/-- A step of the numbers, and whatever leaves setting and trim of the input. -/
theorem LevelHeld.of_timing (h : LevelHeld E due n party level t) (o : OnlyIn (.timing :: groupsButParty) t u)
    (he : (u.entry n).setting = (t.entry n).setting) (ht : u.tracking.strim.get n = t.tracking.strim.get n)
    (hd : due (sfAdd u.timing.superframe 4) → due (sfAdd t.timing.superframe 4)) : LevelHeld E due n party level u :=
  ⟨(o.party_eq (by decide) (by decide)).trans h.party_eq, h.input.of_setting he ht hd⟩

/-- What makes of the input one that is held as before. -/
theorem LevelHeld.of_input (h : LevelHeld E due n party level t) (o : OnlyIn groupsButParty t u)
    (hx : InputHeld E due party t.timing.superframe level (u.input n)) : LevelHeld E due n party level u :=
  ⟨(o.party_eq (by decide) (by decide)).trans h.party_eq, by
    rwa [show u.timing = t.timing from o.at .timing (by decide)]⟩

theorem LevelHeld.of_same (h : LevelHeld E due n party level t) (o : OnlyIn groupsButParty t u) (e : u.input n = t.input n) :
    LevelHeld E due n party level u := h.of_input o (e ▸ h.input)

/-- What touches none of the groups that the level lies in. -/
theorem LevelHeld.of_onlyIn (h : LevelHeld E due n party level t) (o : OnlyIn groupsButInputs t u) :
    LevelHeld E due n party level u :=
  h.of_same (o.mono (by decide)) (o.input_eq (by decide) (by decide))

/-- Once no change is due, the timing does not matter either. -/
theorem LevelHeld.final_onlyIn (h : LevelHeld E never n party level t) (o : OnlyIn (.timing :: groupsButInputs) t u) :
    LevelHeld E never n party level u :=
  h.of_timing (o.mono (by decide)) (by rw [o.entry_eq (by decide)])
    (by rw [show u.tracking = t.tracking from o.at .tracking (by decide)]) nofun

theorem LevelHeld.event (h : LevelHeld E due n party level t) {f : State → State}
    (hf : LevelHeld E due n party level (t.setRaised []) → LevelHeld E due n party level (f (t.setRaised []))) :
    LevelHeld E due n party level (t.event f) :=
  (hf (h.of_onlyIn (by simp [groupsButInputs]))).of_onlyIn ((State.event_only f).mono (by decide))

theorem LevelHeld.forEach (h : LevelHeld E due n party level t) {f : Nat → State → State} (k : Nat)
    (hf : ∀ i u, LevelHeld E due n party level u → LevelHeld E due n party level (f i u)) :
    LevelHeld E due n party level (forEach k f t) := forEach_keeps hf k h

theorem LevelHeld.foldl {α : Type} (h : LevelHeld E due n party level t) {f : State → α → State} (q : List α)
    (hf : ∀ u a, LevelHeld E due n party level u → LevelHeld E due n party level (f u a)) :
    LevelHeld E due n party level (q.foldl f t) := foldl_keeps hf q h

/-- The preamp table stays, whatever becomes of the converter's queues. -/
theorem LevelHeld.setPreamp (h : LevelHeld E due n party level t) {p : Preamp} (hp : p.entries = t.preamp.entries) :
    LevelHeld E due n party level (t.setPreamp p) :=
  h.of_same (by simp [groupsButParty]) (by simp only [State.input, State.entry, State.setPreamp_preamp, hp]; rfl)

/-- The stage trims stay, whatever becomes of the tracking table and its schedule. -/
theorem LevelHeld.setTracking (h : LevelHeld E due n party level t) {p : Tracking} (hp : p.strim = t.tracking.strim) :
    LevelHeld E due n party level (t.setTracking p) :=
  h.of_same (by simp [groupsButParty]) (by simp only [State.input, State.entry, State.setTracking_tracking, hp]; rfl)

/-- An entry written that has the setting that stood there. -/
theorem LevelHeld.setEntry (h : LevelHeld E due n party level t) {i : Nat} (he : e.setting = (t.entry i).setting) :
    LevelHeld E due n party level (t.setEntry i e) := by
  refine h.of_timing (by simp [groupsButParty]) ?_ rfl id
  rcases Nat.lt_or_ge i 64 with hi | hi
  · rw [State.setEntry_entry hi]
    split
    · next k => rw [← k, he]
    · rfl
  · rw [State.setEntry, State.entry, State.setPreamp_preamp, Tab.put_beyond _ _ hi]
    rfl

/-! ### Ownership (R110 to R112) -/

theorem LevelHeld.setOwner (h : LevelHeld E due n party level t) (i o st g cause) :
    LevelHeld E due n party level (t.setOwner i o st g cause) :=
  LevelHeld.of_onlyIn (h.setEntry (e := { t.entry i with owner := o, ownerState := st, grace := g }) rfl)
    (by simp [State.setOwner, groupsButInputs])

theorem LevelHeld.graceExpiry (h : LevelHeld E due n party level t) (i : Nat) :
    LevelHeld E due n party level (t.graceExpiry i) := by
  unfold State.graceExpiry
  split
  · exact h.setOwner _ _ _ _ _
  · exact h

theorem LevelHeld.ownerLost (h : LevelHeld E due n party level t) (node : NodeId) :
    LevelHeld E due n party level (t.ownerLost node) :=
  h.forEach 64 fun i u hu => by
    dsimp only
    (repeat' split) <;> first | exact hu.setOwner _ _ _ _ _ | exact hu

theorem LevelHeld.ownerBack (h : LevelHeld E due n party level t) (node : NodeId) :
    LevelHeld E due n party level (t.ownerBack node) :=
  h.forEach 64 fun i u hu => by
    dsimp only
    split <;> first | exact hu.setOwner _ _ _ _ _ | exact hu

theorem LevelHeld.ownerDemoted (h : LevelHeld E due n party level t) (node : NodeId) :
    LevelHeld E due n party level (t.ownerDemoted node) :=
  h.forEach 64 fun i u hu => by
    split <;> first | exact hu.setOwner _ _ _ _ _ | exact hu

/-! ### Gain changes (R113 to R118) -/

/-- A change created for any input, where E excuses it as far as it may still apply. -/
theorem LevelHeld.createChange (h : LevelHeld E due n party level t) (hn : n < 64) {i : Nat} {g : Gain} {who : NodeId}
    (hw : n = i → due (sfAdd t.timing.superframe 4) → party = who.val → E) :
    LevelHeld E due n party level (t.createChange i g who) := by
  refine h.of_input (by simp [groupsButParty, groupsButInputs]) ?_
  by_cases k : n = i
  · subst k
    rw [State.input, State.createChange_entry hn]
    exact h.input.created (hw rfl)
  · rw [State.input, State.createChange_entry_ne k]
    exact h.input

/-- A next target examined: it stays, leaves, or becomes the pending change (R116). -/
theorem LevelHeld.promoteOne (h : LevelHeld E due n party level t) (hn : n < 64) (i : Nat) :
    LevelHeld E due n party level (State.promoteOne i t) := by
  by_cases k : n = i
  swap
  · exact h.of_same (by simp [groupsButParty, groupsButInputs]) (State.promoteOne_input_ne k)
  subst k
  have left : LevelHeld E due n party level (t.setEntry n { t.entry n with next := none }) :=
    h.of_input (by simp [groupsButParty]) (by rw [State.setEntry_input hn]; exact h.input.nextLeft)
  unfold State.promoteOne
  dsimp only
  split
  · next w hw _ =>
    split
    · exact left.of_onlyIn (by simp [groupsButInputs])
    · split
      · exact left.createChange hn fun _ => h.input.next w hw
      · exact h
  · exact h

theorem LevelHeld.promote (h : LevelHeld E due n party level t) (hn : n < 64) : LevelHeld E due n party level t.promote := by
  unfold State.promote
  split
  · exact h.forEach 64 fun i u hu => hu.promoteOne hn i
  · exact h

/-- A change of any input that is due applies (R117, R125). -/
theorem LevelHeld.applyChange (h : LevelHeld E due n party level t) (hn : n < 64) {i : Nat}
    (hd : ∀ c, (t.entry i).pending = some c → due c.apply) : LevelHeld E due n party level (t.applyChange i) := by
  refine h.of_input (by simp [groupsButParty]) ?_
  by_cases k : n = i
  swap
  · rw [State.applyChange_input_ne k]
    exact h.input
  subst k
  cases hp : (t.entry n).pending with
  | none =>
    simp only [State.applyChange, hp]
    exact h.input
  | some c =>
    rw [State.applyChange_input hn hp, h.party_eq]
    exact h.input.applied hp (hd c hp)

theorem LevelHeld.changeNow (h : LevelHeld E due n party level t) (hn : n < 64) (hd : due t.timing.superframe) (i : Nat) :
    LevelHeld E due n party level (t.changeNow i) := by
  unfold State.changeNow
  split
  · next k =>
    refine (h.applyChange hn fun c hc => ?_).promote hn
    rw [((State.changeDue_iff hc).mp k).2]
    exact hd
  · exact h

/-- Every input in turn, by operations that leave the timing they go by. -/
theorem LevelHeld.inputs (h : LevelHeld E due n party level t) {P : Timing → Prop} {f : Nat → State → State} (hp : P t.timing)
    (ht : ∀ i u, (f i u).timing = u.timing)
    (hf : ∀ i u, P u.timing → LevelHeld E due n party level u → LevelHeld E due n party level (f i u)) :
    LevelHeld E due n party level (Machine.forEach 64 f t) :=
  (forEach_keeps (p := fun u => LevelHeld E due n party level u ∧ P u.timing)
    (fun i u ⟨hu, k⟩ => ⟨hf i u k hu, by rwa [ht i u]⟩) 64 ⟨h, hp⟩).1

theorem LevelHeld.setConfirmed (h : LevelHeld E due n party level t) (i : Nat) (b : Bool) :
    LevelHeld E due n party level (t.setConfirmed i b) := h.setEntry (e := { t.entry i with confirmed := b }) rfl

theorem LevelHeld.converterFault (h : LevelHeld E due n party level t) (c : ConvCommand) (cause : Nat) :
    LevelHeld E due n party level (t.converterFault c cause) :=
  (h.setConfirmed (c.address * 16 + c.channel) false).of_onlyIn (by simp [State.converterFault, groupsButInputs])

/-- The changes that a jump does not leave pending apply (R118). -/
theorem LevelHeld.jumpChange (h : LevelHeld E due n party level t) (hn : n < 64)
    (hd : ∀ a, a ≠ sfAdd t.timing.superframe 4 → due a) (i : Nat) : LevelHeld E due n party level (State.jumpChange i t) := by
  unfold State.jumpChange
  dsimp only
  split
  · next c hc =>
    split
    · exact h
    · next far =>
      have gone (d : PendingChange) (hx : (t.entry i).pending = some d) : due d.apply := by
        obtain rfl : c = d := Option.some.inj (hc.symm.trans hx)
        refine hd _ fun k => far ?_
        unfold sfDistance
        rw [k, sfAdd]
        omega
      split
      · exact h.applyChange hn gone
      · exact (h.applyChange hn gone).converterFault _ _
  · exact h

/-- At a jump all that a change created now may not name applies, and what the jump promotes stays pending (R116, R118). -/
theorem LevelHeld.preampJump (h : LevelHeld E due n party level t) (hn : n < 64)
    (hd : ∀ a, a ≠ sfAdd t.timing.superframe 4 → due a) : LevelHeld E never n party level t.preampJump := by
  have jumped : LevelHeld E due n party level (Machine.forEach 64 State.jumpChange t) :=
    h.inputs (P := fun x => ∀ a, a ≠ sfAdd x.superframe 4 → due a) hd
      (fun i u => OnlyIn.at (l := [.preamp, .tracking, .notices, .counters]) (by simp) .timing (by decide))
      fun i u k hu => hu.jumpChange hn k i
  unfold State.preampJump
  dsimp only
  split
  · split
    · exact jumped.final.promote hn
    · exact jumped.final
  · exact h.final

/-! ### The converter line (R119, R120, R179) -/

theorem LevelHeld.startupReload (h : LevelHeld E due n party level t) (a : Nat) :
    LevelHeld E due n party level (t.startupReload a) :=
  h.of_same (by simp [groupsButParty])
    (by rw [State.input, State.entry, State.startupReload_entries,
      show (t.startupReload a).tracking = t.tracking from OnlyIn.at (l := [.preamp]) (by simp) .tracking (by decide)]; rfl)

theorem LevelHeld.reloadTimeout (h : LevelHeld E due n party level t) : LevelHeld E due n party level t.reloadTimeout :=
  h.of_same (by simp [groupsButParty]) State.reloadTimeout_input

theorem LevelHeld.pulseStrobe (h : LevelHeld E due n party level t) : LevelHeld E due n party level t.pulseStrobe :=
  h.of_same (by simp [groupsButParty]) State.pulseStrobe_input

theorem LevelHeld.expireOldest (h : LevelHeld E due n party level t) : LevelHeld E due n party level t.expireOldest := by
  unfold State.expireOldest
  split
  · next o q _ =>
    have left : LevelHeld E due n party level (t.setPreamp { t.preamp with outstanding := q }) := h.setPreamp rfl
    exact left.converterFault _ _
  · exact h

theorem LevelHeld.ackExpiry (h : LevelHeld E due n party level t) : LevelHeld E due n party level t.ackExpiry := by
  unfold State.ackExpiry
  split
  · exact h.expireOldest
  · exact h

theorem LevelHeld.transfer (h : LevelHeld E due n party level t) (c : ConvCommand) :
    LevelHeld E due n party level (t.transfer c) := by
  unfold State.transfer
  dsimp only
  split
  · exact h.expireOldest.setPreamp rfl
  · exact h.setPreamp rfl

theorem LevelHeld.nextCommand (h : LevelHeld E due n party level t) {c : ConvCommand} (e : t.nextCommand = some (c, u)) :
    LevelHeld E due n party level u := by
  unfold State.nextCommand at e
  split at e
  · cases e
    exact h.setPreamp rfl
  · split at e
    · cases e
      exact h.setPreamp rfl
    · cases e

theorem LevelHeld.runLine (h : LevelHeld E due n party level t) (fuel : Nat) :
    LevelHeld E due n party level (State.runLine fuel t) := by
  induction fuel generalizing t with
  | zero => exact h
  | succ fuel ih =>
    unfold State.runLine
    split
    · next c u e =>
      split
      · exact (h.nextCommand e).transfer c
      · exact ih ((h.nextCommand e).converterFault c 1)
    · exact h

theorem LevelHeld.converterLine (h : LevelHeld E due n party level t) (hn : n < 64) :
    LevelHeld E due n party level t.converterLine := by
  unfold State.converterLine
  dsimp only
  split
  · split
    · exact h.runLine _
    · exact (h.runLine _).promote hn
  · exact h

theorem LevelHeld.acknowledge (h : LevelHeld E due n party level t) (a b : Nat) :
    LevelHeld E due n party level (t.acknowledge a b) := by
  unfold State.acknowledge
  dsimp only
  split
  · have left (q : List Outstanding) : LevelHeld E due n party level (t.setPreamp { t.preamp with outstanding := q }) :=
      h.setPreamp rfl
    exact (left _).setConfirmed _ _
  · exact h

/-! ### Tracking (R129 to R132) -/

theorem LevelHeld.applyEntries (h : LevelHeld E due n party level t) (p : ScheduleEntry → Bool) :
    LevelHeld E due n party level (t.applyEntries p) :=
  h.of_same (by simp [groupsButParty]) (by
    have entries : (t.applyEntries p).entry n = t.entry n := OnlyIn.entry_eq (l := [.tracking]) (by simp) (by decide)
    have trims : (t.applyEntries p).tracking.strim = t.tracking.strim := (State.applyEntries_applied p).1
    rw [State.input, entries, trims, State.input])

theorem LevelHeld.runStep (h : LevelHeld E due n party level t) : LevelHeld E due n party level t.runStep := by
  have late (u : State) (hu : LevelHeld E due n party level u) (x k) : LevelHeld E due n party level (u.compensateLate x k) :=
    LevelHeld.of_onlyIn (t := u.compensateBy x) (hu.setTracking rfl)
      (by simp [State.compensateLate, State.compensateBy, groupsButInputs])
  have record (node : NodeId) (u : State) (b : List Byte) (hu : LevelHeld E due n party level u) :
      LevelHeld E due n party level (u.takeRecord node b) := by
    unfold State.takeRecord State.takeCompensation
    dsimp only
    split_ifs <;> first | exact hu | exact late _ hu _ _ | exact hu.setTracking rfl
  unfold State.runStep
  dsimp only
  split
  · split
    · split
      · exact LevelHeld.foldl (h.of_onlyIn (by simp [groupsButInputs])) _ (record _)
      · exact h.of_onlyIn (by simp [groupsButInputs])
    · exact h
  · exact h

/-! ### Rosters, reachability and the lane (R32 to R36, R128) -/

theorem LevelHeld.discardSteps (h : LevelHeld E due n party level t) (hn : n < 64) (node : NodeId) :
    LevelHeld E due n party level (t.discardSteps node) := by
  unfold State.discardSteps
  dsimp only
  split
  · exact h
  · exact LevelHeld.promote (h.of_onlyIn (by simp [groupsButInputs])) hn

theorem LevelHeld.nodeLost (h : LevelHeld E due n party level t) (hn : n < 64) (node : NodeId) :
    LevelHeld E due n party level (t.nodeLost node) := by
  have owners : LevelHeld E due n party level (if t.isStage then t.ownerLost node else t) := by
    split
    · exact h.ownerLost node
    · exact h
  have talk (u : State) (hu : LevelHeld E due n party level u) :
      LevelHeld E due n party level (if u.isStage then u.releaseOfNode node else u) :=
    hu.of_onlyIn (by split <;> simp [groupsButInputs])
  unfold State.nodeLost
  exact (talk _ (owners.discardSteps hn node)).of_onlyIn (by simp [groupsButInputs])

theorem LevelHeld.setReach (h : LevelHeld E due n party level t) (hn : n < 64) (node : NodeId) (x : Reach) :
    LevelHeld E due n party level (t.setReach node x) := by
  unfold State.setReach
  extract_lets _ _ put told
  have put : LevelHeld E due n party level put := h.of_onlyIn (by simp [put, groupsButInputs])
  have told : LevelHeld E due n party level told := put.of_onlyIn (by simp [told, groupsButInputs])
  split
  · exact put
  · split
    · split
      · exact told.nodeLost hn node
      · split
        · exact told.ownerBack node
        · exact told
      · exact told
    · split
      · exact told.ownerDemoted node
      · exact told

theorem LevelHeld.takeRoster (h : LevelHeld E due n party level t) (hn : n < 64) (roster : Byte) :
    LevelHeld E due n party level (t.takeRoster roster) :=
  h.foldl _ fun _ _ hu => hu.setReach hn _ _

theorem LevelHeld.isolationExpiry (h : LevelHeld E due n party level t) (hn : n < 64) :
    LevelHeld E due n party level t.isolationExpiry := by
  unfold State.isolationExpiry
  split
  · refine LevelHeld.foldl (h.of_onlyIn (by simp [groupsButInputs])) _ fun u node hu => ?_
    dsimp only
    split
    · exact hu
    · exact hu.setReach hn _ _
  · exact h

theorem LevelHeld.laneTurn (h : LevelHeld E due n party level t) (hn : n < 64) (frame : Nat) :
    LevelHeld E due n party level (t.laneTurn frame) := by
  unfold State.laneTurn State.takeCell
  dsimp only
  (repeat' split)
  · exact LevelHeld.promote (h.of_onlyIn (by simp [groupsButInputs])) hn
  all_goals exact h.of_onlyIn (by simp [groupsButInputs])

end Sys2Proof.Machine
end

section
/-! The level of an input through what stands due, the boundaries and a frame's own work (R24 to R36, R116, R117, R125). -/

namespace Sys2Proof.Machine

variable {t u : State} {E : Prop} {due : Nat → Prop} {n party k : Nat} {level : Int}

/-! ### What stands due -/

/-- What leaves the numbers and the groups of the inputs. -/
theorem LevelHeld.of_numbers (h : LevelHeld E due n party level t) (o : OnlyIn (.timing :: groupsButInputs) t u)
    (same : SameNumbers t u) : LevelHeld E due n party level u :=
  h.of_timing (o.mono (by decide)) (by rw [o.entry_eq (by decide)])
    (by rw [show u.tracking = t.tracking from o.at .tracking (by decide)]) (by rw [same.superframe]; exact id)

theorem LevelHeld.absenceExpiry (h : LevelHeld E due n party level t) : LevelHeld E due n party level t.absenceExpiry :=
  h.of_numbers (by simp [groupsButInputs]) State.absenceExpiry_same

theorem LevelHeld.forSides (h : LevelHeld E due n party level t) {f : Side → State → State}
    (hf : ∀ p u, LevelHeld E due n party level u → LevelHeld E due n party level (f p u)) :
    LevelHeld E due n party level (t.forSides f) := hf _ _ (hf _ _ h)

theorem LevelHeld.settleRing (h : LevelHeld E due n party level t) (hn : n < 64) :
    LevelHeld E due n party level t.settleRing := by
  have cells : LevelHeld E due n party level t.ringCell.consoleCell := h.of_onlyIn (by simp [groupsButInputs])
  have counts := (cells.event fun hu => hu.absenceExpiry).event fun hu => hu.isolationExpiry hn
  unfold State.settleRing
  refine LevelHeld.forSides (LevelHeld.forSides (counts.forSides ?_) ?_) ?_
  · exact fun p u hu => hu.of_onlyIn (by simp [groupsButInputs])
  · exact fun p u hu => hu.of_onlyIn (by simp [groupsButInputs])
  · exact fun p u hu => hu.of_onlyIn (by simp [groupsButInputs])

theorem LevelHeld.settleBlocks (h : LevelHeld E due n party level t) (hn : n < 64) (hd : due t.timing.superframe) :
    LevelHeld E due n party level t.settleBlocks := by
  have swap : OnlyIn groupsButInputs t (t.event State.swapNow) := by simp [groupsButInputs]
  have changes := (h.of_onlyIn swap).inputs (P := fun x => due x.superframe) (f := fun i s => s.event (·.changeNow i))
    (by rwa [show (t.event State.swapNow).timing = t.timing from swap.at .timing (by decide)])
    (fun i u => OnlyIn.at (l := [.preamp, .service, .tracking, .notices, .counters]) (by simp) .timing (by decide))
    fun i u k hu => hu.event fun hv => hv.changeNow hn k i
  have graces := changes.reloadTimeout.forEach 64 (f := fun i s => s.event (·.graceExpiry i))
    fun i u hu => hu.event fun hv => hv.graceExpiry i
  have holds := graces.forEach 4 (f := fun i s => s.event (·.holdExpiry i))
    fun i u hu => hu.of_onlyIn (by simp [groupsButInputs])
  have flips := holds.foldl (f := fun s i => s.event (·.flipLine i)) (List.finRange 8)
    fun u i hu => hu.of_onlyIn (by simp [groupsButInputs])
  exact flips.forEach 48 fun i u hu => hu.event fun hv => hv.ackExpiry

theorem LevelHeld.settle (h : LevelHeld E due n party level t) (hn : n < 64) (hd : due t.timing.superframe) :
    LevelHeld E due n party level t.settle := by
  have blocks : OnlyIn [.plan, .preamp, .service, .tracking, .talk, .lines, .notices, .counters] t.settleRing t.settle := by
    simp [State.settle]
  have timing : t.settle.timing = t.settleRing.timing := blocks.at .timing (by decide)
  exact (h.settleRing hn).settleBlocks hn (by rwa [← timing, State.settle_same.superframe])

/-! ### The boundaries (R24) -/

/-- The superframes in which a boundary may find a change due: the one that stands, and the one that may begin. -/
def near (k : Nat) : Nat → Prop := fun a => a = k ∨ a = sfAdd k 1

/-- A change created in either of them is for neither (R114). -/
theorem not_near_created {a : Nat} (h : near k a) : ¬ near k (sfAdd a 4) := by
  unfold near sfAdd at *
  omega

theorem advance_near (hk : t.timing.superframe = k) : near k t.advance.timing.superframe := by
  rw [State.advance_timing]
  unfold near Timing.advance
  dsimp only
  rw [hk]
  split
  · exact .inr rfl
  · exact .inl rfl

theorem LevelHeld.advance (h : LevelHeld E (near k) n party level t) (hk : t.timing.superframe = k) :
    LevelHeld E (near k) n party level t.advance := by
  have entry : t.advance.entry n = t.entry n := by
    rw [State.entry, State.advance_preamp]
    rfl
  have o : OnlyIn (.timing :: .preamp :: groupsButInputs) t t.advance := by simp [groupsButInputs]
  exact h.of_timing (o.mono (by decide)) (by rw [entry])
    (by rw [show t.advance.tracking = t.tracking from o.at .tracking (by decide)])
    fun d => absurd d (not_near_created (advance_near hk))

theorem LevelHeld.superframe (h : LevelHeld E due n party level t) (hn : n < 64) (levels : Tab Bool 8) :
    LevelHeld E due n party level (t.superframe levels) := by
  have o : OnlyIn (.preamp :: groupsButInputs) t (t.superframe levels) := by simp [groupsButInputs]
  have counted (e : PreampEntry) : e.countDown.setting = e.setting := by
    unfold PreampEntry.countDown
    split <;> rfl
  exact h.of_timing (o.mono (by decide)) (by rw [State.superframe_entry levels hn, counted])
    (by rw [show (t.superframe levels).tracking = t.tracking from o.at .tracking (by decide)])
    (by rw [State.superframe_timing]; exact id)

/-- A boundary begins a frame of the superframe that stands or of the next. -/
theorem LevelHeld.begin (h : LevelHeld E (near k) n party level t) (hn : n < 64) (hk : t.timing.superframe = k)
    (levels : Tab Bool 8) : LevelHeld E (near k) n party level (t.begin levels) ∧ near k (t.begin levels).timing.superframe := by
  have stands : (t.settle.setRaised []).timing.superframe = k := by
    rw [State.setRaised_timing, State.settle_same.superframe, hk]
  have counted := (h.settle hn (.inl hk)).event fun hu => hu.advance stands
  have numbers : near k (t.settle.event State.advance).timing.superframe := by
    rw [State.event_timing]
    exact advance_near stands
  unfold State.begin
  dsimp only
  split
  · exact ⟨counted.superframe hn levels, by rwa [State.superframe_timing]⟩
  · exact ⟨counted, numbers⟩

/-! ### A frame's own work (R25, R31, R36) -/

theorem LevelHeld.presentFrame (h : LevelHeld E due n party level t) : LevelHeld E due n party level t.presentFrame := by
  unfold State.presentFrame
  extract_lets slots shown
  have checked : LevelHeld E due n party level shown :=
    h.of_onlyIn (by simp only [shown, slots]; split <;> simp [groupsButInputs])
  have tracked : LevelHeld E due n party level (shown.trackTo shown.present.lastCapture) := checked.applyEntries _
  exact tracked.of_onlyIn (by simp [groupsButInputs])

theorem LevelHeld.originate (h : LevelHeld E due n party level t) (hn : n < 64) :
    LevelHeld E due n party level t.originate := by
  have lists : LevelHeld E due n party level t.originLists :=
    h.of_onlyIn (by unfold State.originLists; split <;> simp [groupsButInputs])
  have roster (u : State) (hu : LevelHeld E due n party level u) : LevelHeld E due n party level u.originRoster := by
    unfold State.originRoster
    split
    · exact LevelHeld.takeRoster (hu.of_onlyIn (by simp [groupsButInputs])) hn _
    · exact hu
  unfold State.originate
  dsimp only
  split
  · refine roster _ ?_
    split
    · exact (lists.laneTurn hn t.originLists.timing.frame).of_onlyIn (by simp [groupsButInputs])
    · exact lists.laneTurn hn _
  · exact h

theorem LevelHeld.frameWork (h : LevelHeld E due n party level t) (hn : n < 64) (inputs : Tab Sample 64) :
    LevelHeld E due n party level (t.frameWork inputs) := by
  have heard : LevelHeld E due n party level (t.setAudio { t.audio with localIn := inputs }) :=
    h.of_onlyIn (by simp [groupsButInputs])
  have mixed (u : State) (hu : LevelHeld E due n party level u) :
      LevelHeld E due n party level u.mix.fileOwn.consoleFrame.outputs.sendSupervision :=
    hu.of_onlyIn (by simp [groupsButInputs])
  have done (u : State) (hu : LevelHeld E due n party level u) : LevelHeld E due n party level
      (u.dropOutgoing.setTiming { u.dropOutgoing.timing with frameOwed := false }) :=
    LevelHeld.of_timing (hu.of_onlyIn (u := u.dropOutgoing) (by simp [groupsButInputs])) (by simp) rfl rfl id
  exact done _ ((mixed _ (heard.converterLine hn).presentFrame).originate hn)

/-- A local frame boundary applies changes of the superframe that stands, or of the one it begins. -/
theorem LevelHeld.localBoundary (h : LevelHeld E (near k) n party level t) (hn : n < 64) (hk : t.timing.superframe = k)
    (inputs : Tab Sample 64) : LevelHeld E (near k) n party level (t.localBoundary inputs) := by
  obtain ⟨begun, numbers⟩ := h.begin hn hk t.lines.levels
  unfold State.localBoundary
  dsimp only
  split
  · exact h
  · split
    · exact (h.settle hn (.inl hk)).event fun hu => hu.frameWork hn inputs
    · refine LevelHeld.event ?_ fun hu => hu.frameWork hn inputs
      split
      · exact begun.settle hn numbers
      · exact begun

theorem LevelHeld.superframeBoundary (h : LevelHeld E (near k) n party level t) (hn : n < 64) (hk : t.timing.superframe = k)
    (levels : Tab Bool 8) : LevelHeld E (near k) n party level (t.superframeBoundary levels) := by
  unfold State.superframeBoundary
  split
  · exact (h.begin hn hk levels).1
  · exact h

end Sys2Proof.Machine
end

section
/-! The level of an input through a received frame: untouched up to the load of the counters, held by the load, and left by what
follows (R27, R35, R57, R117, R118, R125). -/

namespace Sys2Proof.Machine

variable {s t u : State} {E : Prop} {n party : Nat} {level : Int} {p : Side} {h : Header}

/-! ### What excuses a level that moves (R117, R118) -/

/-- A change of the input is pending that exempts the node's party. -/
def State.exempted (s : State) (n : Nat) : Prop := ∃ x, (s.entry n).pending = some x ∧ s.party = x.exempt.val

/-- The node stands in frame 0 with a next target of its own party waiting: a load may promote and skip it (log entry 6). -/
def State.exemptWaits (s : State) (n : Nat) : Prop :=
  s.timing.frame = 0 ∧ ∃ y, (s.entry n).next = some y ∧ s.party = y.requester.val

/-! ### Up to the load -/

/-- The party, the input and the frame number are as they were. -/
structure Untouched (n : Nat) (s t : State) : Prop where
  party : t.party = s.party
  frame : t.timing.frame = s.timing.frame
  input : t.input n = s.input n

theorem Untouched.refl : Untouched n s s := ⟨rfl, rfl, rfl⟩

theorem Untouched.of_onlyIn (a : Untouched n s t) (o : OnlyIn groupsButInputs t u) : Untouched n s u :=
  ⟨(o.party_eq (by decide) (by decide)).trans a.party, by rw [show u.timing = t.timing from o.at .timing (by decide), a.frame],
    (o.input_eq (by decide) (by decide)).trans a.input⟩

theorem Untouched.absenceExpiry (a : Untouched n s t) : Untouched n s t.absenceExpiry := by
  have o : OnlyIn (.timing :: groupsButInputs) t t.absenceExpiry := by simp [groupsButInputs]
  exact ⟨(o.party_eq (by decide) (by decide)).trans a.party, State.absenceExpiry_same.frame.trans a.frame,
    (o.input_eq (by decide) (by decide)).trans a.input⟩

theorem Untouched.event (a : Untouched n s t) {f : State → State}
    (hf : Untouched n s (t.setRaised []) → Untouched n s (f (t.setRaised []))) : Untouched n s (t.event f) :=
  (hf (a.of_onlyIn (by simp [groupsButInputs]))).of_onlyIn ((State.event_only f).mono (by decide))

/-- The level that the law of the pending changes starts from. -/
theorem LevelHeld.start {due : Nat → Prop} (law : DeltaLaw s) (hn : n < 64) (party : t.party = s.party)
    (input : t.input n = s.input n) (pending : s.exempted n → E)
    (next : due (sfAdd t.timing.superframe 4) → (∃ y, (s.entry n).next = some y ∧ s.party = y.requester.val) → E) :
    LevelHeld E due n s.party (s.level n) t := by
  refine ⟨party, ?_⟩
  rw [input]
  exact ⟨law n hn, fun _ => .inl rfl, fun c hc _ k => pending ⟨c, hc, k⟩, fun w hw d k => next d ⟨w, hw, k⟩⟩

/-! ### The load of the counters (R35, R118) -/

/-- Where every superframe is due, what stands due before a load applies. -/
theorem LevelHeld.reached (a : LevelHeld E (fun _ => True) n party level t) (hn : n < 64) :
    LevelHeld E (fun _ => True) n party level t.reached := by
  have unwrapped : LevelHeld E (fun _ => True) n party level (t.forSides fun p s => s.unwrapNow p) :=
    a.forSides fun p u hu => hu.of_onlyIn (by simp [groupsButInputs])
  have swapped (u : State) (hu : LevelHeld E (fun _ => True) n party level u) :
      LevelHeld E (fun _ => True) n party level u.swapNow := hu.of_onlyIn (by simp [groupsButInputs])
  exact ((swapped _ unwrapped).forEach 64 fun i u hu => hu.changeNow hn trivial i).reloadTimeout

/-- Input n is held to its level in s, unless one of the two excuses it, with nothing due any more. -/
abbrev HeldSince (n : Nat) (s t : State) : Prop :=
  LevelHeld (s.exempted n ∨ s.exemptWaits n) never n s.party (s.level n) t

/-- In frame 0 changes may apply before a load and next targets be promoted; in any other frame nothing does before the load
names the superframe of what it promotes. -/
theorem Untouched.loaded (a : Untouched n s t) (law : DeltaLaw s) (hn : n < 64)
    (o : OnlyIn [.service, .counters, .timing, .members, .present, .plan, .notices] t.reached u) :
    ∃ due, (∀ k, k ≠ sfAdd u.timing.superframe 4 → due k)
      ∧ LevelHeld (s.exempted n ∨ s.exemptWaits n) due n s.party (s.level n) u := by
  by_cases frame : s.timing.frame = 0
  · refine ⟨fun _ => True, fun _ _ => trivial, ?_⟩
    have started : LevelHeld (s.exempted n ∨ s.exemptWaits n) (fun _ => True) n s.party (s.level n) t :=
      .start law hn a.party a.input .inl fun _ waits => .inr ⟨frame, waits⟩
    exact (started.reached hn).of_timing (o.mono (by decide)) (by rw [o.entry_eq (by decide)])
      (by rw [show u.tracking = t.reached.tracking from o.at .tracking (by decide)]) fun _ => trivial
  · have idle : t.reached = t.reloadTimeout := State.reached_of_frame (a.frame ▸ frame)
    rw [idle] at o
    have reload : OnlyIn [.preamp] t t.reloadTimeout := by simp
    refine ⟨fun k => k ≠ sfAdd u.timing.superframe 4, fun _ k => k, .start law hn ?_ ?_ .inl fun k => absurd rfl k⟩
    · rw [o.party_eq (by decide) (by decide), reload.party_eq (by decide) (by decide), a.party]
    · rw [o.input_eq (by decide) (by decide), State.reloadTimeout_input, a.input]

theorem Untouched.jump (a : Untouched n s t) (law : DeltaLaw s) (hn : n < 64) (superframe frame : Nat) :
    HeldSince n s (t.jump superframe frame) := by
  obtain ⟨due, all, loaded⟩ := a.loaded law hn (u := (((t.reached.laneJump superframe frame).setNumbers superframe
    frame).presentJump).swapJump t.reached.timing.superframe) (by simp)
  have tracked := (loaded.preampJump hn all).applyEntries
  unfold State.jump
  dsimp only
  split
  · exact (tracked _).pulseStrobe
  · exact tracked _

/-- An input untouched since s is held to its level there. -/
theorem Untouched.held (a : Untouched n s t) (law : DeltaLaw s) (hn : n < 64) :
    HeldSince n s t :=
  .start law hn a.party a.input .inl nofun

theorem Untouched.clockLock (a : Untouched n s t) (law : DeltaLaw s) (hn : n < 64) :
    HeldSince n s (t.clockLock h) := by
  have load : HeldSince n s (t.loadCounters h) := by
    unfold State.loadCounters
    split
    · exact (a.held law hn).reloadTimeout
    · exact a.jump law hn _ _
  unfold State.clockLock
  dsimp only
  split
  · exact load
  · exact LevelHeld.startupReload (load.final_onlyIn (by simp [groupsButInputs])) _

/-! ### The frame taken (R27, R30, R57) -/

theorem LevelHeld.takeLists (a : LevelHeld E never n party level t) (hn : n < 64) :
    LevelHeld E never n party level (t.takeLists h) := by
  unfold State.takeLists
  split
  · exact a.of_onlyIn (by simp [groupsButInputs])
  · split
    · exact a.takeRoster hn _
    · exact a

theorem LevelHeld.forward (a : LevelHeld E never n party level t) (hn : n < 64) (slots lane) :
    LevelHeld E never n party level (t.forward h slots lane) := by
  unfold State.forward
  dsimp only
  split
  · exact (a.laneTurn hn h.frame).of_onlyIn (by simp [groupsButInputs])
  · exact a

theorem Untouched.ringTraffic (a : Untouched n s t) (law : DeltaLaw s) (hn : n < 64) (slots lane) :
    HeldSince n s (t.ringTraffic h slots lane) := by
  have seen (u : State) (hu : HeldSince n s u) :
      HeldSince n s u.masterSeen :=
    hu.final_onlyIn (by simp [groupsButInputs])
  have filed (u : State) (hu : HeldSince n s u) :
      HeldSince n s
        ((u.fileRing (globalCount h.superframe h.frame) slots).takeLane h.superframe h.frame lane) :=
    hu.of_onlyIn (by simp [groupsButInputs])
  have held := a.held law hn
  unfold State.ringTraffic
  dsimp only
  split
  · have returned : HeldSince n s (t.takeReturn h slots) :=
      held.of_onlyIn (by simp [groupsButInputs])
    split
    · exact filed _ (seen _ returned)
    · exact filed _ returned
  · split
    · exact (filed _ ((seen _ (a.clockLock law hn)).takeLists hn)).forward hn _ _
    · exact (filed _ (held.takeLists hn)).forward hn _ _

theorem Untouched.takeFrame (a : Untouched n s t) (law : DeltaLaw s) (hn : n < 64) (f : Frame) :
    HeldSince n s (t.takeFrame p f) := by
  have passed : Untouched n s (t.passTurned p f) := a.of_onlyIn (by simp [groupsButInputs])
  unfold State.takeFrame
  dsimp only
  split
  · split
    · exact passed.ringTraffic law hn _ _
    · exact passed.held law hn
  · exact passed.held law hn

theorem Untouched.deliver (a : Untouched n s t) (law : DeltaLaw s) (hn : n < 64) (f : Frame) :
    HeldSince n s (t.deliver p f) := by
  have controlled (x : Port) (y : PortFlags) : Untouched n s (((t.setPort p x).setFlags p y).control p f) :=
    a.of_onlyIn (by simp [groupsButInputs])
  unfold State.deliver
  dsimp only
  split
  · exact (controlled _ _).held law hn
  · exact (controlled _ _).takeFrame law hn f

/-- A receive frame period delivers a frame, or touches the port and the ring alone (R3, R6 to R9). -/
theorem Untouched.receive (a : Untouched n s t) (law : DeltaLaw s) (hn : n < 64) (period : List Byte) :
    HeldSince n s (t.receive p period) := by
  have port (r : Reference) : HeldSince n s (t.setReference p r) :=
    Untouched.held (a.of_onlyIn (by simp [groupsButInputs])) law hn
  have bad : HeldSince n s (t.badFrame p) :=
    Untouched.held (a.of_onlyIn (by simp [groupsButInputs])) law hn
  have searched (r : Option Reference) (f : Frame) :
      HeldSince n s (t.searchFrame p r f) := by
    unfold State.searchFrame
    split
    · split
      · exact a.deliver law hn f
      · exact port _
    · split
      · exact port _
      · exact a.held law hn
  unfold State.receive
  split
  · exact a.deliver law hn _
  · exact bad
  · exact searched _ _
  · split
    · exact port _
    · exact a.held law hn
  · exact searched _ _
  · exact a.held law hn

theorem Untouched.receivePeriod (a : Untouched n s t) (law : DeltaLaw s) (hn : n < 64) (period : List Byte) :
    HeldSince n s (t.receivePeriod p period) := by
  have kept : Untouched n s ((t.event State.absenceExpiry).keepReceived p period) :=
    (a.event fun hu => hu.absenceExpiry).of_onlyIn (by simp [groupsButInputs])
  unfold State.receivePeriod
  dsimp only
  split
  · exact a.held law hn
  · split
    · have begun : Untouched n s (((t.event State.absenceExpiry).keepReceived p period).setRaised []) :=
        kept.of_onlyIn (by simp [groupsButInputs])
      exact (begun.receive law hn _).of_onlyIn ((State.event_only _).mono (by decide))
    · exact kept.held law hn

end Sys2Proof.Machine
end

section
/-! Every command keeps the law of the pending changes, and the level of an input but where it may move; settled for O60 (R116 to
R118, R125). -/

namespace Sys2Proof.Machine

variable {l : List Group} {s t u : State} {E : Prop} {due : Nat → Prop} {n party : Nat} {level : Int} {c : Instr}

/-! ### Requests (R93, R97, R106 to R116) -/

/-- What an action keeps, and a change of the service queues too, the request it executes keeps (R93). -/
theorem State.runHead_keeps {P : State → Prop} {p : Cell → Bool} {act : Cell → State → State × Reply}
    (hs : ∀ {u v}, P u → OnlyIn [.service] u v → P v) (ha : ∀ c u, P u → P (act c u).1) (h : P s) : P (s.runHead p act) := by
  have head : P s.popWork := hs h (by simp)
  unfold State.runHead
  split
  · split
    · exact hs (ha _ _ head) ((OnlyIn.answer _ _ (by simp)).mpr .refl)
    · exact h
  · exact h

/-- What the writer of each entry keeps, the WRITE of the entries keeps (R97). -/
theorem State.runWrite_keeps {P : State → Prop} {q : List Table} {w : Table → EntryWriter}
    (hs : ∀ {u v}, P u → OnlyIn [.service] u v → P v) (hw : ∀ k i b u, P u → P (w k i b u).1) (h : P s) :
    P (s.runWrite q w) := by
  have all (k : Table) (r : List (List Byte)) (i : Nat) (u : State) (hu : P u) : P (writeAll (w k) i r u).1 := by
    induction r generalizing i u with
    | nil => exact hu
    | cons b r ih => exact ih _ _ (hw k i b u hu)
  refine State.runHead_keeps hs (fun c u hu => ?_) h
  unfold writeAct
  dsimp only
  (repeat' split) <;> first | exact hu | exact all _ _ _ _ hu

/-- Owners alone move in the inputs that a range of CLAIM or RELEASE names (R107, R109). -/
theorem LevelHeld.qualified (h : LevelHeld E due n party level t) {who : NodeId} {a b : Nat} {r : Reply}
    {f : State → Nat → State} (hf : ∀ u i, LevelHeld E due n party level u → LevelHeld E due n party level (f u i)) :
    LevelHeld E due n party level (t.qualified who a b ((inputRange a b).foldl f t, r)).1 := by
  have taken := h.foldl (inputRange a b) hf
  unfold State.qualified State.refuse
  (repeat' split) <;> first | exact h | exact taken

theorem LevelHeld.claim (h : LevelHeld E due n party level t) (who : NodeId) (a b : Nat) :
    LevelHeld E due n party level (t.claim who a b).1 :=
  h.qualified fun u i hu => by
    unfold State.claimOne
    split
    · exact hu.setOwner _ _ _ _ _
    · exact hu

theorem LevelHeld.release (h : LevelHeld E due n party level t) (who : NodeId) (a b : Nat) :
    LevelHeld E due n party level (t.release who a b).1 :=
  h.qualified fun u i hu => by
    unfold State.releaseOne
    split
    · exact hu.setOwner _ _ _ _ _
    · exact hu

/-- A gain asked for becomes the pending change or the next target (R113, R115); neither applies at once. -/
theorem LevelHeld.setGain (h : LevelHeld E never n party level t) (hn : n < 64) (who : NodeId) (i a b d : Nat) :
    LevelHeld E never n party level (t.setGain who i a b d).1 := by
  have waits (w : NextTarget) : LevelHeld E never n party level (t.setEntry i { t.entry i with next := some w }) := by
    refine h.of_input (by simp [groupsButParty]) ?_
    by_cases k : n = i
    · subst k
      rw [State.setEntry_input hn]
      exact ⟨h.input.delta, h.input.level, nofun, nofun⟩
    · rw [State.setEntry_input_ne k]
      exact h.input
  unfold State.setGain State.requestGain State.refuse
  dsimp only
  (repeat' split) <;> first | exact h | exact h.createChange hn nofun | exact waits _

/-! ### The level (R125) -/

/-- What a command may change of the level by the statement: an exempting change pending, or one that a received frame's load
promotes and skips. -/
def LevelExcused (c : Instr) (s : State) (n : Nat) : Prop :=
  s.exempted n ∨ ((∃ p period, c = .receiveFrame p period) ∧ s.exemptWaits n)

/-- After a command the input's law holds and its level is that before, unless the statement excuses it. -/
def LevelAfter (c : Instr) (s : State) (n : Nat) (t : State) : Prop :=
  InputHeld (LevelExcused c s n) never s.party s.timing.superframe (s.level n) (t.input n)

/-- Nothing is due in the end, so neither party nor numbers matter. -/
theorem LevelHeld.after (h : LevelHeld (LevelExcused c s n) due n party (s.level n) t) : LevelAfter c s n t :=
  ⟨h.input.delta, h.input.level, nofun, nofun⟩

/-- A command that touches neither the preamps nor the tracking leaves the input as it is. -/
theorem LevelAfter.of_onlyIn (law : DeltaLaw s) (hn : n < 64) (o : OnlyIn l s t) (hp : .preamp ∉ l) (ht : .tracking ∉ l) :
    LevelAfter c s n t := by
  unfold LevelAfter
  rw [o.input_eq hp ht]
  exact ⟨law n hn, fun _ => .inl rfl, nofun, nofun⟩

/-- Under every command but those that write or clear gains and trims themselves. -/
theorem exec_levelAfter (hx : exec c s = .next t) (law : DeltaLaw s) (hn : n < 64) (hr : c ≠ .restart) (hw : c ≠ .writeStrim)
    (hh : ∀ id r p, c ≠ .hardReset id r p) (hi : ∀ m, c ≠ .imageLoadComplete m) : LevelAfter c s n t := by
  have k : LevelHeld (LevelExcused c s n) never n s.party (s.level n) s := .start law hn rfl rfl .inl nofun
  have b : LevelHeld (LevelExcused c s n) (near s.timing.superframe) n s.party (s.level n) s :=
    .start law hn rfl rfl .inl fun d => absurd d (not_near_created (.inl rfl))
  have queues {u v} (hu : LevelHeld (LevelExcused c s n) never n s.party (s.level n) u) (o : OnlyIn [.service] u v) :
      LevelHeld (LevelExcused c s n) never n s.party (s.level n) v := hu.of_onlyIn (o.mono (by decide))
  cases c
  case restart => exact absurd rfl hr
  case writeStrim => exact absurd rfl hw
  case hardReset => exact absurd rfl (hh _ _ _)
  case imageLoadComplete => exact absurd rfl (hi _)
  case receiveFrame p period =>
    cases hx
    have held : HeldSince n s (s.receivePeriod p period) := Untouched.refl.receivePeriod law hn period
    exact ⟨held.input.delta, fun clear => (held.input.level clear).imp_right (.imp_right fun w => ⟨⟨_, _, rfl⟩, w⟩), nofun, nofun⟩
  case localFrameBoundary => cases hx; exact (b.localBoundary hn rfl _).after
  case superframeBoundary => cases hx; exact (b.superframeBoundary hn rfl _).after
  case isolationCountExpiry => cases hx; exact (k.event fun hu => hu.isolationExpiry hn).after
  case preampChangeApply => cases hx; exact (b.event fun hu => hu.changeNow hn (.inl rfl) _).after
  case trackingApply =>
    cases hx
    split
    · exact (k.applyEntries _).after
    · exact k.after
  case graceExpiry => cases hx; exact (k.event fun hu => hu.graceExpiry _).after
  case ackDeadlineExpiry => cases hx; exact (k.event fun hu => hu.ackExpiry).after
  case converterAck => cases hx; exact (k.acknowledge _ _).after
  case reloadPassTimeout => cases hx; exact k.reloadTimeout.after
  case writeTrack =>
    cases hx
    refine (State.runWrite_keeps queues (fun _ i b u hu => ?_) k).after
    unfold writeTrack State.accept
    split <;> first | exact hu | exact hu.setTracking rfl
  case claim => cases hx; exact (k.event (State.runAct_keeps queues fun _ _ hu => hu.claim _ _ _)).after
  case release => cases hx; exact (k.event (State.runAct_keeps queues fun _ _ hu => hu.release _ _ _)).after
  case setPreamp => cases hx; exact (State.runAct_keeps queues (fun _ _ hu => hu.setGain hn _ _ _ _ _) k).after
  case step => cases hx; exact (k.event fun hu => hu.runStep).after
  all_goals exact .of_onlyIn law hn (exec_onlyIn hx) (by simp [touches]) (by simp [touches])

/-! ### The law where gains and trims are written or cleared (R105, R124, R177, R182) -/

theorem DeltaLaw.of_preamp (h : DeltaLaw s) (e : t.preamp.entries = s.preamp.entries) : DeltaLaw t := by
  unfold DeltaLaw State.entry
  rw [e]
  exact h

theorem DeltaLaw.of_onlyIn (h : DeltaLaw s) (o : OnlyIn l s t) (hp : .preamp ∉ l) : DeltaLaw t :=
  h.of_preamp (by rw [show t.preamp = s.preamp from o.at .preamp hp])

theorem DeltaLaw.event (h : DeltaLaw s) {f : State → State} (hf : DeltaLaw (s.setRaised []) → DeltaLaw (f (s.setRaised []))) :
    DeltaLaw (s.event f) := (hf h).of_onlyIn (State.event_only f) (by decide)

/-- Without a pending change the law says nothing. -/
theorem DeltaLaw.of_none (h : ∀ n, n < 64 → (s.entry n).pending = none) : DeltaLaw s := fun n hn c hc => by
  rw [h n hn] at hc
  cases hc

/-- The preamps of an image have no change pending (R105). -/
theorem DeltaLaw.loadTables (h : DeltaLaw s) (q : List Chunk) : DeltaLaw (s.loadTables q) := by
  cases stage : s.isStage with
  | true =>
    refine .of_none fun n hn => ?_
    rw [State.entry, (State.loadTables_stage q stage).1, loadPreamps_get _ _ hn]
    rfl
  | false =>
    have rest : OnlyIn [.plan, .sets, .lines] s (s.loadTables q) := by
      simp [State.loadTables, show ∀ x y z, (((s.setPlan x).setSets y).setLines z).isStage = false from fun _ _ _ => stage]
    exact h.of_onlyIn rest (by decide)

theorem DeltaLaw.enablePorts (h : DeltaLaw s) : DeltaLaw s.enablePorts := by
  have strobe (u : State) (hu : DeltaLaw u) : DeltaLaw u.pulseStrobe :=
    hu.of_preamp (by unfold State.pulseStrobe; split <;> rfl)
  unfold State.enablePorts
  extract_lets enabled _ timed formed
  have enabled : DeltaLaw (enabled.setTiming { enabled.timing with running := true, frameOwed := true }) :=
    h.of_onlyIn (l := [.portE, .portW, .timing]) (by simp [enabled, State.forSides]) (by decide)
  have timed : DeltaLaw timed := strobe _ enabled
  have formed : DeltaLaw formed := timed.of_onlyIn (l := [.ring, .present, .lines, .notices, .counters])
    (by simp [formed, State.forSides]) (by decide)
  split
  · exact formed.of_preamp (State.startupReload_entries _)
  · exact formed

theorem DeltaLaw.loadComplete (h : DeltaLaw s) (m : Option (List Byte)) : DeltaLaw (s.loadComplete m) := by
  have image (x : Image) : DeltaLaw (s.setImage x) := h.of_onlyIn (l := [.image]) (by simp) (by decide)
  have timed (u : State) (hu : DeltaLaw u) (x : Present) (o c) : DeltaLaw ((u.setPresent x).raiseImage o c) :=
    hu.of_onlyIn (l := [.present, .notices]) (by simp [State.raiseImage]) (by decide)
  unfold State.loadComplete State.takeImage
  dsimp only
  split
  · refine DeltaLaw.enablePorts ?_
    split
    · exact timed _ ((image _).loadTables _) _ _ _
    · exact timed _ ((image _).loadTables _) _ _ _
  · exact h

theorem DeltaLaw.restart (h : DeltaLaw s) : DeltaLaw s.restart := by
  have emptied : DeltaLaw s.restartEmptied :=
    h.of_onlyIn (l := [.image, .service]) (by simp [State.restartEmptied]) (by decide)
  have loaded : DeltaLaw s.restartLoaded := emptied.loadTables _
  have cleared : DeltaLaw s.restartTimed.restartCleared :=
    (loaded.of_onlyIn State.restartTimed_only (by decide)).of_preamp (by rw [State.restartCleared_preamp])
  have converters (u : State) (hu : DeltaLaw u) : DeltaLaw u.restartConverters :=
    hu.of_preamp (by unfold State.restartConverters; split <;> rfl)
  rw [State.restart_eq]
  exact (converters _ cleared).of_onlyIn (l := [.notices]) (by simp [State.raiseRestarted]) (by decide)

/-- A trim written clears the limit flag of its input and moves neither gain nor pending change (R124). -/
theorem DeltaLaw.writeStrim (h : DeltaLaw s) (i : Nat) (b : List Byte) : DeltaLaw (writeStrim i b s).1 := by
  have cleared (x : Tracking) : DeltaLaw ((s.setTracking x).setEntry i { s.entry i with trimLimit := false }) := by
    intro n hn c hc
    by_cases k : n = i
    · subst k
      rw [State.entry_of_input (State.setEntry_input hn)] at hc ⊢
      exact h n hn c hc
    · rw [State.setEntry_entry_ne k] at hc ⊢
      exact h n hn c hc
  unfold Machine.writeStrim State.accept
  split
  · exact cleared _
  · exact cleared _
  · exact h

theorem exec_keeps_deltaLaw (hx : exec c s = .next t) (law : DeltaLaw s) : DeltaLaw t := by
  have queues {u v} (hu : DeltaLaw u) (o : OnlyIn [.service] u v) : DeltaLaw v := hu.of_onlyIn o (by decide)
  cases c
  case hardReset =>
    cases hx
    exact .of_none fun n hn => by simp [State.entry, State.ofStraps, hn, PreampEntry.afterReset]
  case imageLoadComplete => cases hx; exact law.event fun hu => hu.loadComplete _
  case restart =>
    cases hx
    refine law.event (State.runAct_keeps queues fun _ u hu => ?_)
    unfold State.restartAct State.refuse
    split
    · exact hu
    · exact hu.restart
  case writeStrim => cases hx; exact State.runWrite_keeps queues (fun _ i b u hu => hu.writeStrim i b) law
  all_goals exact fun n hn => (exec_levelAfter hx law hn nofun nofun nofun nofun).delta

/-- Settles O60: the law is kept by every command and is none of the waiting queue's; the level by every command named. -/
theorem levelsHeldAcrossGainChanges : Obligations.LevelsHeldAcrossGainChanges := by
  refine fun s t law => ⟨fun hx => step_keeps (fun _ _ h => h) (fun _ _ _ => exec_keeps_deltaLaw) hx law,
    fun c hx hr hw hh hi n hn clear => ?_⟩
  exact (exec_levelAfter hx law hn hr hw hh hi).level clear

end Sys2Proof.Machine
end

section
/-! Gain codes and scaling (R145, R146), and where the mix engine scales (R147 to R150); settled for O53. -/

namespace Sys2Proof.Machine

variable {s : State} {x : Int} {c : Nat}

/-! ### Multipliers (R145) -/

/-- M at unity. -/
theorem multiplier_unity : multiplier 192 = 2 ^ 27 := by decide

/-- Every entry of T stays below twice its first. -/
theorem gainTable_lt (k : Nat) : gainTable.getD (k % 16) 0 < 2 ^ 16 := by
  have h : k % 16 < 16 := Nat.mod_lt k (by decide)
  interval_cases k % 16 <;> decide

/-- Codes at or below unity do not amplify: below unity the octave of the code is at most 11. -/
theorem multiplier_le_unity (h : c ≤ 192) : multiplier c ≤ 2 ^ 27 := by
  rcases Nat.eq_or_lt_of_le h with rfl | h
  · exact multiplier_unity.le
  · unfold multiplier
    split
    · exact Nat.zero_le _
    · calc gainTable.getD (c % 16) 0 * 2 ^ (c / 16)
          ≤ 2 ^ 16 * 2 ^ 11 :=
            Nat.mul_le_mul (gainTable_lt c).le (Nat.pow_le_pow_right (by decide) (by omega))
        _ = 2 ^ 27 := by decide

/-! ### Scaling (R146) -/

theorem scale_eq (x : Int) (c : Nat) : scale x c = (x * multiplier c + 2 ^ 26) / 2 ^ 27 := by norm_num [scale]

theorem scale_unity (x : Int) : scale x 192 = x := by
  rw [scale_eq, multiplier_unity]
  push_cast
  omega

theorem scale_mute (x : Int) : scale x 0 = 0 := by
  have muted : multiplier 0 = 0 := rfl
  rw [scale_eq, muted]
  norm_num

@[simp] theorem scale_silence (c : Nat) : scale 0 c = 0 := by
  rw [scale_eq]
  norm_num

/-- The result is off the exact product by at most one half, and a half goes up. -/
theorem scale_near (x : Int) (c : Nat) :
    -(2 ^ 26) < scale x c * 2 ^ 27 - x * multiplier c ∧ scale x c * 2 ^ 27 - x * multiplier c ≤ 2 ^ 26 := by
  rw [scale_eq]
  generalize x * (multiplier c : Int) = z
  omega

/-- Up to unity the result lies between 0 and the value. -/
theorem scale_natAbs_le (h : c ≤ 192) (x : Int) : (scale x c).natAbs ≤ x.natAbs := by
  have hM : (multiplier c : Int) ≤ 2 ^ 27 := by exact_mod_cast multiplier_le_unity h
  have h0 : (0 : Int) ≤ multiplier c := Int.natCast_nonneg _
  rw [scale_eq]
  rcases Int.le_total 0 x with hx | hx
  · have lo : 0 ≤ x * (multiplier c : Int) := Int.mul_nonneg hx h0
    have hi : x * (multiplier c : Int) ≤ x * 2 ^ 27 := Int.mul_le_mul_of_nonneg_left hM hx
    omega
  · have lo : x * 2 ^ 27 ≤ x * (multiplier c : Int) := Int.mul_le_mul_of_nonpos_left hx hM
    have hi : x * (multiplier c : Int) ≤ 0 := Int.mul_nonpos_of_nonpos_of_nonneg hx h0
    omega

/-! ### Codes with a trim (R86, R148) -/

theorem trimmedCode_eq (code : Nat) (trim : Int) : trimmedCode code trim = (max 1 (min ((code : Int) + trim) 255)).toNat := rfl

theorem trimmedCode_le (code : Nat) (trim : Int) : trimmedCode code trim ≤ 255 := by
  rw [trimmedCode_eq]
  omega

/-! ### Where the engine scales (R148 to R150) -/

theorem State.sendTerm_of_applied {y : Send} (h : y.applied ≠ 0) :
    s.sendTerm y = scale (s.mixSource y.source).1 (trimmedCode y.applied (s.mixSource y.source).2) := if_neg h

theorem ducked_of_ne {duck : Nat} (p : Int) (h : duck ≠ 0) : ducked p duck = scale p (192 - duck) := if_neg h

/-- Settles O53: where the engine scales, and what scaling makes of a value. -/
theorem scalingRoundsToNearest : Obligations.ScalingRoundsToNearest := by
  refine ⟨fun s b y i talker sum duck => ?_, fun x c _ => ?_⟩
  · intro sample
    have taken (a : AudioSource) : (s.mixSource a).1 = sample a := by cases a <;> rfl
    refine ⟨fun h => ⟨trimmedCode y.applied (s.mixSource y.source).2, trimmedCode_le _ _, ?_⟩, ducked_of_ne sum, ?_, rfl⟩
    · rw [State.sendTerm_of_applied h, taken]
    · rw [← taken]
      rfl
  · obtain ⟨below, above⟩ := scale_near x c
    exact ⟨scale_eq x c, scale_unity x, scale_mute x, by decide, by decide, below, above, fun h => scale_natAbs_le h x⟩

end Sys2Proof.Machine
end

section
/-! A bus at the boundary of a local frame and at a ramp expiry taken ahead of it (R141 to R144); settled for O25. -/

namespace Sys2Proof.Machine

variable {s : State} {n m : Nat}

/-! ### A bus at a boundary (R142, R144) -/

/-- The duck under a talker, one code toward the bus's depth, or as it stands without one (R144). -/
def Bus.duckMoved (b : Bus) (talker : Bool) (duck still : Nat) : Nat :=
  if talker then stepToward duck b.duckDepth else still

/-- Where the expiry has been taken ahead only the duck moves: from its value before the expiry, or from the one written
since. -/
theorem Bus.boundary_taken {b : Bus} (h : b.rampTaken = true) (talker : Bool) :
    b.boundary talker = { b with
      duckApplied := match b.duckBefore with
        | some d => b.duckMoved talker d (d - 1)
        | none => b.duckMoved talker b.duckApplied b.duckApplied
      rampTaken := false, duckBefore := none } := by
  unfold Bus.boundary Bus.settleTaken
  simp only [h, if_true]
  cases talker <;> cases b.duckBefore <;> rfl

/-- A counter at 0 has its expiry at the boundary itself. -/
theorem Bus.boundary_expires {b : Bus} (h : b.rampTaken = false) (hr : b.ramp = 0) (talker : Bool) :
    b.boundary talker = { b.expire talker with duckApplied := b.duckMoved talker b.duckApplied (b.duckApplied - 1) } := by
  unfold Bus.boundary
  simp only [h, hr, Bool.false_eq_true, if_false, if_true]
  cases talker <;> rfl

/-- A counter above 0 counts down. -/
theorem Bus.boundary_counts {b : Bus} (h : b.rampTaken = false) (hr : b.ramp ≠ 0) (talker : Bool) :
    b.boundary talker = { b with
      ramp := b.ramp - 1, duckApplied := b.duckMoved talker b.duckApplied b.duckApplied } := by
  unfold Bus.boundary
  simp only [h, hr, Bool.false_eq_true, if_false]
  cases talker <;> rfl

/-! ### The expiry taken ahead (R142; log entry 11) -/

/-- The bus once the expiry of the coming boundary has been taken. -/
def Bus.takenAhead (b : Bus) (talker : Bool) : Bus :=
  { b.expire talker with rampTaken := true, duckBefore := some b.duckApplied }

theorem State.rampExpiry_due (hs : s.isStage = true) (hrun : s.timing.running = true) (hr : (s.bus n).ramp = 0)
    (ht : (s.bus n).rampTaken = false) :
    s.rampExpiry n = s.setBus n ((s.bus n).takenAhead (s.talker n).isSome) :=
  if_pos (by simp [State.rampDue, hs, hrun, hr, ht])

/-- The boundary that follows decides on the duck alone. -/
theorem Bus.takenAhead_boundary (b : Bus) (early talker : Bool) :
    (b.takenAhead early).boundary talker = { b.takenAhead early with
      duckApplied := b.duckMoved talker b.duckApplied (b.duckApplied - 1), rampTaken := false, duckBefore := none } :=
  Bus.boundary_taken rfl talker

/-- Settles O25: the expiry as it is taken, and the boundary that follows it. -/
theorem rampsExpire : Obligations.RampsExpire := by
  intro b s hs hrun hr ht toward old
  have hx : exec (.rampExpiry b) s = .next (s.setBus b.val (old.takenAhead (s.talker b.val).isSome)) :=
    congrArg _ (State.rampExpiry_due hs hrun hr ht)
  have bus (m : Nat) : (s.setBus b.val (old.takenAhead (s.talker b.val).isSome)).bus m
      = if b.val = m then old.takenAhead (s.talker b.val).isSome else s.bus m := State.setBus_bus b.isLt
  refine ⟨_, hx, exec_onlyIn (c := .rampExpiry b) hx, ?_, fun m hm => ?_, fun talker => ?_⟩
  · rw [bus, if_pos rfl]
    rfl
  · rw [bus, if_neg (Ne.symm hm)]
  · rw [bus, if_pos rfl, Bus.takenAhead_boundary]
    rfl

end Sys2Proof.Machine
end

section
/-! One frame of one bus, its talker, and the local outputs (R85, R86, R142 to R152, R163); settled for O54. -/

namespace Sys2Proof.Machine

variable {s : State} {n m : Nat}

/-! ### The talker of a bus (R163) -/

/-- Source i is in service in class c and has the bus in its target set. -/
def State.Speaks (s : State) (n c : Nat) (i : Fin 8) : Prop :=
  c < 4 ∧ (s.talkRow c).inService = some i ∧ (s.talkSource i).targets.getLsbD n = true

/-- Searched downward, a range gives the value of its highest index that has one. -/
theorem findSome?_downward {α : Type} (f : Nat → Option α) (k : Nat) (a : α) :
    (List.range k).reverse.findSome? f = some a ↔ ∃ c, c < k ∧ f c = some a ∧ ∀ d, c < d → d < k → f d = none := by
  induction k with
  | zero => simp
  | succ k ih =>
    rw [List.range_succ, List.reverse_append, List.reverse_singleton, List.singleton_append, List.findSome?_cons]
    cases hk : f k with
    | some b =>
      constructor
      · rintro ⟨rfl⟩
        exact ⟨k, by omega, hk, fun d hd hd' => by omega⟩
      · rintro ⟨c, hc, hf, above⟩
        rcases Nat.lt_or_ge c k with h | h
        · exact nomatch hk.symm.trans (above k h (by omega))
        · obtain rfl : c = k := by omega
          exact hk.symm.trans hf
    | none =>
      dsimp only
      rw [ih]
      constructor
      · rintro ⟨c, hc, hf, above⟩
        refine ⟨c, by omega, hf, fun d hd hd' => ?_⟩
        rcases Nat.lt_or_ge d k with h | h
        · exact above d hd h
        · obtain rfl : d = k := by omega
          exact hk
      · rintro ⟨c, hc, hf, above⟩
        have ne : c ≠ k := fun e => nomatch (e ▸ hf).symm.trans hk
        exact ⟨c, by omega, hf, fun d hd hd' => above d hd (by omega)⟩

theorem State.talker_eq_some (i : Fin 8) :
    s.talker n = some i ↔ ∃ c, s.Speaks n c i ∧ ∀ d j, c < d → ¬ s.Speaks n d j := by
  have candidate (c : Nat) (j : Fin 8) :
      ((s.talkRow c).inService.filter fun i => (s.talkSource i).targets.getLsbD n) = some j
        ↔ (s.talkRow c).inService = some j ∧ (s.talkSource j).targets.getLsbD n = true := Option.filter_eq_some_iff
  have downward : s.talker n = (List.range 4).reverse.findSome?
      fun c => (s.talkRow c).inService.filter fun i => (s.talkSource i).targets.getLsbD n := rfl
  rw [downward, findSome?_downward]
  simp only [candidate, Option.eq_none_iff_forall_ne_some, ne_eq, State.Speaks]
  constructor
  · rintro ⟨c, hc, speaks, above⟩
    exact ⟨c, ⟨hc, speaks⟩, fun d j hd ⟨hd', k⟩ => above d hd hd' j k⟩
  · rintro ⟨c, ⟨hc, speaks⟩, above⟩
    exact ⟨c, hc, speaks, fun d hd hd' j k => above d j hd ⟨hd', k⟩⟩

theorem State.talker_eq_none : s.talker n = none ↔ ∀ c i, ¬ s.Speaks n c i := by
  have downward : s.talker n = [3, 2, 1, 0].findSome?
      fun c => (s.talkRow c).inService.filter fun i => (s.talkSource i).targets.getLsbD n := rfl
  rw [downward, List.findSome?_eq_none_iff]
  simp only [Option.filter_eq_none_iff, State.Speaks]
  constructor
  · rintro silent c i ⟨hc, served, targets⟩
    exact silent c (by simp; omega) i served targets
  · intro silent c hc i served targets
    exact silent c i ⟨by simp at hc; omega, served, targets⟩

/-! ### One bus at the boundary (R142 to R152) -/

/-- The bus after its ramp and duck steps. -/
def State.steppedBus (s : State) (n : Nat) : Bus := (s.bus n).boundary (s.talker n).isSome

/-- The master's result of this frame, before the clamp. -/
def State.mixResult (s : State) (n : Nat) : Int := s.masterResult (s.steppedBus n) (s.talker n)

/-- The clamp leaves what lies in the 24-bit range. -/
theorem clampSample_exact (y : Int) : (clampSample y).toInt = y ↔ -8388608 ≤ y ∧ y ≤ 8388607 := by
  rw [clampSample_toInt]
  omega

theorem State.mixBus_busOut : (State.mixBus n s).audio.busOut = s.audio.busOut.put n (clampSample (s.mixResult n)) := by
  unfold State.mixBus
  dsimp only
  split <;> rfl

/-- The bus takes its steps and counts a clamp; the other buses stay. -/
theorem State.mixBus_bus (hn : n < 16) : (State.mixBus n s).bus m =
    if n = m then { s.steppedBus n with
      clips := if -8388608 ≤ s.mixResult n ∧ s.mixResult n ≤ 8388607 then (s.steppedBus n).clips
        else min ((s.steppedBus n).clips + 1) 65535 }
    else s.bus m := by
  have e : (State.mixBus n s).bus m = if (clampSample (s.mixResult n)).toInt = s.mixResult n
      then (s.setBus n (s.steppedBus n)).bus m
      else ((s.setBus n (s.steppedBus n)).setBus n { s.steppedBus n with clips := saturate (s.steppedBus n).clips }).bus m := by
    unfold State.mixBus
    dsimp only
    exact apply_ite (fun u : State => u.bus m) _ _ _
  simp only [e, State.setBus_bus hn, clampSample_exact]
  (repeat' split) <;> rfl

/-! ### The local outputs (R85, R86) -/

theorem State.outputs_localOut (hn : n < 64) :
    s.outputs.audio.localOut.get n = if s.isDesk && n == 15 then s.consoleSample else s.dropOutput n := Tab.get_ofFn _ hn

/-- The gain of an output: unity with its drop trim and a tracking term, brought within the codes that sound. -/
theorem State.dropCode_eq (t : Int) :
    s.dropCode n t = (max 1 (min (192 + s.plan.dtrim.get n + t) 255)).toNat := by
  rw [State.dropCode, trimmedCode_eq, Int.add_assoc]
  rfl

theorem State.dropOutput_ring {sl : Fin 128} (h : s.activeDrops.get n = .ring sl) : s.dropOutput n =
    clampSample (scale (s.present.slots.get sl.val).last.toInt (s.dropCode n (s.trackingTerm sl.val))) := by
  rw [State.dropOutput, h]
  rfl

theorem State.dropOutput_bus {b : Fin 16} (h : s.activeDrops.get n = .bus b) :
    s.dropOutput n = clampSample (scale (s.busSample b.val).toInt (s.dropCode n 0)) := by
  rw [State.dropOutput, h]

theorem State.dropOutput_localIn {k : Fin 64} (h : s.activeDrops.get n = .localIn k) :
    s.dropOutput n = clampSample (scale (s.localSample k.val).toInt (s.dropCode n 0)) := by
  rw [State.dropOutput, h]

theorem State.dropOutput_silent (h : s.activeDrops.get n = .silent) : s.dropOutput n = 0 := by
  rw [State.dropOutput, h]

/-- A sample that is absent on a condition gives silence there, and elsewhere its clamped scaling. -/
theorem clampSample_scale_ite {p : Prop} [Decidable p] (x : Sample) (c : Nat) :
    (clampSample (scale (if p then 0 else x : Sample).toInt c)).toInt
      = if p then 0 else max (-8388608) (min (scale x.toInt c) 8388607) := by
  split
  · have silence : (0 : Sample).toInt = 0 := rfl
    rw [silence, scale_silence, clampSample_toInt]
    rfl
  · exact clampSample_toInt _

/-- Settles O54: the local outputs, the bus after its steps, its result and its talker. -/
theorem busesMixed : Obligations.BusesMixed := by
  refine ⟨fun s n hn => ?_, fun s n hn => ?_⟩
  · intro t term gain clamped
    have tracking (sl : Fin 128) : s.trackingTerm sl.val = term sl := rfl
    have code (x : Int) : s.dropCode n x = gain x := State.dropCode_eq x
    refine ⟨by simp [t], rfl, rfl, fun hd h15 => ?_, fun hd => ?_⟩
    · rw [State.outputs_localOut hn, if_pos (by simp [hd, h15])]
    · have out : t.audio.localOut.get n = s.dropOutput n := by
        rw [State.outputs_localOut hn, if_neg (by simpa [imp_iff_not_or] using hd)]
      rw [out]
      refine ⟨fun sl h => ?_, fun b h => ?_, fun k h => ?_, fun h => ?_⟩
      · rw [State.dropOutput_ring h, clampSample_toInt, tracking, code]
      · rw [State.dropOutput_bus h, State.busSample_eq, clampSample_scale_ite, code]
      · have channel : k.val = 15 ↔ k = 15 := (Fin.ext_iff (b := (15 : Fin 64))).symm
        rw [State.dropOutput_localIn h, State.localSample_eq, clampSample_scale_ite, code]
        simp only [channel]
        rfl
      · rw [State.dropOutput_silent h]
        rfl
  · intro old toward moved b sample trim term program talk y t
    have stepped : s.steppedBus n = b := by
      unfold State.steppedBus
      simp only [b]
      split
      · next taken => exact Bus.boundary_taken taken _
      · next taken =>
        rw [Bool.not_eq_true] at taken
        split
        · next hr => exact Bus.boundary_expires taken hr _
        · next hr => exact Bus.boundary_counts taken hr _
    have source (a : AudioSource) : s.mixSource a = (sample a, trim a) := by cases a <;> rfl
    have sends : s.program b = program := by
      refine congrArg List.sum (List.map_congr_left fun x _ => ?_)
      rw [State.sendTerm, source]
      rfl
    have ⟨level, clips⟩ : b.talkLevel = old.talkLevel ∧ b.clips = old.clips := by
      simp only [b]
      (repeat' split) <;> exact ⟨rfl, rfl⟩
    have spoken : s.talkTerm b (s.talker n) = talk := by
      simp only [talk, State.talkTerm, level]
      cases s.talker n with
      | none => rfl
      | some i => exact congrArg (fun z => scale z.1 old.talkLevel) (source _)
    have result : s.mixResult n = y := by
      rw [State.mixResult, stepped, State.masterResult, sends, spoken]
      rfl
    refine ⟨by simp [t], ?_, fun m hm => ⟨?_, ?_⟩, ?_, ?_, State.talker_eq_some, State.talker_eq_none⟩
    · rw [State.mixBus_busOut, result, Tab.get_put_same _ _ hn, clampSample_toInt]
    · rw [State.mixBus_busOut, Tab.get_put_ne _ _ hm.symm]
    · rw [State.mixBus_bus hn, if_neg hm.symm]
    · rw [State.mixBus_audio]
    · rw [State.mixBus_bus hn, if_pos rfl, result, stepped, clips]

end Sys2Proof.Machine
end

section
/-! A bus's send list replaced, and REMOVE_SEND (R140, R141); settled for O46. -/

namespace Sys2Proof.Machine

variable {s : State} {c : Cell} {x : Send} {b m p : Nat}

/-! ### A send list replaced -/

/-- One bus's list is replaced, the rest of that bus and the other buses stay. -/
theorem State.setSends_bus (hb : b < 16) (l : List Send) :
    (s.setSends b l).bus m = if b = m then { s.bus b with sends := l } else s.bus m := State.setBus_bus hb

/-- A list replaced by itself changes nothing. -/
theorem State.setSends_self (b : Nat) : s.setSends b (s.bus b).sends = s := by
  have same : s.buses.put b { s.bus b with sends := (s.bus b).sends } = s.buses := Tab.put_get s.buses b
  unfold State.setSends State.setBus
  rw [same]
  rfl

/-- What follows for every bus from an answered replacement of one bus's list. -/
theorem State.setSends_answered (hb : b < 16) (l : List Send) (r : Reply) :
    (∀ m, m ≠ b → ((s.popWork.setSends b l).answer c r).bus m = s.bus m)
    ∧ ((s.popWork.setSends b l).answer c r).bus b = { s.bus b with sends := l }
    ∧ Answered s ((s.popWork.setSends b l).answer c r) c r := by
  have bus (m : Nat) : ((s.popWork.setSends b l).answer c r).bus m = if b = m then { s.bus b with sends := l } else s.bus m := by
    rw [State.bus, State.answer_buses]
    exact State.setSends_bus hb l
  exact ⟨fun m hm => by rw [bus, if_neg hm.symm], by rw [bus, if_pos rfl], answered_of rfl rfl⟩

/-! ### REMOVE_SEND (R140, R141) -/

theorem State.removeSend_refused (h : 15 < b ∨ (s.bus b).sends.length ≤ p) :
    s.removeSend b p = (s, reply .badIndex []) := by
  unfold State.removeSend
  split
  · rfl
  · next hb => rw [List.getElem?_eq_none (h.resolve_left hb)]; rfl

theorem State.removeSend_silent (hb : b ≤ 15) (h : (s.bus b).sends[p]? = some x) (h0 : x.applied = 0) :
    s.removeSend b p = (s.setSends b ((s.bus b).sends.eraseIdx p), reply .done [1]) := by
  simp [State.removeSend, Nat.not_lt.mpr hb, h, h0]

theorem State.removeSend_drains (hb : b ≤ 15) (h : (s.bus b).sends[p]? = some x) (h0 : x.applied ≠ 0) :
    s.removeSend b p =
      (s.setSends b ((s.bus b).sends.set p { x with target := 0, draining := true }), reply .done [0]) := by
  simp [State.removeSend, Nat.not_lt.mpr hb, h, h0]

/-- Settles O46: the three cases of REMOVE_SEND. -/
theorem sendsRemoved : Obligations.SendsRemoved := by
  intro s c ⟨hr, hc, hl⟩ hs old
  have hx : exec .removeSend s = .next ((s.popWork.removeSend (c.arg 1) (c.arg 2)).1.answer c
      (s.popWork.removeSend (c.arg 1) (c.arg 2)).2) := congrArg _ (State.runAct_of hr hc hl fun _ => hs)
  refine ⟨_, hx, fun h => ?_, fun x hb hx' => ⟨exec_onlyIn (c := .removeSend) hx, ?_⟩⟩
  · rw [State.removeSend_refused (s := s.popWork) h]
    exact answered_popWork
  · have hb' : c.arg 1 < 16 := by omega
    by_cases h0 : x.applied = 0
    · rw [State.removeSend_silent (s := s.popWork) hb hx' h0]
      obtain ⟨others, own, answered⟩ := State.setSends_answered (s := s) (c := c) hb' (old.eraseIdx (c.arg 2)) (reply .done [1])
      exact ⟨others, fun _ => ⟨own, answered⟩, fun h => absurd h0 h⟩
    · rw [State.removeSend_drains (s := s.popWork) hb hx' h0]
      obtain ⟨others, own, answered⟩ := State.setSends_answered (s := s) (c := c) hb'
        (old.set (c.arg 2) { x with target := 0, draining := true }) (reply .done [0])
      exact ⟨others, fun h => absurd h h0, fun _ => ⟨own, answered⟩⟩

end Sys2Proof.Machine
end

section
/-! The WRITE of SEND entries (R137 to R139); settled for O34. -/

namespace Sys2Proof.Machine

variable {s : State} {c : Cell} {l : List Send} {x : Send} {a : AudioSource} {b p q v : Nat}

/-! ### A send list after a write (R138, R139) -/

theorem sendWrite_beyond (h : l.length < p) : sendWrite l p a v = .error .badIndex := if_pos h

theorem sendWrite_own (h : l[p]? = some x) (hs : x.source = a) : sendWrite l p a v = .ok (l.set p (x.takeOver v)) := by
  have hp : p < l.length := (List.getElem?_eq_some_iff.mp h).1
  simp [sendWrite, Nat.not_lt.mpr hp.le, h, hs]

theorem sendWrite_other (h : l[p]? = some x) (hs : x.source ≠ a) :
    sendWrite l p a v = .error (if l.length = 32 ∧ ∀ y ∈ l, y.source ≠ a then .full else .sourceFixed) := by
  have hp : p < l.length := (List.getElem?_eq_some_iff.mp h).1
  simp only [sendWrite, Nat.not_lt.mpr hp.le, h, hs, if_false, ← Bool.not_eq_true, hasSource_false]
  split <;> rfl

theorem sendWrite_new (h : ∀ y ∈ l, y.source ≠ a) : sendWrite l l.length a v = .ok (l ++ [⟨a, v, 0, false⟩]) := by
  simp [sendWrite, hasSource_false.mpr h]

theorem sendWrite_present (h : ∃ y ∈ l, y.source = a) : sendWrite l l.length a v =
    if isDraining l a then .ok (l.map fun y => if y.source = a then y.takeOver v else y) else .error .duplicate := by
  have present : hasSource l a = true := by simpa [hasSource] using h
  simp [sendWrite, present]

/-- In a list without a source twice, the send of a source at one place is the only one of that source. -/
theorem eq_of_source {j : Nat} {y : Send} (hn : (l.map Send.source).Nodup) (hq : l[q]? = some x) (hj : l[j]? = some y)
    (hs : x.source = y.source) : q = j := by
  have hlt : q < (l.map Send.source).length := by simpa using (List.getElem?_eq_some_iff.mp hq).1
  exact (List.getElem?_inj hlt hn).mp (by rw [List.getElem?_map, List.getElem?_map, hq, hj]; exact congrArg some hs)

theorem sendWrite_drained (hn : (l.map Send.source).Nodup) (hq : l[q]? = some x) (hs : x.source = a) (hd : x.draining = true) :
    sendWrite l l.length a v = .ok (l.set q (x.takeOver v)) := by
  have hx : x ∈ l := List.mem_of_getElem? hq
  have draining : isDraining l a = true := List.any_eq_true.mpr ⟨x, hx, by simp [hs, hd]⟩
  have placed : (l.map fun y => if y.source = a then y.takeOver v else y) = l.set q (x.takeOver v) := by
    refine List.ext_getElem? fun j => ?_
    rw [List.getElem?_map]
    by_cases e : q = j
    · subst e
      rw [hq, List.getElem?_set_self (List.getElem?_eq_some_iff.mp hq).1]
      exact congrArg some (if_pos hs)
    · rw [List.getElem?_set_ne e]
      cases hj : l[j]? with
      | none => rfl
      | some y => exact congrArg some (if_neg fun k => e (eq_of_source hn hq hj (hs.trans k.symm)))
  rw [sendWrite_present ⟨x, hx, hs⟩, if_pos draining, placed]

theorem sendWrite_duplicate (hn : (l.map Send.source).Nodup) (hx : x ∈ l) (hs : x.source = a) (hd : x.draining = false) :
    sendWrite l l.length a v = .error .duplicate := by
  have staying : ¬ isDraining l a = true := by
    intro k
    obtain ⟨y, hy, e⟩ := List.any_eq_true.mp k
    obtain ⟨ey, dy⟩ : y.source = a ∧ y.draining = true := by simpa using e
    have same : y = x := List.inj_on_of_nodup_map hn hy hx (ey.trans hs.symm)
    exact absurd (same ▸ dy) (by simp [hd])
  rw [sendWrite_present ⟨x, hx, hs⟩, if_neg staying]

/-- Behind a send just appended another absent source is appended too. -/
theorem sendWrite_behind_other {y : AudioSource} {w : Nat} (h : ∀ z ∈ l, z.source ≠ y) (ne : a ≠ y) :
    sendWrite (l ++ [⟨a, v, 0, false⟩]) (l.length + 1) y w = .ok (l ++ [⟨a, v, 0, false⟩, ⟨y, w, 0, false⟩]) := by
  have absent : ∀ z ∈ l ++ [⟨a, v, 0, false⟩], z.source ≠ y := by
    simpa [or_imp, forall_and] using ⟨h, ne⟩
  have count : l.length + 1 = (l ++ [(⟨a, v, 0, false⟩ : Send)]).length := by simp
  rw [count, sendWrite_new absent, List.append_assoc]
  rfl

/-- Behind a send just appended its own source is a duplicate: the new send is not draining. -/
theorem sendWrite_behind_same {w : Nat} (h : ∀ z ∈ l, z.source ≠ a) :
    sendWrite (l ++ [⟨a, v, 0, false⟩]) (l.length + 1) a w = .error .duplicate := by
  have staying : isDraining (l ++ [⟨a, v, 0, false⟩]) a = false := by
    simpa [isDraining] using fun z hz e => absurd e (h z hz)
  have count : l.length + 1 = (l ++ [(⟨a, v, 0, false⟩ : Send)]).length := by simp
  rw [count, sendWrite_present ⟨_, List.mem_append_right _ (List.mem_singleton_self _), rfl⟩, staying]
  rfl

/-! ### The bytes of a SEND entry (R137) -/

theorem take_two {bytes : List Byte} (h : 2 ≤ bytes.length) : bytes.take 2 = [byteAt bytes 0, byteAt bytes 1] := by
  match bytes, h with
  | _ :: _ :: _, _ => rfl

/-- Bytes that begin with those of a source spell it. -/
theorem parseSource_of {bytes : List Byte} (h : bytes.take 2 = a.bytes) :
    parseSource (byteAt bytes 0).toNat (byteAt bytes 1).toNat = some a := by
  rw [← parseSource_bytes a, ← h, byteAt_take _ (by decide), byteAt_take _ (by decide)]

/-- Bytes that begin with those of no source spell none. -/
theorem parseSource_none {bytes : List Byte} (hl : 2 ≤ bytes.length) (h : ∀ a : AudioSource, bytes.take 2 ≠ a.bytes) :
    parseSource (byteAt bytes 0).toNat (byteAt bytes 1).toNat = none := by
  refine Option.eq_none_iff_forall_ne_some.mpr fun a ha => h a ?_
  rw [take_two hl, parseSource_some ha]

theorem Cell.source_entryAt {k : Nat} (h : (c.payload.toList.drop (4 + k * 5)).take 2 = a.bytes) :
    (c.entryAt .send k).take 2 = a.bytes := by
  rw [Cell.entryAt, List.take_take]
  exact h

/-! ### One SEND entry (R138) -/

/-- What a write makes of a send list: the new one, or the old one where it is refused. -/
def sendsAfter (old : List Send) : Except Status (List Send) → List Send
  | .ok l => l
  | .error _ => old

/-- What becomes of the entry of that write. -/
def sendFate : Except Status (List Send) → Taken
  | .ok _ => .taken
  | .error st => .refused st

/-- An entry that spells a source is taken or refused by its bus's list. -/
theorem writeSend_of {bytes : List Byte} (hp : p < 32) (h : bytes.take 2 = a.bytes) :
    let r := sendWrite (s.bus b).sends p a (byteAt bytes 2).toNat
    writeSend (b * 32 + p) bytes s = (s.setSends b (sendsAfter (s.bus b).sends r), sendFate r) := by
  have hb : (b * 32 + p) / 32 = b := by omega
  have hp' : (b * 32 + p) % 32 = p := by omega
  simp only [writeSend, parseSource_of h, hb, hp']
  cases sendWrite (s.bus b).sends p a (byteAt bytes 2).toNat with
  | ok l => rfl
  | error st => exact congrArg (·, Taken.refused st) (State.setSends_self b).symm

theorem writeSend_none {i : Nat} {bytes : List Byte} (hl : 2 ≤ bytes.length)
    (h : ∀ a : AudioSource, bytes.take 2 ≠ a.bytes) : writeSend i bytes s = (s, .refused .badIndex) := by
  rw [writeSend, parseSource_none hl h]

/-- A WRITE of one entry that spells a source. -/
theorem writeSend_one (h : WriteReady s c .send (b * 32 + p)) (hs : s.isStage = true) (hp : p < 32)
    (ha : (c.entryWritten .send).take 2 = a.bytes) :
    let r := sendWrite (s.bus b).sends p a (c.arg 6)
    exec .writeSend s = .next ((s.popWork.setSends b (sendsAfter (s.bus b).sends r)).answer c
      (writeReply .send [(b * 32 + p, sendFate r)])) := by
  have hw := writeSend_of (s := s.popWork) (b := b) hp ha
  rw [Cell.byteAt_entryWritten (by decide)] at hw
  exact congrArg _ (State.runWrite_one (w := fun _ => writeSend) h (by decide) (State.tableRefusal_none rfl (.inr hs)) hw)

/-- What the WRITE of one entry that spells a source leaves and answers, by what its bus's list makes of it. -/
theorem writeSend_one_answered (h : WriteReady s c .send (b * 32 + p)) (hs : s.isStage = true) (hb : b < 16) (hp : p < 32)
    (ha : (c.entryWritten .send).take 2 = a.bytes) :
    ∃ t, exec .writeSend s = .next t ∧ (∀ m, m ≠ b → t.bus m = s.bus m) ∧ t.bus b = { s.bus b with sends := (t.bus b).sends }
      ∧ (∀ l, sendWrite (s.bus b).sends p a (c.arg 6) = .ok l → (t.bus b).sends = l ∧ Answered s t c (reply .done [1]))
      ∧ ∀ st, sendWrite (s.bus b).sends p a (c.arg 6) = .error st →
          (t.bus b).sends = (s.bus b).sends ∧ Answered s t c (reply st (word16 (b * 32 + p) ++ [1])) := by
  obtain ⟨others, own, answered⟩ := State.setSends_answered (s := s) (c := c) hb
    (sendsAfter (s.bus b).sends (sendWrite (s.bus b).sends p a (c.arg 6)))
    (writeReply .send [(b * 32 + p, sendFate (sendWrite (s.bus b).sends p a (c.arg 6)))])
  refine ⟨_, writeSend_one h hs hp ha, others, by rw [own], fun l e => ?_, fun st e => ?_⟩
  all_goals
    rw [e] at own answered ⊢
    exact ⟨congrArg Bus.sends own, answered⟩

/-- A WRITE of one entry that spells no source. -/
theorem writeSend_badSource {i : Nat} (h : WriteReady s c .send i) (hs : s.isStage = true)
    (ha : ∀ a : AudioSource, (c.entryWritten .send).take 2 ≠ a.bytes) :
    exec .writeSend s = .next (s.popWork.answer c (reply .badIndex (word16 i ++ [1]))) := by
  have long : 2 ≤ (c.entryWritten .send).length := by
    rw [Cell.entryWritten, List.length_take, List.length_drop, c.payload.length_eq]
    decide
  exact congrArg _ ((State.runWrite_one (w := fun _ => writeSend) h (by decide) (State.tableRefusal_none rfl (.inr hs))
    (writeSend_none long ha)).trans (congrArg _ (writeReply_one _ _ _)))

/-! ### Two SEND entries in a row (R97, R138) -/

/-- A WRITE of two entries from one bus: the second meets the list that the first has left. -/
theorem writeSend_two {y z : AudioSource} (h : WritesReady s c .send (b * 32 + p) 2) (hs : s.isStage = true) (hb : b < 16)
    (hp : p + 1 < 32) (hy : (c.payload.toList.drop 4).take 2 = y.bytes) (hz : (c.payload.toList.drop 9).take 2 = z.bytes) :
    let first := sendWrite (s.bus b).sends p y (c.arg 6)
    let left := sendsAfter (s.bus b).sends first
    let second := sendWrite left (p + 1) z (c.arg 11)
    ∃ u : State, u.service = s.popWork.service ∧ u.straps = s.straps
      ∧ (∀ m, u.bus m = if b = m then { s.bus b with sends := sendsAfter left second } else s.bus m)
      ∧ exec .writeSend s = .next (u.answer c
          (writeReply .send [(b * 32 + p, sendFate first), (b * 32 + p + 1, sendFate second)])) := by
  intro first left second
  have e₁ : writeSend (b * 32 + p) (c.entryAt .send 0) s.popWork = (s.popWork.setSends b left, sendFate first) := by
    have k := writeSend_of (s := s.popWork) (b := b) (p := p) (by omega) (Cell.source_entryAt (k := 0) hy)
    rwa [Cell.byteAt_entryAt (by decide)] at k
  have mid : ((s.popWork.setSends b left).bus b).sends = left := by rw [State.setSends_bus hb, if_pos rfl]
  have e₂ : writeSend (b * 32 + p + 1) (c.entryAt .send 1) (s.popWork.setSends b left) =
      ((s.popWork.setSends b left).setSends b (sendsAfter left second), sendFate second) := by
    have k := writeSend_of (s := s.popWork.setSends b left) (b := b) hp (Cell.source_entryAt (k := 1) hz)
    rwa [Cell.byteAt_entryAt (by decide), mid] at k
  refine ⟨(s.popWork.setSends b left).setSends b (sendsAfter left second), rfl, rfl, fun m => ?_, ?_⟩
  · rw [State.setSends_bus hb, State.setSends_bus hb, if_pos rfl, State.setSends_bus hb]
    split <;> rfl
  · have k := State.runWrite_ready (w := fun _ => writeSend) (q := [.send]) h (by decide) (State.tableRefusal_none rfl (.inr hs))
    have two : (List.range 2).map (c.entryAt .send) = [c.entryAt .send 0, c.entryAt .send 1] := rfl
    simp only [two, writeAll, e₁, e₂] at k
    exact congrArg _ k

/-- Settles O34: two entries from the send count, and one entry by its position and source. -/
theorem sendWrites : Obligations.SendWrites := by
  refine ⟨fun s c b p x y hb hp hs h hlen absent hx hy => ?_, fun s c b p hb hp law h hs => ⟨fun hn => ?_, fun a ha => ?_⟩⟩
  · obtain ⟨u, hservice, hstraps, bus, run⟩ := writeSend_two h hs hb hp hx hy
    have first : sendWrite (s.bus b).sends p x (c.arg 6) = .ok ((s.bus b).sends ++ [⟨x, c.arg 6, 0, false⟩]) :=
      hlen ▸ sendWrite_new fun z hz => (absent z hz).1
    have bus' (r : Reply) (m : Nat) : (u.answer c r).bus m = u.bus m := by rw [State.bus, State.answer_buses]; rfl
    simp only [first, sendsAfter, sendFate] at bus run
    refine ⟨_, run, exec_onlyIn (c := .writeSend) run, ?_⟩
    simp only [bus', bus, if_true]
    refine ⟨fun m hm => if_neg hm.symm, trivial, fun ne => ?_, fun same => ?_⟩
    · simp only [hlen, sendWrite_behind_other (fun z hz => (absent z hz).2) ne]
      exact ⟨trivial, writeReply_taken .send (l := [(_, .taken), (_, .taken)]) (by simp) ▸ answered_of hservice hstraps⟩
    · simp only [hlen, ← same, sendWrite_behind_same fun z hz => (absent z hz).1]
      exact ⟨trivial, writeReply_refused .send (l := [(_, .taken)]) [] _ .duplicate (by simp) ▸ answered_of hservice hstraps⟩
  · exact ⟨_, writeSend_badSource h hs hn, answered_popWork⟩
  · obtain ⟨t, hx, others, own, taken, refused⟩ := writeSend_one_answered h hs hb hp ha
    obtain ⟨-, distinct⟩ := law b hb
    refine ⟨t, hx, exec_onlyIn (c := .writeSend) hx, others, own, fun x hq hsrc => taken _ (sendWrite_own hq hsrc),
      fun x hq hsrc => refused _ (sendWrite_other hq hsrc), ?_, ?_, ?_, fun beyond => refused _ (sendWrite_beyond beyond)⟩
    · rintro rfl absent
      exact taken _ (sendWrite_new absent)
    · rintro q x rfl hq hsrc drains
      exact taken _ (sendWrite_drained distinct hq hsrc drains)
    · rintro x rfl hmem hsrc stays
      exact refused _ (sendWrite_duplicate distinct hmem hsrc stays)

end Sys2Proof.Machine
end

section
/-! The talk register: what a press and a release make of a row, of the sources and of the notices (R157 to R162); and that
every step keeps its law, settled for O57. -/

namespace Sys2Proof.Machine

variable {l : List Group} {s t u : State} {p : Side} {c r : Nat} {i j : Fin 8} {w : TalkRow} {x : Option Nat}

/-! ### A press and a row (R158) -/

/-- The source is enabled and its audio is not lost, so that a press of it can act (R158). -/
def State.Pressable (s : State) (i : Fin 8) : Prop := (s.talkSource i).enabled = true ∧ ¬ LostAudio s i

theorem State.audioLost_iff : s.audioLost (s.talkSource i).audio = true ↔ LostAudio s i := by
  unfold State.audioLost LostAudio
  cases (s.talkSource i).audio <;> simp [State.slotStale]

/-- How a press of a source that can act is decided by the row of its class (R158). -/
def TalkRow.pressOutcome (w : TalkRow) (i : Fin 8) : PressOutcome :=
  if w.inService = some i then .restarted
  else if w.holding = some i then .alreadyHolding
  else if w.inService = none then .served
  else if w.holding = none then .held
  else .refused

theorem State.pressOutcome_unable (h : ¬ s.Pressable i) : s.pressOutcome i = .notActive := by
  unfold State.pressOutcome
  dsimp only
  split
  · rfl
  · next he =>
    rw [if_pos]
    exact State.audioLost_iff.mpr (by_contra fun k => h ⟨by simpa using he, k⟩)

theorem State.pressOutcome_able (h : s.Pressable i) : s.pressOutcome i = (s.rowOf i).pressOutcome i := by
  obtain ⟨he, hl⟩ := h
  rw [State.pressOutcome, he, if_neg (by decide), if_neg (mt State.audioLost_iff.mp hl)]
  rfl

/-- A register row after a press of source i that can act. -/
def TalkRow.pressed (w : TalkRow) (i : Fin 8) (timer : Option Nat) : TalkRow :=
  match w.pressOutcome i with
  | .restarted => { w with timer := timer }
  | .served => { w with inService := some i, timer := timer }
  | .held => { w with holding := some i }
  | _ => w

theorem State.press_unable (h : ¬ s.Pressable i) : s.press i = s := by
  simp only [State.press, State.pressOutcome_unable h]

/-- A press writes the row of the source's class, and no other. -/
theorem State.press_talkRow (hc : (s.talkSource i).cls < 4) (h : s.Pressable i) : (s.press i).talkRow r =
    if (s.talkSource i).cls = r then (s.talkRow r).pressed i s.freshTimer else s.talkRow r := by
  have put (w : TalkRow) (e : (s.rowOf i).pressed i s.freshTimer = w) : (s.setRow (s.talkSource i).cls w).talkRow r =
      if (s.talkSource i).cls = r then (s.talkRow r).pressed i s.freshTimer else s.talkRow r := by
    rw [State.setRow_talkRow hc]
    split
    · next k => rw [← k, ← e]; rfl
    · rfl
  have stays (e : (s.rowOf i).pressed i s.freshTimer = s.rowOf i) : s.talkRow r =
      if (s.talkSource i).cls = r then (s.talkRow r).pressed i s.freshTimer else s.talkRow r := by
    split
    · next k => rw [← k]; exact e.symm
    · rfl
  unfold State.press
  rw [State.pressOutcome_able h]
  dsimp only
  split
  all_goals
    next e => first | exact put _ (by rw [TalkRow.pressed, e]) | exact stays (by rw [TalkRow.pressed, e])

theorem State.press_sources : (s.press i).talk.sources = s.talk.sources := by
  unfold State.press
  dsimp only
  split <;> rfl

/-- A press brings at most its own source into a row. -/
theorem TalkRow.pressed_has (h : (w.pressed i x).has j) : w.has j ∨ j = i := by
  unfold TalkRow.pressed at h
  obtain ⟨a, b, d⟩ := w
  unfold TalkRow.has at *
  split at h <;> grind

/-- A source comes to hold only where another is in service. -/
theorem TalkRow.pressed_lawful (h : w.Lawful) : (w.pressed i x).Lawful := by
  obtain ⟨a, b, d⟩ := w
  obtain ⟨hh, hd⟩ := h
  unfold TalkRow.pressed TalkRow.pressOutcome TalkRow.Lawful
  simp only [Option.isSome_iff_ne_none] at *
  split_ifs <;> grind

/-! ### What leaves the law as it is -/

theorem TalkLaw.of_talk (h : TalkLaw s) (e : t.talk = s.talk) : TalkLaw t := by
  unfold TalkLaw InRow State.talkRow State.talkSource
  rw [e]
  exact h

theorem TalkLaw.of_onlyIn (h : TalkLaw s) (o : OnlyIn l s t) (hl : .talk ∉ l) : TalkLaw t := h.of_talk (o.at .talk hl)

/-- Every group but the talk register and its sources. -/
def groupsButTalk : List Group := [.straps, .portE, .portW, .timing, .ring, .members, .service, .plan, .present, .checker,
  .audio, .preamp, .tracking, .buses, .lines, .sets, .notices, .counters, .image, .pending]

theorem TalkLaw.of_butTalk (h : TalkLaw s) (o : OnlyIn groupsButTalk s t) : TalkLaw t := h.of_onlyIn o (by decide)

theorem TalkLaw.event (h : TalkLaw s) {f : State → State} (hf : TalkLaw (s.setRaised []) → TalkLaw (f (s.setRaised []))) :
    TalkLaw (s.event f) := (hf (h.of_talk rfl)).of_talk (State.event_talk f)

/-- An empty register is lawful whatever the sources. -/
theorem TalkLaw.of_empty (h : t.talk.register = .fill 4 .empty) : TalkLaw t := talkLaw_iff.mpr fun c hc => by
  have e : t.talkRow c = .empty := by rw [State.talkRow, h, Tab.get_fill _ hc]
  rw [e]
  exact ⟨⟨nofun, nofun⟩, fun j k => k.elim nofun nofun⟩

/-! ### What talkback's operations make of the law (R156 to R161) -/

theorem TalkLaw.releaseTalk (h : TalkLaw s) (i : Fin 8) (why : TalkReason) : TalkLaw (s.releaseTalk i why) := by
  refine talkLaw_iff.mpr fun c hc => ⟨(State.releaseTalk_has (j := i) h hc).1, fun j k => ?_⟩
  rw [State.talkSource, State.releaseTalk_sources]
  exact (talkLaw_iff.mp h c hc).2 j ((State.releaseTalk_has h hc).2.mp k).1

/-- A row beyond the register is put nowhere. -/
theorem State.setRow_beyond (h : ¬ c < 4) : (s.setRow c w).talk = s.talk := by
  show { s.talk with register := s.talk.register.put c w } = s.talk
  rw [Tab.put_beyond _ _ (Nat.le_of_not_lt h)]

theorem State.press_beyond (h : ¬ (s.talkSource i).cls < 4) : (s.press i).talk = s.talk := by
  unfold State.press
  dsimp only
  split <;> first | rfl | exact State.setRow_beyond h

theorem TalkLaw.press (h : TalkLaw s) (i : Fin 8) : TalkLaw (s.press i) := by
  by_cases hc : (s.talkSource i).cls < 4
  · by_cases able : s.Pressable i
    · refine talkLaw_iff.mpr fun r hr => ?_
      obtain ⟨lawful, own⟩ := talkLaw_iff.mp h r hr
      have sources (j : Fin 8) : (s.press i).talkSource j = s.talkSource j := by rw [State.talkSource, State.press_sources]; rfl
      simp only [State.press_talkRow hc able, sources]
      by_cases e : (s.talkSource i).cls = r
      · rw [if_pos e]
        refine ⟨TalkRow.pressed_lawful lawful, fun j k => ?_⟩
        rcases TalkRow.pressed_has k with k | rfl
        · exact own j k
        · exact e
      · rw [if_neg e]
        exact ⟨lawful, own⟩
    · rwa [State.press_unable able]
  · exact h.of_talk (State.press_beyond hc)

theorem TalkLaw.holdExpiry (h : TalkLaw s) (c : Nat) : TalkLaw (s.holdExpiry c) := by
  unfold State.holdExpiry
  split
  · split
    · exact h.releaseTalk _ _
    · exact h
  · exact h

theorem TalkLaw.flipLine (h : TalkLaw s) (n : Fin 8) : TalkLaw (s.flipLine n) := by
  have put (y : Line) : TalkLaw (s.setLine n.val y) := h.of_talk rfl
  unfold State.flipLine
  split
  · split
    · dsimp only
      split
      · split
        · exact (put _).press _
        · exact (put _).releaseTalk _ _
      · exact put _
    · exact h
  · exact h

theorem TalkLaw.releaseStale (h : TalkLaw s) : TalkLaw s.releaseStale := by
  rw [State.releaseStale_eq]
  split
  · exact foldl_keeps (fun _ _ => State.releaseLost_law) _ h
  · exact h

theorem TalkLaw.releaseOfNode (h : TalkLaw s) (node : NodeId) : TalkLaw (s.releaseOfNode node) := by
  refine foldl_keeps (p := TalkLaw) (fun u k hu => ?_) _ h
  dsimp only
  split
  · split
    · exact hu.releaseTalk _ _
    · exact hu
  · exact hu

/-- A source in no row takes any values, and a registered one any of its own class. -/
theorem TalkLaw.putSource (h : TalkLaw s) {e : TalkSource}
    (he : (∀ r, r < 4 → ¬ (s.talkRow r).has i) ∨ e.cls = (s.talkSource i).cls) :
    TalkLaw (s.setTalk { s.talk with sources := s.talk.sources.put i.val e }) := by
  refine talkLaw_iff.mpr fun r hr => ?_
  obtain ⟨lawful, own⟩ := talkLaw_iff.mp h r hr
  refine ⟨lawful, fun j k => ?_⟩
  show ((s.talk.sources.put i.val e).get j.val).cls = r
  rw [Tab.get_put _ _ i.isLt]
  split
  · next same =>
    cases Fin.ext same
    exact (he.resolve_left fun out => out r hr k).trans (own i k)
  · exact own j k

/-- A source that its own class's row does not show stands in no row. -/
theorem TalkLaw.not_has (h : TalkLaw s) (hi : s.registered i = false) (r : Nat) (hr : r < 4) : ¬ (s.talkRow r).has i := by
  intro k
  have row : s.rowOf i = s.talkRow r := congrArg s.talkRow ((talkLaw_iff.mp h r hr).2 i k)
  obtain ⟨service, holding⟩ : (s.talkRow r).inService ≠ some i ∧ (s.talkRow r).holding ≠ some i := by
    simpa [State.registered, row] using hi
  exact k.elim service holding

theorem TalkLaw.setTalkSource (h : TalkLaw s) (i : Fin 8) (e : TalkSource) : TalkLaw (s.setTalkSource i e) := by
  unfold State.setTalkSource
  dsimp only
  split
  · exact (h.releaseTalk i .disabled).putSource (.inl fun r hr k => ((State.releaseTalk_has h hr).2.mp k).2 rfl)
  · next stays =>
    refine h.putSource ?_
    cases hi : s.registered i with
    | false => exact .inl (h.not_has hi)
    | true => exact .inr (by_contra fun hc => stays ⟨hi, .inr (.inl hc)⟩)

theorem TalkLaw.writeTalksrc (h : TalkLaw s) (n : Nat) (b : List Byte) : TalkLaw (writeTalksrc n b s).1 := by
  unfold Machine.writeTalksrc State.accept
  split
  · split <;> first | exact h.setTalkSource _ _ | exact h
  · exact h

theorem TalkLaw.setFunction (h : TalkLaw s) (n : Fin 8) (f : LineFunction) : TalkLaw (s.setFunction n f) := by
  have put (v : State) (hv : TalkLaw v) (y : Line) : TalkLaw (v.setLine n.val y).driveLines := hv.of_talk rfl
  unfold State.setFunction
  dsimp only
  split
  · exact h
  · refine put _ ?_ _
    split
    · split
      · exact h.releaseTalk _ _
      · exact h
    · exact h

theorem TalkLaw.writeLine (h : TalkLaw s) (n : Nat) (b : List Byte) : TalkLaw (writeLine n b s).1 := by
  unfold Machine.writeLine State.accept
  split
  · split <;> first | exact h.setFunction _ _ | exact h
  · exact h

theorem TalkLaw.pressCell (h : TalkLaw s) (n : Nat) : TalkLaw (s.pressCell n).1 := by
  unfold State.pressCell State.refuse
  split
  · exact h.press _
  · exact h

theorem TalkLaw.releaseCell (h : TalkLaw s) (n : Nat) : TalkLaw (s.releaseCell n).1 := by
  unfold State.releaseCell State.refuse
  split
  · split
    · exact h.releaseTalk _ _
    · exact h
  · exact h

/-! ### Rosters and the isolation (R32 to R34, R161) -/

theorem TalkLaw.nodeLost (h : TalkLaw s) (node : NodeId) : TalkLaw (s.nodeLost node) := by
  unfold State.nodeLost
  extract_lets owners steps released
  have hs : TalkLaw steps := h.of_butTalk (by simp only [steps, owners]; split <;> simp [groupsButTalk])
  have hr : TalkLaw released := by
    simp only [released]
    split
    · exact hs.releaseOfNode node
    · exact hs
  exact hr.of_butTalk (by simp [groupsButTalk])

theorem TalkLaw.setReach (h : TalkLaw s) (node : NodeId) (y : Reach) : TalkLaw (s.setReach node y) := by
  unfold State.setReach
  extract_lets _ _ put told
  have told : TalkLaw told := h.of_talk rfl
  split
  · exact h.of_talk rfl
  · split
    · split
      · exact told.nodeLost node
      · exact told.of_butTalk (by split <;> simp [groupsButTalk])
      · exact told
    · exact told.of_butTalk (by split <;> simp [groupsButTalk])

theorem TalkLaw.takeRoster (h : TalkLaw s) (roster : Byte) : TalkLaw (s.takeRoster roster) :=
  foldl_keeps (p := TalkLaw) (fun _ _ hu => hu.setReach _ _) _ h

theorem TalkLaw.isolationExpiry (h : TalkLaw s) : TalkLaw s.isolationExpiry := by
  unfold State.isolationExpiry
  split
  · refine foldl_keeps (p := TalkLaw) (fun u node hu => ?_) _ (h.of_talk rfl)
    dsimp only
    split
    · exact hu
    · exact hu.setReach _ _
  · exact h

/-! ### A received frame (R57) -/

theorem TalkLaw.takeLists (h : TalkLaw s) (y : Header) : TalkLaw (s.takeLists y) := by
  unfold State.takeLists
  split
  · exact h.of_talk rfl
  · split
    · exact h.takeRoster _
    · exact h

theorem TalkLaw.ringTraffic (h : TalkLaw s) (y : Header) (slots lane) : TalkLaw (s.ringTraffic y slots lane) := by
  unfold State.ringTraffic
  extract_lets count returned seen locked
  have hl : TalkLaw locked := h.of_butTalk (by simp only [locked]; split <;> simp [groupsButTalk])
  split
  · exact h.of_butTalk (by simp only [seen, returned]; split <;> simp [groupsButTalk])
  · exact (hl.takeLists y).of_butTalk (by simp [groupsButTalk])

theorem TalkLaw.deliver (h : TalkLaw s) (f : Frame) : TalkLaw (s.deliver p f) := by
  unfold State.deliver State.takeFrame
  extract_lets _ locked flagged controlled passed
  have hc : TalkLaw controlled := h.of_butTalk (by simp [controlled, flagged, locked, groupsButTalk])
  have hp : TalkLaw passed := hc.of_butTalk (by simp [passed, groupsButTalk])
  split
  · exact hc
  · split
    · split
      · exact hp.ringTraffic _ _ _
      · exact hp
    · exact hp

theorem TalkLaw.searchFrame (h : TalkLaw s) (y : Option Reference) (f : Frame) : TalkLaw (s.searchFrame p y f) := by
  have port (z : Reference) : TalkLaw (s.setReference p z) := h.of_butTalk (by simp [groupsButTalk])
  unfold State.searchFrame
  split
  · split
    · exact h.deliver f
    · exact port _
  · split
    · exact port _
    · exact h

theorem TalkLaw.receive (h : TalkLaw s) (period : List Byte) : TalkLaw (s.receive p period) := by
  unfold State.receive
  split
  · exact h.deliver _
  · exact h.of_butTalk (by simp [groupsButTalk])
  · exact h.searchFrame _ _
  · exact h.of_butTalk (by split <;> simp [groupsButTalk])
  · exact h.searchFrame _ _
  · exact h

theorem TalkLaw.receivePeriod (h : TalkLaw s) (period : List Byte) : TalkLaw (s.receivePeriod p period) := by
  unfold State.receivePeriod
  split
  · exact h
  · extract_lets kept
    have hk : TalkLaw kept := h.of_butTalk (by simp [kept, groupsButTalk])
    split
    · exact hk.event fun hu => hu.receive _
    · exact hk

/-! ### The boundaries (R24) -/

/-- Everything that stands due keeps the law: of the expiries, the isolation, the max-hold timers and the lines touch talkback. -/
theorem settleKeeps_talkLaw : SettleKeeps TalkLaw where
  quiet _ _ h o := h.of_onlyIn o (by decide)
  absence _ h := h.of_butTalk (by simp [groupsButTalk])
  isolation _ h := h.isolationExpiry
  holdoff _ _ h := h.of_butTalk (by simp [groupsButTalk])
  restore _ _ h := h.of_butTalk (by simp [groupsButTalk])
  unwrap _ _ h := h.of_butTalk (by simp [groupsButTalk])
  swap _ h := h.of_butTalk (by simp [groupsButTalk])
  change _ _ h := h.of_butTalk (by simp [groupsButTalk])
  grace _ _ h := h.of_butTalk (by simp [groupsButTalk])
  reload _ h := h.of_butTalk (by simp [groupsButTalk])
  hold c _ _ h := h.holdExpiry c
  flip n _ h := h.flipLine n
  ack _ h := h.of_butTalk (by simp [groupsButTalk])

theorem State.superframe_sources (levels : Tab Bool 8) : (s.superframe levels).talk.sources = s.talk.sources := by
  have e : (s.superframe levels).talk = { s.talk with register := s.talk.register.map TalkRow.boundary } := by
    unfold State.superframe
    exact State.pulseStrobe_onlyIn.at .talk (by decide)
  rw [e]

/-- A superframe boundary moves the timers of the rows alone (R160). -/
theorem TalkLaw.superframe (h : TalkLaw s) (levels : Tab Bool 8) : TalkLaw (s.superframe levels) := by
  refine talkLaw_iff.mpr fun r hr => ?_
  simp only [State.superframe_talkRow levels hr, State.talkSource, State.superframe_sources]
  exact talkLaw_iff.mp h r hr

theorem TalkLaw.begin (h : TalkLaw s) (levels : Tab Bool 8) : TalkLaw (s.begin levels) := by
  have counted : TalkLaw (s.settle.event State.advance) :=
    (settleKeeps_talkLaw.settle h).of_butTalk (by simp [groupsButTalk])
  unfold State.begin
  dsimp only
  split
  · exact counted.superframe levels
  · exact counted

theorem TalkLaw.originate (h : TalkLaw s) : TalkLaw s.originate := by
  have turned (n : Nat) : TalkLaw (s.originLists.laneTurn n) := h.of_butTalk (by simp [groupsButTalk])
  have roster (v : State) (hv : TalkLaw v) : TalkLaw v.originRoster := by
    unfold State.originRoster
    split
    · refine TalkLaw.takeRoster ?_ _
      exact hv.of_talk rfl
    · exact hv
  unfold State.originate
  dsimp only
  split
  · refine roster _ ?_
    split
    · exact (turned s.originLists.timing.frame).of_butTalk (by simp [groupsButTalk])
    · exact turned _
  · exact h

theorem TalkLaw.frameWork (h : TalkLaw s) (inputs : Tab Sample 64) : TalkLaw (s.frameWork inputs) := by
  have presented (v : State) (hv : TalkLaw v) : TalkLaw v.presentFrame := by
    rw [State.presentFrame_eq]
    exact TalkLaw.releaseStale (hv.of_onlyIn (l := [.present, .tracking, .counters])
      (by simpa using State.compared_only.mono (by simp)) (by decide))
  have heard : TalkLaw (s.setAudio { s.audio with localIn := inputs }).converterLine :=
    h.of_butTalk (by simp [groupsButTalk])
  have sent (v : State) (hv : TalkLaw v) : TalkLaw v.mix.fileOwn.consoleFrame.outputs.sendSupervision :=
    hv.of_butTalk (by simp [groupsButTalk])
  unfold State.frameWork
  exact (sent _ (presented _ heard)).originate.of_butTalk (by simp [groupsButTalk])

theorem TalkLaw.localBoundary (h : TalkLaw s) (inputs : Tab Sample 64) : TalkLaw (s.localBoundary inputs) := by
  unfold State.localBoundary
  split
  · exact h
  · split
    · exact (settleKeeps_talkLaw.settle h).event fun hu => hu.frameWork inputs
    · dsimp only
      refine TalkLaw.event ?_ fun hu => hu.frameWork inputs
      split
      · exact settleKeeps_talkLaw.settle (h.begin _)
      · exact h.begin _

theorem TalkLaw.superframeBoundary (h : TalkLaw s) (levels : Tab Bool 8) : TalkLaw (s.superframeBoundary levels) := by
  unfold State.superframeBoundary
  split
  · exact h.begin levels
  · exact h

/-! ### Images and every command (R168, R177, R178) -/

/-- Freshly loaded sources stand beside an empty register; a node that is no STAGE loads none. -/
theorem TalkLaw.loadTables (h : TalkLaw s) (q : List Chunk) : TalkLaw (s.loadTables q) := by
  unfold State.loadTables
  dsimp only
  split
  · exact .of_empty rfl
  · exact h.of_talk rfl

theorem TalkLaw.loadComplete (h : TalkLaw s) (m : Option (List Byte)) : TalkLaw (s.loadComplete m) := by
  have loaded (y : Image) (q : List Chunk) : TalkLaw ((s.setImage y).loadTables q) :=
    TalkLaw.loadTables (s := s.setImage y) (h.of_talk rfl) q
  have taken : TalkLaw (s.takeImage m) := by
    unfold State.takeImage
    split
    · exact (loaded _ _).of_talk rfl
    · exact (loaded _ _).of_talk rfl
  unfold State.loadComplete
  split
  · exact taken.of_butTalk (by simp [groupsButTalk])
  · exact h

theorem exec_keeps_talkLaw {c : Instr} (hx : exec c s = .next t) (law : TalkLaw s) : TalkLaw t := by
  have queues {u v} (hu : TalkLaw u) (o : OnlyIn [.service] u v) : TalkLaw v := hu.of_onlyIn o (by decide)
  cases c
  case hardReset => cases hx; exact .of_empty rfl
  case imageLoadComplete => cases hx; exact law.event fun hu => hu.loadComplete _
  case receiveFrame => cases hx; exact law.receivePeriod _
  case localFrameBoundary => cases hx; exact law.localBoundary _
  case superframeBoundary => cases hx; exact law.superframeBoundary _
  case isolationCountExpiry => cases hx; exact law.event fun hu => hu.isolationExpiry
  case maxHoldExpiry => cases hx; exact law.event fun hu => hu.holdExpiry _
  case debounceFlip => cases hx; exact law.event fun hu => hu.flipLine _
  case writeTalksrc =>
    cases hx
    exact law.event (State.runWrite_keeps queues fun _ _ _ _ hu => hu.writeTalksrc _ _)
  case writeLines =>
    cases hx
    exact law.event (State.runWrite_keeps queues fun _ _ _ _ hu => hu.writeLine _ _)
  case talkPress => cases hx; exact law.event (State.runAct_keeps queues fun _ _ hu => hu.pressCell _)
  case talkRelease => cases hx; exact law.event (State.runAct_keeps queues fun _ _ hu => hu.releaseCell _)
  case restart =>
    cases hx
    refine law.event (State.runAct_keeps queues fun _ u hu => ?_)
    unfold State.restartAct State.refuse
    split
    · exact hu
    · exact .of_empty (by rw [State.restart_talk])
  all_goals exact law.of_onlyIn (exec_onlyIn hx) (by simp [touches])

/-- Settles O57: the law is kept by every command, and the queue of waiting commands is none of its. -/
theorem talkLawKept : Obligations.TalkLawKept :=
  fun _ _ law hx => step_keeps (fun _ _ h => h) (fun _ _ _ => exec_keeps_talkLaw) hx law

end Sys2Proof.Machine
end

section
/-! Presses and releases as events, with their notices, answers and lines (R158 to R162, R165, R166); settled for O26, O27 and
O47. -/

namespace Sys2Proof.Machine

variable {l : List Group} {s t u v : State} {c : Cell} {n r : Nat} {i j k : Fin 8} {w : TalkRow} {f : State → State}
  {why : TalkReason}

/-! ### How a press is decided (R158) -/

theorem TalkRow.pressOutcome_inService (h : w.inService = some i) : w.pressOutcome i = .restarted := if_pos h

theorem TalkRow.pressOutcome_holding (h : w.inService ≠ some i) (hh : w.holding = some i) :
    w.pressOutcome i = .alreadyHolding := by
  rw [TalkRow.pressOutcome, if_neg h, if_pos hh]

theorem TalkRow.pressOutcome_free (h : w.inService = none) (hh : w.holding ≠ some i) : w.pressOutcome i = .served := by
  rw [TalkRow.pressOutcome, h, if_neg nofun, if_neg hh, if_pos rfl]

theorem TalkRow.pressOutcome_half (h : w.inService = some j) (hj : j ≠ i) (hh : w.holding = none) :
    w.pressOutcome i = .held := by
  simp [TalkRow.pressOutcome, h, hj, hh]

theorem TalkRow.pressOutcome_full (h : w.inService = some j) (hj : j ≠ i) (hh : w.holding = some k) (hk : k ≠ i) :
    w.pressOutcome i = .refused := by
  simp [TalkRow.pressOutcome, h, hj, hh, hk]

/-! ### What a press and a release leave, raise and count (R158, R159, R162) -/

theorem State.press_refused (h : s.pressOutcome i = .refused) :
    s.press i = (s.bump .talkRefusals).raise .talkRefused i.val (s.refusalDetail i) := by
  simp only [State.press, h]

theorem State.press_alreadyHolding (h : s.pressOutcome i = .alreadyHolding) : s.press i = s := by
  simp only [State.press, h]

/-- Where it is not refused, a press raises and counts nothing. -/
theorem State.press_only (h : s.pressOutcome i ≠ .refused) : OnlyIn [.talk, .lines] s (s.press i) := by
  unfold State.press
  dsimp only
  split <;> simp_all

theorem State.press_talkRow_ne (hr : r ≠ (s.talkSource i).cls) (hc : (s.talkSource i).cls < 4) :
    (s.press i).talkRow r = s.talkRow r := by
  by_cases able : s.Pressable i
  · rw [State.press_talkRow hc able, if_neg hr.symm]
  · rw [State.press_unable able]

theorem State.releaseTalk_talkRow_ne (hr : r ≠ (s.talkSource i).cls) : (s.releaseTalk i why).talkRow r = s.talkRow r := by
  by_cases h : r < 4
  · rw [State.releaseTalk_talkRow h, if_neg hr.symm]
  · rw [State.talkRow_beyond h, State.talkRow_beyond h]

theorem State.releaseTalk_notices : (s.releaseTalk i why).notices = s.notices := by
  unfold State.releaseTalk
  dsimp only
  split_ifs <;> rfl

theorem State.releaseTalk_inService (h : (s.rowOf i).inService = some i) : (s.releaseTalk i why).raised = s.raised ++
    [⟨.talkEnded, i.val, [byte why.code, byte (s.talkSource i).cls, 0, byte ((s.rowOf i).holding.elim 255 Fin.val)]⟩] := by
  rw [State.releaseTalk, if_pos h]
  rfl

theorem State.releaseTalk_holding (h : (s.rowOf i).inService ≠ some i) (hh : (s.rowOf i).holding = some i) :
    (s.releaseTalk i why).raised = s.raised ++
      [⟨.talkEnded, i.val, [byte why.code, byte (s.talkSource i).cls, 1, 0xFF]⟩] := by
  rw [State.releaseTalk, if_neg h, if_pos hh]
  rfl

theorem State.releaseTalk_idle (h : (s.rowOf i).inService ≠ some i) (hh : (s.rowOf i).holding ≠ some i) :
    s.releaseTalk i why = s := by
  rw [State.releaseTalk, if_neg h, if_neg hh]

/-! ### Events of talkback (R169) -/

/-- Where an event raises nothing, notices and counters are as its doings leave them. -/
theorem State.event_unraised (h : (f (s.setRaised [])).raised = []) :
    (s.event f).notices = (f (s.setRaised [])).notices ∧ (s.event f).counters = (f (s.setRaised [])).counters := by
  rw [State.event_quiet h]
  exact ⟨rfl, rfl⟩

/-- Where an event raises one notice of talkback, the queue takes it, and beside its doings only lost notices are counted. -/
theorem State.event_raised_one {a : Raised} (h : (f (s.setRaised [])).raised = [a])
    (hn : (f (s.setRaised [])).notices = s.notices) (hs : (f (s.setRaised [])).sets = s.sets) :
    (s.event f).notices = (s.intake a).notices ∧ CountersOutside [.noticesLost] (f (s.setRaised [])) (s.event f) := by
  refine ⟨?_, fun x hx => State.counter_event f (by simpa using hx)⟩
  rw [State.event_one h]
  exact State.intake_notices hn hs

/-- What a press or a release looks at is in u as in s, and u has raised no notice yet. -/
structure TalkBegins (s u : State) : Prop where
  talk : u.talk = s.talk
  present : u.present = s.present
  sets : u.sets = s.sets
  notices : u.notices = s.notices
  counters : u.counters = s.counters
  raised : u.raised = []

/-- The request's leaving the queue, and a line's flip, come before the press or release of their event. -/
theorem TalkBegins.of_onlyIn (o : OnlyIn [.service, .lines] (s.setRaised []) u) : TalkBegins s u :=
  ⟨o.at .talk (by decide), o.at .present (by decide), o.at .sets (by decide), (o.at .notices (by decide)).1,
    o.at .counters (by decide), (o.at .notices (by decide)).2⟩

theorem TalkBegins.source (h : TalkBegins s u) (i : Fin 8) : u.talkSource i = s.talkSource i := by
  rw [State.talkSource, h.talk]
  rfl

theorem TalkBegins.talkRow (h : TalkBegins s u) (r : Nat) : u.talkRow r = s.talkRow r := by
  rw [State.talkRow, h.talk]
  rfl

theorem TalkBegins.rowOf (h : TalkBegins s u) (i : Fin 8) : u.rowOf i = s.rowOf i := by
  rw [State.rowOf, h.source, h.talkRow]
  rfl

theorem TalkBegins.pressable (h : TalkBegins s u) : u.Pressable i ↔ s.Pressable i := by
  unfold State.Pressable LostAudio
  rw [h.source, h.present]

theorem TalkBegins.pressOutcome (h : TalkBegins s u) (i : Fin 8) : u.pressOutcome i = s.pressOutcome i := by
  unfold State.pressOutcome State.audioLost State.slotStale
  rw [h.source, h.rowOf, h.present]

theorem TalkBegins.refusalDetail (h : TalkBegins s u) (i : Fin 8) : u.refusalDetail i = s.refusalDetail i := by
  unfold State.refusalDetail
  rw [h.source, h.rowOf]

theorem TalkBegins.freshTimer (h : TalkBegins s u) : u.freshTimer = loadedTimer s := by
  rw [State.freshTimer, h.sets]
  rfl

/-- The row of a press that can act, by how it is decided. -/
theorem TalkBegins.pressed_rowOf (h : TalkBegins s u) (hc : (s.talkSource i).cls < 4) (able : s.Pressable i)
    (e : t.talk = (u.press i).talk) : t.rowOf i = (s.rowOf i).pressed i (loadedTimer s) := by
  have source : t.talkSource i = s.talkSource i := by
    rw [State.talkSource, e, State.press_sources, h.talk]
    rfl
  have row : t.talkRow (s.talkSource i).cls = (u.press i).talkRow (s.talkSource i).cls := by
    rw [State.talkRow, e]
    rfl
  rw [State.rowOf, source, row, State.press_talkRow (by rwa [h.source]) (h.pressable.mpr able), if_pos (by rw [h.source]),
    h.talkRow, h.freshTimer]
  rfl

/-- An event whose press is not refused leaves notices and counters (R158). -/
theorem TalkBegins.press_quiet (h : TalkBegins s u) (o : OnlyIn [.service, .lines] (u.press i) (f (s.setRaised [])))
    (hq : s.pressOutcome i ≠ .refused) : (s.event f).notices = s.notices ∧ (s.event f).counters = s.counters := by
  have p : OnlyIn [.talk, .lines, .service] u (f (s.setRaised [])) :=
    ((State.press_only (h.pressOutcome i ▸ hq)).mono (by decide)).trans (o.mono (by decide))
  obtain ⟨notices, raised⟩ : _ ∧ _ := p.at .notices (by decide)
  have counters : (f (s.setRaised [])).counters = u.counters := p.at .counters (by decide)
  obtain ⟨hn, hk⟩ := State.event_unraised (raised.trans h.raised)
  exact ⟨hn.trans (notices.trans h.notices), hk.trans (counters.trans h.counters)⟩

/-- An event whose press is refused counts it and raises its notice (R162). -/
theorem TalkBegins.press_refused (h : TalkBegins s u) (o : OnlyIn [.service, .lines] (u.press i) (f (s.setRaised [])))
    (hq : s.pressOutcome i = .refused) :
    (s.event f).counter .talkRefusals = min (s.counter .talkRefusals + 1) 65535
    ∧ CountersOutside [.talkRefusals, .noticesLost] s (s.event f)
    ∧ (s.event f).notices = (s.intake ⟨.talkRefused, i.val, s.refusalDetail i⟩).notices := by
  have p := State.press_refused ((h.pressOutcome i).trans hq)
  obtain ⟨notices, raised⟩ : _ ∧ _ := o.at .notices (by decide)
  have counters : (f (s.setRaised [])).counters = (u.press i).counters := o.at .counters (by decide)
  have sets : (f (s.setRaised [])).sets = (u.press i).sets := o.at .sets (by decide)
  have one : (f (s.setRaised [])).raised = [⟨.talkRefused, i.val, s.refusalDetail i⟩] := by
    rw [raised, p, State.raise_raised, h.refusalDetail, State.bump, State.setCounters_raised, h.raised]
    rfl
  obtain ⟨queue, lost⟩ := State.event_raised_one one (notices.trans ((congrArg State.notices p).trans h.notices))
    (sets.trans ((congrArg State.sets p).trans h.sets))
  have counter (x : CounterId) : (f (s.setRaised [])).counter x = (s.bump .talkRefusals).counter x := by
    rw [State.counter, counters, p]
    simp only [State.raise_counters, State.bump, State.setCounters_counters, State.counter, h.counters]
  refine ⟨?_, fun x hx => ?_, queue⟩
  · rw [lost _ (by decide), counter, State.counter_bump_same]
  · obtain ⟨hr, hl⟩ : x ≠ .talkRefusals ∧ x ≠ .noticesLost := by simpa using hx
    rw [lost x (by simpa using hl), counter, State.counter_bump_ne hr]

theorem State.refusalDetail_of (h : (s.rowOf i).inService = some j) (hh : (s.rowOf i).holding = some k) :
    s.refusalDetail i = [byte (s.talkSource i).cls, byte j.val, byte k.val] := by
  rw [State.refusalDetail, h, hh]
  rfl

/-- An event that presses a source, whatever it does to queues and lines beside, makes of the register what R158 says. -/
theorem TalkBegins.pressed (h : TalkBegins s u) (hc : (s.talkSource i).cls < 4)
    (o : OnlyIn [.service, .lines] (u.press i) (f (s.setRaised []))) : TalkPressed s (s.event f) i := by
  have talk : (s.event f).talk = (u.press i).talk := (State.event_talk f).trans (o.at .talk (by decide))
  have stays (e : u.press i = u) : (s.event f).talk = s.talk := talk.trans ((congrArg State.talk e).trans h.talk)
  have row (able : s.Pressable i) := h.pressed_rowOf hc able talk
  have decided (able : s.Pressable i) {q : PressOutcome} (e : (s.rowOf i).pressOutcome i = q) : s.pressOutcome i = q :=
    (State.pressOutcome_able able).trans e
  have quiet {q : PressOutcome} (e : s.pressOutcome i = q) (hq : q ≠ .refused) := h.press_quiet o (e ▸ hq)
  refine ⟨?_, fun r hr => ?_, fun unable => ?_, fun able e => ?_, fun able e eh => ?_, fun able e eh => ?_,
    fun j able e hj eh => ?_, fun j k able e eh hj hk => ?_⟩
  · rw [talk, State.press_sources, h.talk]
  · rw [State.talkRow, talk]
    exact (State.press_talkRow_ne (by rwa [h.source]) (by rwa [h.source])).trans (h.talkRow r)
  · exact ⟨stays (State.press_unable (mt h.pressable.mp unable)), quiet (State.pressOutcome_unable unable) (by decide)⟩
  · have q := TalkRow.pressOutcome_inService e
    exact ⟨(row able).trans (by rw [TalkRow.pressed, q]), quiet (decided able q) (by decide)⟩
  · have q := decided able (TalkRow.pressOutcome_holding e eh)
    exact ⟨stays (State.press_alreadyHolding ((h.pressOutcome i).trans q)), quiet q (by decide)⟩
  · have q := TalkRow.pressOutcome_free e eh
    exact ⟨(row able).trans (by rw [TalkRow.pressed, q]), quiet (decided able q) (by decide)⟩
  · have q := TalkRow.pressOutcome_half e hj eh
    exact ⟨(row able).trans (by rw [TalkRow.pressed, q]), quiet (decided able q) (by decide)⟩
  · have q := decided able (TalkRow.pressOutcome_full e hj eh hk)
    have p := State.press_refused ((h.pressOutcome i).trans q)
    have refused := h.press_refused o q
    rw [State.refusalDetail_of e eh] at refused
    exact ⟨talk.trans ((congrArg State.talk p).trans h.talk), refused⟩

/-- An event whose release raises a notice ends with the queue that takes it, and counts nothing but lost notices (R159). -/
theorem TalkBegins.release_told (h : TalkBegins s u) {a : Raised}
    (o : OnlyIn [.service, .lines] (u.releaseTalk i why) (f (s.setRaised [])))
    (e : (u.releaseTalk i why).raised = u.raised ++ [a]) :
    (s.event f).notices = (s.intake a).notices ∧ CountersOutside [.noticesLost] s (s.event f) := by
  obtain ⟨notices, raised⟩ : _ ∧ _ := o.at .notices (by decide)
  have counters : (f (s.setRaised [])).counters = (u.releaseTalk i why).counters := o.at .counters (by decide)
  have sets : (f (s.setRaised [])).sets = (u.releaseTalk i why).sets := o.at .sets (by decide)
  have kept : (u.releaseTalk i why).sets = u.sets :=
    (show OnlyIn [.talk, .lines, .notices, .counters] u (u.releaseTalk i why) by simp).at .sets (by decide)
  obtain ⟨queue, lost⟩ := State.event_raised_one (raised.trans (e.trans (by rw [h.raised]; rfl)))
    (notices.trans (State.releaseTalk_notices.trans h.notices)) (sets.trans (kept.trans h.sets))
  refine ⟨queue, fun x hx => (lost x hx).trans ?_⟩
  rw [State.counter, counters, State.releaseTalk_counters, h.counters]
  rfl

/-- The row of a source's class after its release. -/
theorem TalkBegins.released_rowOf (h : TalkBegins s u) (hc : (s.talkSource i).cls < 4)
    (e : t.talk = (u.releaseTalk i why).talk) : t.rowOf i = (s.rowOf i).without i (loadedTimer s) := by
  have source : t.talkSource i = s.talkSource i := by
    rw [State.talkSource, e, State.releaseTalk_sources, h.talk]
    rfl
  have row : t.talkRow (s.talkSource i).cls = (u.releaseTalk i why).talkRow (s.talkSource i).cls := by
    rw [State.talkRow, e]
    rfl
  rw [State.rowOf, source, row, State.releaseTalk_talkRow hc, if_pos (by rw [h.source]), h.talkRow, h.freshTimer]
  rfl

/-- An event that releases a source, whatever it does to queues and lines beside, makes of the register what R159 says. -/
theorem TalkBegins.released (h : TalkBegins s u) (hc : (s.talkSource i).cls < 4)
    (o : OnlyIn [.service, .lines] (u.releaseTalk i why) (f (s.setRaised []))) : TalkReleased s (s.event f) i why.code := by
  have talk : (s.event f).talk = (u.releaseTalk i why).talk := (State.event_talk f).trans (o.at .talk (by decide))
  have row := h.released_rowOf hc talk
  refine ⟨?_, fun r hr => ?_, fun e => ⟨row.trans (if_pos e), ?_⟩, fun e eh => ⟨row.trans ?_, ?_⟩, fun e eh => ?_⟩
  · rw [talk, State.releaseTalk_sources, h.talk]
  · rw [State.talkRow, talk]
    exact (State.releaseTalk_talkRow_ne (by rwa [h.source])).trans (h.talkRow r)
  · have one := State.releaseTalk_inService (why := why) ((congrArg TalkRow.inService (h.rowOf i)).trans e)
    rw [h.rowOf, h.source] at one
    exact h.release_told o one
  · rw [TalkRow.without, if_neg e, if_pos eh]
  · have one := State.releaseTalk_holding (why := why) (by rwa [h.rowOf]) ((congrArg TalkRow.holding (h.rowOf i)).trans eh)
    rw [h.source] at one
    exact h.release_told o one
  · rw [State.releaseTalk_idle (by rwa [h.rowOf]) (by rwa [h.rowOf])] at o talk
    obtain ⟨notices, raised⟩ : _ ∧ _ := o.at .notices (by decide)
    have counters : (f (s.setRaised [])).counters = u.counters := o.at .counters (by decide)
    obtain ⟨hn, hk⟩ := State.event_unraised (raised.trans h.raised)
    exact ⟨talk.trans h.talk, hn.trans (notices.trans h.notices), hk.trans (counters.trans h.counters)⟩

/-! ### The max-hold timer (R160) -/

theorem State.holdExpiry_due (ht : (s.talkRow n).timer = some 0) (hi : (s.talkRow n).inService = some i) :
    s.holdExpiry n = s.releaseTalk i .timeout := by
  have due : s.holdDue n = true := by simp [State.holdDue, ht, hi]
  rw [State.holdExpiry, if_pos due, hi]

/-- Settles O26: the expiry is a release of the talker of the class, as an event. -/
theorem maxHoldTimesOut : Obligations.MaxHoldTimesOut := by
  intro c s i ht hi hc
  have begins : TalkBegins s (s.setRaised []) := .of_onlyIn .refl
  have fires : (s.setRaised []).holdExpiry c.val = (s.setRaised []).releaseTalk i .timeout := State.holdExpiry_due ht hi
  have released := begins.released (f := (·.holdExpiry c.val)) (why := .timeout) (hc ▸ c.isLt) (fires ▸ .refl)
  obtain ⟨sources, others, service, -, -⟩ := id released
  have own : s.rowOf i = s.talkRow c.val := congrArg s.talkRow hc
  have source : (s.event (·.holdExpiry c.val)).talkSource i = s.talkSource i := by rw [State.talkSource, sources]; rfl
  obtain ⟨row, -⟩ := service (own ▸ hi)
  rw [State.rowOf, source, hc, own] at row
  exact ⟨_, rfl, exec_onlyIn (c := .maxHoldExpiry c) rfl, sources, row, fun d hd => others d (hc ▸ hd), released⟩

/-! ### Cells (R158, R159) -/

/-- An event that answers a request, leaving queues and straps alone before, has answered it. -/
theorem State.event_answered_of {a : Reply} (hq : u.service = s.popWork.service) (hs : u.straps = s.straps) :
    Answered s (s.event fun _ => u.answer c a) c a := by
  have e : Answered s (u.answer c a) c a := answered_of hq hs
  unfold Answered at e ⊢
  rw [State.event_service, e]

/-- An ACT that its block refuses is answered, and nothing else moves. -/
theorem State.event_runAct_refused {code args : Nat} {act : Cell → State → State × Reply} {a : Reply}
    (h : ActReady s c code args) (hs : s.isStage = true)
    (hx : act c (s.setRaised []).popWork = ((s.setRaised []).popWork, a)) :
    s.event (·.runAct code true args act) = s.popWork.answer c a :=
  (State.event_runAct h hs hx).trans State.event_refused

theorem TalkBegins.popWork : TalkBegins s (s.setRaised []).popWork := .of_onlyIn (by simp)

theorem State.pressCell_source (h : n = i.val) : s.pressCell n = (s.press i, s.pressReply i) := by
  rw [State.pressCell, h, finOf_val]

theorem TalkBegins.pressReply (h : TalkBegins s u) (i : Fin 8) : u.pressReply i = s.pressReply i := by
  unfold State.pressReply
  rw [h.pressOutcome, h.refusalDetail]

/-- The state after a TALK_PRESS of source i. -/
def State.pressTaken (s : State) (c : Cell) (i : Fin 8) : State :=
  s.event fun _ => ((s.setRaised []).popWork.press i).answer c (s.pressReply i)

/-- TALK_PRESS of a source is its press and the answer, as an event of their own. -/
theorem execTalkPress_eq (h : ActReady s c 0x30 1) (hs : s.isStage = true) (hi : c.arg 1 = i.val) :
    exec .talkPress s = .next (s.pressTaken c i) := by
  rw [State.pressTaken, ← TalkBegins.popWork.pressReply (u := (s.setRaised []).popWork)]
  exact congrArg _ (State.event_runAct (act := fun c s => s.pressCell (c.arg 1)) h hs (State.pressCell_source hi))

theorem State.pressTaken_pressed (hc : (s.talkSource i).cls < 4) : TalkPressed s (s.pressTaken c i) i :=
  TalkBegins.popWork.pressed (f := fun _ => _) hc (by simp)

theorem State.pressTaken_answered {a : Reply} (h : s.pressReply i = a) : Answered s (s.pressTaken c i) c a := by
  have o : OnlyIn [.talk, .lines, .notices, .counters] (s.setRaised []).popWork ((s.setRaised []).popWork.press i) := by simp
  exact h ▸ State.event_answered_of (o.at .service (by decide)) (o.at .straps (by decide))

/-- A press that does nothing is answered, and nothing else moves. -/
theorem State.pressTaken_idle (h : s.pressOutcome i = .notActive ∨ s.pressOutcome i = .alreadyHolding) :
    OnlyIn [.service] s (s.pressTaken c i) := by
  have idle : (s.setRaised []).popWork.press i = (s.setRaised []).popWork := by
    unfold State.press
    rw [TalkBegins.popWork.pressOutcome]
    rcases h with e | e <;> rw [e]
  rw [State.pressTaken, idle, State.event_refused]
  exact answered_popWork.1

/-- The cases of a press by cell, its effect on the register aside (R158, R162). -/
theorem State.pressTaken_cases (c : Cell) (i : Fin 8) :
    (¬ s.Pressable i → OnlyIn [.service] s (s.pressTaken c i) ∧ Answered s (s.pressTaken c i) c (reply .notActive []))
    ∧ (s.Pressable i → (s.rowOf i).inService = some i → Answered s (s.pressTaken c i) c (reply .done [0, 1]))
    ∧ (s.Pressable i → (s.rowOf i).inService ≠ some i → (s.rowOf i).holding = some i →
        OnlyIn [.service] s (s.pressTaken c i) ∧ Answered s (s.pressTaken c i) c (reply .done [1, 0]))
    ∧ (s.Pressable i → (s.rowOf i).inService = none → (s.rowOf i).holding ≠ some i →
        Answered s (s.pressTaken c i) c (reply .done [0, 0]))
    ∧ (∀ j, s.Pressable i → (s.rowOf i).inService = some j → j ≠ i → (s.rowOf i).holding = none →
        Answered s (s.pressTaken c i) c (reply .done [1, 0]))
    ∧ ∀ j k, s.Pressable i → (s.rowOf i).inService = some j → (s.rowOf i).holding = some k → j ≠ i → k ≠ i →
        Answered s (s.pressTaken c i) c (reply .full [byte (s.talkSource i).cls, byte j.val, byte k.val]) := by
  have answered {o : PressOutcome} {a : Reply} (e : s.pressOutcome i = o)
      (h : s.pressOutcome i = o → s.pressReply i = a) : Answered s (s.pressTaken c i) c a := State.pressTaken_answered (h e)
  have decided (able : s.Pressable i) {o : PressOutcome} (e : (s.rowOf i).pressOutcome i = o) : s.pressOutcome i = o :=
    (State.pressOutcome_able able).trans e
  refine ⟨fun unable => ?_, fun able e => ?_, fun able e eh => ?_, fun able e eh => ?_, fun j able e hj eh => ?_,
    fun j k able e eh hj hk => ?_⟩
  · have o := State.pressOutcome_unable unable
    exact ⟨State.pressTaken_idle (.inl o), answered o fun e => by rw [State.pressReply, e]⟩
  · exact answered (decided able (TalkRow.pressOutcome_inService e)) fun e => by rw [State.pressReply, e]
  · have o := decided able (TalkRow.pressOutcome_holding e eh)
    exact ⟨State.pressTaken_idle (.inr o), answered o fun e => by rw [State.pressReply, e]⟩
  · exact answered (decided able (TalkRow.pressOutcome_free e eh)) fun e => by rw [State.pressReply, e]
  · exact answered (decided able (TalkRow.pressOutcome_half e hj eh)) fun e => by rw [State.pressReply, e]
  · refine answered (decided able (TalkRow.pressOutcome_full e hj eh hk)) fun o => ?_
    simp only [State.pressReply, o, State.refusalDetail, e, eh, Option.elim]

/-- The state after a TALK_RELEASE of a registered source i. -/
def State.releaseTaken (s : State) (c : Cell) (i : Fin 8) : State :=
  s.event fun _ => ((s.setRaised []).popWork.releaseTalk i .cell).answer c
    (reply .done [byte ((s.promotedBy i).elim 255 Fin.val)])

theorem State.releaseCell_registered (h : n = i.val) (hr : s.registered i = true) :
    s.releaseCell n = (s.releaseTalk i .cell, reply .done [byte ((s.promotedBy i).elim 255 Fin.val)]) := by
  rw [State.releaseCell, h, finOf_val]
  exact if_pos hr

theorem State.releaseCell_unregistered (h : n = i.val) (hr : s.registered i = false) :
    s.releaseCell n = (s, reply .notActive []) := by
  rw [State.releaseCell, h, finOf_val]
  exact if_neg (by rw [hr]; decide)

theorem execTalkRelease_registered (h : ActReady s c 0x31 1) (hs : s.isStage = true) (hi : c.arg 1 = i.val)
    (hr : s.registered i = true) : exec .talkRelease s = .next (s.releaseTaken c i) :=
  congrArg _ (State.event_runAct (act := fun c s => s.releaseCell (c.arg 1)) h hs (State.releaseCell_registered hi hr))

/-- The release of a source that is not registered is refused. -/
theorem execTalkRelease_unregistered (h : ActReady s c 0x31 1) (hs : s.isStage = true) (hi : c.arg 1 = i.val)
    (hr : s.registered i = false) : exec .talkRelease s = .next (s.popWork.answer c (reply .notActive [])) :=
  congrArg _ (State.event_runAct_refused (act := fun c s => s.releaseCell (c.arg 1)) h hs
    (State.releaseCell_unregistered hi hr))

theorem State.releaseTaken_released (hc : (s.talkSource i).cls < 4) : TalkReleased s (s.releaseTaken c i) i 0 :=
  TalkBegins.popWork.released (f := fun _ => _) (why := .cell) hc (by simp)

theorem State.releaseTaken_answered :
    Answered s (s.releaseTaken c i) c (reply .done [byte ((s.promotedBy i).elim 255 Fin.val)]) := by
  have o : OnlyIn [.talk, .lines, .notices, .counters] (s.setRaised []).popWork
      ((s.setRaised []).popWork.releaseTalk i .cell) := by simp
  exact State.event_answered_of (o.at .service (by decide)) (o.at .straps (by decide))

theorem State.registered_iff : s.registered i = true ↔ (s.rowOf i).inService = some i ∨ (s.rowOf i).holding = some i := by
  simp [State.registered]

/-- The release of a source in no row leaves register, notices and counters. -/
theorem TalkReleased.of_unregistered (h : s.registered i = false) (o : OnlyIn [.service] s t) : TalkReleased s t i n := by
  have out := mt State.registered_iff.mpr (by rw [h]; decide)
  have talk : t.talk = s.talk := o.at .talk (by decide)
  refine ⟨congrArg Talk.sources talk, fun r _ => congrArg (fun q : Talk => q.register.get r) talk,
    fun e => absurd (.inl e) out, fun _ e => absurd (.inr e) out,
    fun _ _ => ⟨talk, (o.at .notices (by decide)).1, o.at .counters (by decide)⟩⟩

/-- A press or a release of a source above 7 is refused. -/
theorem exec_talk_badIndex (hs : s.isStage = true) (hi : 7 < c.arg 1) :
    (ActReady s c 0x30 1 → exec .talkPress s = .next (s.popWork.answer c (reply .badIndex [])))
    ∧ (ActReady s c 0x31 1 → exec .talkRelease s = .next (s.popWork.answer c (reply .badIndex []))) := by
  have none : finOf 8 (c.arg 1) = none := finOf_ge (by omega)
  refine ⟨fun h => congrArg _ (State.event_runAct_refused (act := fun c s => s.pressCell (c.arg 1)) h hs ?_),
    fun h => congrArg _ (State.event_runAct_refused (act := fun c s => s.releaseCell (c.arg 1)) h hs ?_)⟩
  · simp only [State.pressCell, none, State.refuse]
  · simp only [State.releaseCell, none, State.refuse]

/-- Settles O47: a press and a release by cell, each by what it makes of the register and by its answer. -/
theorem talkPressesAndReleases : Obligations.TalkPressesAndReleases := by
  refine ⟨fun s c i hs hi hc => ⟨fun h => ?_, fun h => ?_⟩, fun s c hs hi => ⟨fun h => ?_, fun h => ?_⟩⟩
  · have hx := execTalkPress_eq h hs hi
    exact ⟨_, hx, exec_onlyIn hx, State.pressTaken_pressed hc, State.pressTaken_cases c i⟩
  · cases hr : s.registered i with
    | true =>
      have hx := execTalkRelease_registered h hs hi hr
      have answered := State.releaseTaken_answered (s := s) (c := c) (i := i)
      refine ⟨_, hx, exec_onlyIn hx, State.releaseTaken_released hc, fun e => ?_, fun e eh => ?_, fun e eh => ?_⟩
      · rwa [State.promotedBy, if_pos e] at answered
      · rwa [State.promotedBy, if_neg e] at answered
      · exact absurd (State.registered_iff.mp hr) (not_or.mpr ⟨e, eh⟩)
    | false =>
      have hx := execTalkRelease_unregistered h hs hi hr
      have out := mt State.registered_iff.mpr (by rw [hr]; decide)
      exact ⟨_, hx, exec_onlyIn hx, .of_unregistered hr answered_popWork.1, fun e => absurd (.inl e) out,
        fun _ e => absurd (.inr e) out, fun _ _ => answered_popWork⟩
  · exact ⟨_, (exec_talk_badIndex hs hi).1 h, answered_popWork⟩
  · exact ⟨_, (exec_talk_badIndex hs hi).2 h, answered_popWork⟩

/-! ### Control lines (R165, R166) -/

/-- A line's debounced state flips, and its change count starts anew (R165). -/
def State.lineFlipped (s : State) (n : Fin 8) : State :=
  s.setLine n.val { s.line n.val with pressed := !(s.line n.val).pressed, changes := 0 }

theorem State.setLine_line (n : Fin 8) (y : Line) : (s.setLine n.val y).line n.val = y :=
  Tab.get_put_same _ _ n.isLt

theorem State.setLine_line_ne {m : Nat} {y : Line} (h : m ≠ n) : (s.setLine n y).line m = s.line m := Tab.get_put_ne _ _ h.symm

theorem State.lineFlipped_only (n : Fin 8) : OnlyIn [.lines] s (s.lineFlipped n) := by
  unfold State.lineFlipped
  simp

/-- A flip that stands due is a press or a release of the source whose trigger names the line. -/
theorem State.flipLine_due {n : Fin 8} (hc : (s.line n.val).changes = 4) (hf : (s.line n.val).function = .talkButton k) :
    s.flipLine n = if (s.talkSource k).trigger = some n then
      (if (s.line n.val).pressed then (s.lineFlipped n).releaseTalk k .line else (s.lineFlipped n).press k)
      else s.lineFlipped n := by
  have due : s.flipDue n.val = true := by simp [State.flipDue, hc]
  rw [State.flipLine, if_pos due, hf]
  unfold State.lineFlipped
  cases (s.line n.val).pressed <;> rfl

/-- Whatever the flip brings about, of the line's own record only the output follows it. -/
theorem LinesDriven.flipLine {n : Fin 8} (hc : (s.line n.val).changes = 4) (hf : (s.line n.val).function = .talkButton k) :
    LinesDriven (s.lineFlipped n) (s.flipLine n) := by
  rw [State.flipLine_due hc hf]
  split
  · split
    · exact .releaseTalk _ _
    · exact .press _
  · exact .refl

/-- Settles O27: the flip, and where the trigger names the line the press or release that it is, as an event. -/
theorem debouncedLinesPress : Obligations.DebouncedLinesPress := by
  intro n k s hc hf
  have hx : exec (.debounceFlip n) s = .next (s.event (·.flipLine n)) := rfl
  have due := State.flipLine_due (s := s.setRaised []) hc hf
  have begins : TalkBegins s ((s.setRaised []).lineFlipped n) := .of_onlyIn ((State.lineFlipped_only n).mono (by decide))
  have line : (s.event (·.flipLine n)).line n.val = { s.line n.val with
      pressed := !(s.line n.val).pressed, changes := 0, output := ((s.event (·.flipLine n)).line n.val).output } := by
    have driven := LinesDriven.flipLine (s := s.setRaised []) hc hf n.val n.isLt
    rw [State.lineFlipped, State.setLine_line] at driven
    rw [State.line, State.event_lines]
    exact driven
  have sources : (s.event (·.flipLine n)).talk.sources = s.talk.sources := by
    rw [State.event_talk, due]
    split
    · split
      · exact State.releaseTalk_sources.trans (congrArg Talk.sources begins.talk)
      · exact State.press_sources.trans (congrArg Talk.sources begins.talk)
    · exact congrArg Talk.sources begins.talk
  refine ⟨_, hx, exec_onlyIn hx, by rw [line], by rw [line], by rw [line]; exact hf, sources, fun other => ?_,
    fun own cls => ⟨fun up => ?_, fun down => ?_⟩⟩
  · have flips : (s.setRaised []).flipLine n = (s.setRaised []).lineFlipped n := due.trans (if_neg other)
    have quiet : s.event (·.flipLine n) = ((s.setRaised []).lineFlipped n).setRaised s.raised := by
      rw [State.event_quiet (by rw [flips]; rfl), flips]
    rw [quiet]
    exact ⟨State.lineFlipped_only (s := s) n, fun m hm => State.setLine_line_ne (s := s) hm⟩
  · have presses : (s.setRaised []).flipLine n = ((s.setRaised []).lineFlipped n).press k :=
      due.trans ((if_pos own).trans (if_neg (by rw [show ((s.setRaised []).line n.val).pressed = false from up]; decide)))
    exact begins.pressed cls (presses ▸ .refl)
  · have releases : (s.setRaised []).flipLine n = ((s.setRaised []).lineFlipped n).releaseTalk k .line :=
      due.trans ((if_pos own).trans (if_pos down))
    exact begins.released (why := .line) cls (releases ▸ .refl)

end Sys2Proof.Machine
end

section
/-! The WRITE of TALKSRC and LINES entries (R155, R156, R164, R166, R167); settled for O35 and O36. -/

namespace Sys2Proof.Machine

variable {s t u : State} {c : Cell} {b : List Byte} {e : TalkSource} {f : LineFunction} {i : Fin 8} {m : Nat}

/-! ### A WRITE of one entry as an event (R93, R97) -/

/-- A WRITE of one entry that is an event of its own is taken, or refused, and answered. -/
theorem State.event_runWrite {q : List Table} {tb : Table} {k : Nat} {w : Table → EntryWriter} {x : State × Taken}
    (h : WriteReady s c tb k) (hq : tb ∈ q) (ha : s.tableRefusal tb true = none)
    (hw : w tb k (c.entryWritten tb) (s.setRaised []).popWork = x) :
    s.event (·.runWrite q w) = s.event fun _ => x.1.answer c (writeReply tb [(k, x.2)]) := by
  unfold State.event
  dsimp only
  rw [State.runWrite_one (s := s.setRaised []) (w := w) h hq ha hw]

/-! ### The bytes of a talk source (R155, R187) -/

/-- The first byte of a TALKSRC entry holds the class and the enable flag. -/
theorem head_byte {cls : Nat} (hc : cls < 4) (enabled : Bool) :
    let y := byte (cls + if enabled then 128 else 0)
    y.toNat % 16 = cls ∧ bitAt y 7 = enabled := by
  interval_cases cls <;> cases enabled <;> decide

/-- The last byte of a TALKSRC entry names the line that presses, or none. -/
theorem trigger_byte (x : Option (Fin 8)) :
    let y := byte (x.elim 0 fun k => 128 + k.val)
    (if bitAt y 7 then finOf 8 (y.toNat % 8) else none) = x := by
  revert x
  decide

/-- A source of one of the four classes is read back from its own bytes. -/
theorem parseTalk_record (hc : e.cls < 4) : parseTalk e.record = .taken e := by
  obtain ⟨class_, enabled⟩ := head_byte hc e.enabled
  have trigger := trigger_byte e.trigger
  obtain ⟨kind, number, bytes⟩ : ∃ kind number, e.audio.bytes = [kind, number] := by cases e.audio <;> exact ⟨_, _, rfl⟩
  have audio : parseSource kind.toNat number.toNat = some e.audio := by
    have found := parseSource_bytes e.audio
    rw [bytes] at found
    exact found
  have record : e.record = [byte (e.cls + if e.enabled then 128 else 0), kind, number, byte e.targets.toNat
      , byte (e.targets.toNat / 256), byte (e.trigger.elim 0 fun k => 128 + k.val)] := by
    rw [TalkSource.record, bytes]
    rfl
  simp only [record, parseTalk, byteAt, wordAt, List.getD_cons_zero, List.getD_cons_succ, audio, class_, enabled, trigger,
    word16_read e.targets.isLt, BitVec.ofNat_toNat, BitVec.setWidth_eq, Nat.min_eq_left (Nat.le_of_lt_succ hc)]
  exact if_neg (Nat.not_lt.mpr (Nat.le_of_lt_succ hc))

/-! ### TALKSRC (R155, R156) -/

theorem writeTalksrc_spelled (hc : e.cls < 4) (hb : b = e.record) (s : State) (i : Fin 8) :
    writeTalksrc i.val b s = (s.setTalkSource i e, .taken) := by
  rw [writeTalksrc, finOf_val, hb]
  dsimp only
  rw [parseTalk_record hc]
  rfl

/-- What releases a registered source that is written (R156). -/
def State.sourceMoves (s : State) (i : Fin 8) (e : TalkSource) : Prop :=
  e.enabled = false ∨ e.cls ≠ (s.talkSource i).cls ∨ e.audio ≠ (s.talkSource i).audio

theorem State.setTalkSource_released (hi : s.registered i = true) (h : s.sourceMoves i e) :
    (s.setTalkSource i e).talk.register = (s.releaseTalk i .disabled).talk.register := by
  rw [State.setTalkSource, if_pos ⟨hi, h⟩]
  rfl

theorem State.setTalkSource_stays (h : ¬ (s.registered i = true ∧ s.sourceMoves i e)) :
    (s.setTalkSource i e).talk.register = s.talk.register := by
  unfold State.sourceMoves at h
  rw [State.setTalkSource, if_neg h]
  rfl

theorem State.setTalkSource_sources : (s.setTalkSource i e).talk.sources = s.talk.sources.put i.val e := by
  unfold State.setTalkSource
  dsimp only
  split
  · exact congrArg (fun q : Tab TalkSource 8 => q.put i.val e) State.releaseTalk_sources
  · rfl

/-- A source that is disabled or moved stands in no row afterwards. -/
theorem State.setTalkSource_out (law : TalkLaw s) (h : s.sourceMoves i e) {r : Nat} (hr : r < 4) :
    ¬ ((s.setTalkSource i e).talkRow r).has i := by
  cases hi : s.registered i with
  | true =>
    rw [State.talkRow, State.setTalkSource_released hi h]
    exact fun k => ((State.releaseTalk_has law hr).2.mp k).2 rfl
  | false =>
    rw [State.talkRow, State.setTalkSource_stays fun k => by rw [hi] at k; exact absurd k.1 (by decide)]
    exact law.not_has hi r hr

/-- The state after a WRITE of one TALKSRC entry. -/
def State.sourceWritten (s : State) (c : Cell) (i : Fin 8) (e : TalkSource) : State :=
  s.event fun _ => ((s.setRaised []).popWork.setTalkSource i e).answer c (reply .done [1])

theorem execWriteTalksrc_spelled (h : WriteReady s c .talksrc i.val) (hs : s.isStage = true) (hc : e.cls < 4)
    (hb : c.entryWritten .talksrc = e.record) : exec .writeTalksrc s = .next (s.sourceWritten c i e) := by
  refine congrArg _ ((State.event_runWrite (w := fun _ => writeTalksrc) h (by decide)
    (State.tableRefusal_none rfl (.inr hs)) (writeTalksrc_spelled hc hb _ i)).trans ?_)
  rw [writeReply_one]
  rfl

theorem State.sourceWritten_talk : (s.sourceWritten c i e).talk = ((s.setRaised []).popWork.setTalkSource i e).talk := by
  rw [State.sourceWritten, State.event_talk, State.answer_talk]

theorem State.sourceWritten_source (j : Fin 8) :
    (s.sourceWritten c i e).talkSource j = if i.val = j.val then e else s.talkSource j := by
  rw [State.talkSource, State.sourceWritten_talk, State.setTalkSource_sources, Tab.get_put _ _ i.isLt]
  rfl

/-- Settles O35: the entry is the one its bytes spell, and its write is an event that may release the source first. -/
theorem talkSourceWrites : Obligations.TalkSourceWrites := by
  intro s c i e law h hs _ hc hb
  have hx := execWriteTalksrc_spelled h hs hc hb
  have only : OnlyIn [.talk, .lines, .notices, .counters] (s.setRaised []).popWork
      ((s.setRaised []).popWork.setTalkSource i e) := by simp
  have begun : TalkLaw (s.setRaised []).popWork := law.of_talk rfl
  refine ⟨_, hx, exec_onlyIn hx, (State.sourceWritten_source i).trans (if_pos rfl),
    fun j hj => (State.sourceWritten_source j).trans (if_neg fun k => hj (Fin.ext k).symm),
    State.event_answered_of (only.at .service (by decide)) (only.at .straps (by decide)), fun moves r hr k => ?_,
    fun he hk ha => ?_⟩
  · rw [InRow, State.talkRow, State.sourceWritten_talk] at k
    exact State.setTalkSource_out begun moves hr k
  · rw [State.sourceWritten_talk]
    refine State.setTalkSource_stays fun ⟨_, moves⟩ => ?_
    rcases moves with d | d | d
    · rw [he] at d
      cases d
    · exact d hk
    · exact d ha

/-! ### LINES (R164, R166, R167) -/

/-- The function that an entry's first two bytes spell is the one it is found to be. -/
theorem parseFunction_of_take (h : b.take 2 = f.bytes) : parseFunction (byteAt b 0).toNat (byteAt b 1).toNat = some f := by
  rw [← parseFunction_bytes f, ← h, byteAt_take _ (by decide), byteAt_take _ (by decide)]

theorem parseLine_taken {desk : Bool} (h : b.take 2 = f.bytes) (hd : desk = false ∨ f = .off ∨ f = .fault) :
    parseLine desk b = .taken f := by
  rw [parseLine, parseFunction_of_take h]
  rcases hd with rfl | rfl | rfl
  · cases f <;> rfl
  · rfl
  · rfl

theorem parseLine_role {k : Fin 8} (h : b.take 2 = f.bytes) (hf : f = .talkButton k ∨ f = .tally k) :
    parseLine true b = .refused .role := by
  rw [parseLine, parseFunction_of_take h]
  rcases hf with rfl | rfl <;> rfl

theorem writeLine_eq (s : State) (n : Fin 8) (b : List Byte) :
    writeLine n.val b s = s.accept (parseLine s.isDesk b) (s.setFunction n) := by
  rw [writeLine, finOf_val]

theorem State.setFunction_same {n : Fin 8} (h : f = (s.line n.val).function) : s.setFunction n f = s := if_pos h.symm

/-- A PRESSED talk button that takes another function is released where its source's trigger names it (R166). -/
def State.buttonReleased (s : State) (n : Fin 8) : State :=
  match (s.line n.val).function with
  | .talkButton k => if (s.line n.val).pressed ∧ (s.talkSource k).trigger = some n then s.lineRelease k else s
  | _ => s

theorem State.setFunction_new {n : Fin 8} (h : f ≠ (s.line n.val).function) :
    s.setFunction n f = ((s.buttonReleased n).setLine n.val ⟨f, false, 0, none, none⟩).driveLines := if_neg h.symm

theorem LinesDriven.buttonReleased (n : Fin 8) : LinesDriven s (s.buttonReleased n) := by
  unfold State.buttonReleased
  split
  · split
    · exact .releaseTalk _ _
    · exact .refl
  · exact .refl

/-- Beyond the eight records there is none. -/
theorem State.line_beyond (h : ¬ m < 8) : s.line m = default := List.getD_eq_default _ _ (by rw [Tab.length_eq]; omega)

/-- A line with a new function starts afresh, and its output follows the function (R164, R167). -/
theorem State.setFunction_line {n : Fin 8} (h : f ≠ (s.line n.val).function) :
    (s.setFunction n f).line n.val = ⟨f, false, 0, none, (s.setFunction n f).lineOutput f⟩ := by
  rw [State.setFunction_new h, State.driveLines_line n.isLt, State.setLine_line]

/-- Every other line keeps all but its output. -/
theorem State.setFunction_line_ne {n : Fin 8} (hm : m ≠ n.val) :
    (s.setFunction n f).line m = { s.line m with output := ((s.setFunction n f).line m).output } := by
  by_cases h : f = (s.line n.val).function
  · rw [State.setFunction_same h]
  by_cases beyond : m < 8
  · rw [State.setFunction_new h, State.driveLines_line beyond, State.setLine_line_ne hm, LinesDriven.buttonReleased n m beyond]
  · rw [State.line_beyond beyond, State.line_beyond beyond]

/-- What the output of a function is, driven once the ring is out of DARK (R164, R167). -/
theorem State.lineOutput_cases (s : State) (f : LineFunction) :
    (f = .off ∨ (∃ k, f = .talkButton k) ∨ s.ring.state = .dark → s.lineOutput f = none)
    ∧ (f = .fault → s.ring.state ≠ .dark → s.lineOutput f =
        some (decide (s.ring.state = .wrappedE ∨ s.ring.state = .wrappedW ∨ s.ring.state = .isolated)))
    ∧ ∀ k, f = .tally k → s.ring.state ≠ .dark → s.lineOutput f = some (s.talk.serves k) := by
  refine ⟨fun h => ?_, ?_, ?_⟩
  · unfold State.lineOutput
    rcases h with rfl | ⟨k, rfl⟩ | h
    · exact ite_self _
    · exact ite_self _
    · exact if_pos h
  · rintro rfl lit
    rw [State.lineOutput, if_neg lit]
    cases s.ring.state <;> rfl
  · rintro k rfl lit
    rw [State.lineOutput, if_neg lit]

/-- The state after a WRITE of one LINES entry that is taken. -/
def State.lineWritten (s : State) (c : Cell) (n : Fin 8) (f : LineFunction) : State :=
  s.event fun _ => ((s.setRaised []).popWork.setFunction n f).answer c (reply .done [1])

theorem execWriteLines_taken {n : Fin 8} (h : WriteReady s c .lines n.val) (hb : (c.entryWritten .lines).take 2 = f.bytes)
    (hf : s.isStage = true ∨ f = .off ∨ f = .fault) : exec .writeLines s = .next (s.lineWritten c n f) := by
  have desk : (s.setRaised []).popWork.isDesk = false ∨ f = .off ∨ f = .fault := by
    refine hf.imp_left fun hs => ?_
    have role : s.straps.role = .stage := by simpa [State.isStage] using hs
    show (s.straps.role == .desk) = false
    rw [role]
    rfl
  refine congrArg _ ((State.event_runWrite (w := fun _ => writeLine) (q := [.lines])
    (x := ((s.setRaised []).popWork.setFunction n f, .taken)) h (by decide) (State.tableRefusal_none rfl (.inl rfl)) ?_).trans ?_)
  · rw [writeLine_eq, parseLine_taken hb desk]
    rfl
  · rw [writeReply_one]
    rfl

theorem execWriteLines_role {n k : Fin 8} (h : WriteReady s c .lines n.val) (hb : (c.entryWritten .lines).take 2 = f.bytes)
    (hd : s.isDesk = true) (hf : f = .talkButton k ∨ f = .tally k) :
    exec .writeLines s = .next (s.popWork.answer c (reply .role [byte n.val, 1])) := by
  refine congrArg _ ((State.event_runWrite (w := fun _ => writeLine) (x := ((s.setRaised []).popWork, .refused .role)) h
    (by decide) (State.tableRefusal_none rfl (.inl rfl)) ?_).trans ?_)
  · have desk : (s.setRaised []).popWork.isDesk = true := hd
    rw [writeLine_eq, desk, parseLine_role hb hf]
    rfl
  · rw [writeReply_one]
    exact State.event_refused

/-- The function that a line already has is written without a change. -/
theorem State.lineWritten_same {n : Fin 8} (h : f = (s.line n.val).function) :
    s.lineWritten c n f = s.popWork.answer c (reply .done [1]) := by
  have same : (s.setRaised []).popWork.setFunction n f = (s.setRaised []).popWork := State.setFunction_same h
  rw [State.lineWritten, same, State.event_refused]

theorem State.lineWritten_only (c : Cell) (n : Fin 8) (f : LineFunction) :
    OnlyIn [.service, .talk, .lines, .notices, .counters] s (s.lineWritten c n f) := by
  unfold State.lineWritten
  rw [OnlyIn.iff_of ((State.event_only _).mono (by decide))]
  simp

/-- Settles O36: an entry that is refused, one that changes nothing, and one that changes the function. -/
theorem lineWrites : Obligations.LineWrites := by
  intro s c n f h hb
  by_cases hf : s.isStage = true ∨ f = .off ∨ f = .fault
  · have hx := execWriteLines_taken h hb hf
    have only := State.lineWritten_only (s := s) c n f
    have acts : OnlyIn [.talk, .lines, .notices, .counters] (s.setRaised []).popWork
        ((s.setRaised []).popWork.setFunction n f) := by simp
    have line (m : Nat) : (s.lineWritten c n f).line m = ((s.setRaised []).popWork.setFunction n f).line m := by
      rw [State.line, State.lineWritten, State.event_lines, State.answer_lines]
      rfl
    have ring : (s.lineWritten c n f).ring = s.ring := only.at .ring (by decide)
    have output : ((s.setRaised []).popWork.setFunction n f).lineOutput f = (s.lineWritten c n f).lineOutput f := by
      unfold State.lineOutput State.lineWritten
      rw [State.event_ring, State.answer_ring, State.event_talk, State.answer_talk]
    refine ⟨_, hx, fun hd ⟨k, hk⟩ => ?_, fun _ => ⟨only, ?_, fun same => ?_, fun new => ?_⟩⟩
    · have role : s.straps.role = .desk := by simpa [State.isDesk] using hd
      rcases hf with hs | rfl | rfl
      · simp [State.isStage, role] at hs
      · exact absurd hk (by simp)
      · exact absurd hk (by simp)
    · exact State.event_answered_of (acts.at .service (by decide)) (acts.at .straps (by decide))
    · rw [State.lineWritten_same same]
      exact answered_popWork.1
    · have own := (line n.val).trans (State.setFunction_line (s := (s.setRaised []).popWork) new)
      obtain ⟨silent, fault, tally⟩ := (s.lineWritten c n f).lineOutput_cases f
      rw [output] at own
      rw [ring] at silent fault tally
      rw [own]
      refine ⟨rfl, rfl, rfl, rfl, silent, fault, tally, fun m hm => ?_⟩
      have other := (line m).trans (State.setFunction_line_ne (s := (s.setRaised []).popWork) (f := f) hm)
      rw [other]
      exact ⟨rfl, rfl, rfl⟩
  · obtain ⟨stage, off, fault⟩ := not_or.mp hf |>.imp_right not_or.mp
    have hd : s.isDesk = true := by
      cases role : s.straps.role <;> simp_all [State.isStage, State.isDesk]
    have named : ∃ k, f = .talkButton k ∨ f = .tally k := by
      cases f with
      | off => exact absurd rfl off
      | talkButton k => exact ⟨k, .inl rfl⟩
      | tally k => exact ⟨k, .inr rfl⟩
      | fault => exact absurd rfl fault
    obtain ⟨k, hk⟩ := named
    exact ⟨_, execWriteLines_role h hb hd hk, fun _ _ => answered_popWork, fun k => absurd k hf⟩

end Sys2Proof.Machine
end
